-- ==== Sys2Proof/Word.lean ====
section
/-! DEFINITION. The words of the hub (octets, samples, serials) and the operand types of its commands. -/

namespace Sys2Proof

/-- An octet of a frame, a message or a record (12 R205). -/
abbrev Octet := BitVec 8
/-- An audio sample, 16-bit two's complement (00, "Audio samples"). -/
abbrev Sample := BitVec 16
/-- A node's 48-bit identity (00, "serial"). -/
abbrev Serial := BitVec 48
/-- A 32-bit card id (01 section 1.3). -/
abbrev CardId := BitVec 32
/-- A name or a title: a string of octets (00, "Text"). -/
abbrev Text := List Octet

/-- The two branches of the trunk (00, "branch"). -/
inductive Branch where
  | b0 | b1
  deriving DecidableEq, Repr

/-- The two floors (00, "floor"); also the two sides of the seat map. -/
inductive Floor where
  | A | B
  deriving DecidableEq, Repr

/-- The three keys of a seat station (04 section 4.6). -/
inductive Key where
  | mic | priority | next
  deriving DecidableEq, Repr

/-- The events of a key detector (04 R78, R79). -/
inductive KeyEvent where
  | press | release | long
  deriving DecidableEq, Repr

/-- The wall reading (06 section 6.1); `opened` is OPEN. -/
inductive WallReading where
  | opened | closed | moving | absent
  deriving DecidableEq, Repr

/-- A gain setting that may be mute (00, "Gains"), in half-dB. -/
inductive Gain where
  | mute
  | db (n : Int)
  deriving DecidableEq, Repr

/-- A field behind a presence octet (12 R205): absent, given, or behind an octet that is neither 0 nor 1. -/
inductive Mark (α : Type) where
  | absent
  | given (a : α)
  | bad
  deriving DecidableEq, Repr

/-- Where a request came from and the tag that its answer returns (10 R187). -/
structure Head where
  branch : Branch
  source : Octet
  tag : Octet
  deriving DecidableEq, Repr

/-- What follows the tag of a request: fields, or the verdict that the length does not suit the kind (12 R208), or
that a form octet or selector is unknown (10 R192, 08 R154). -/
inductive Body (α : Type) where
  | badLength
  | unknownForm
  | fields (a : α)
  deriving DecidableEq, Repr

/-- One entry of SEAT_MAP (12 R209). Named values and numbers are as given, unchecked. -/
structure SeatMapEntry where
  seat : Nat
  serial : Mark Serial
  side : Nat
  trim : Int
  neighbours : List Nat
  deriving DecidableEq, Repr

/-- A delegate record as given (12.4): card id, name, optional allowance. -/
structure DelegateArg where
  card : CardId
  name : Text
  allowance : Mark Nat
  deriving DecidableEq, Repr

/-- A roster entry as given: ROSTER_EDIT's fields (01 R7) and an entry of ROSTER_PART (12.4). -/
structure RosterArg where
  seat : Nat
  role : Nat
  delegate : Mark DelegateArg
  deriving DecidableEq, Repr

/-- The twelve floor settings (02 section 2.2), each marked present or absent. -/
structure FloorSettingsArg where
  mode : Mark Nat
  openMicLimit : Mark Nat
  fullPolicy : Mark Nat
  autoGrant : Mark Nat
  turnLimit : Mark Nat
  warnLead : Mark Nat
  expiryAction : Mark Nat
  priorityStyle : Mark Nat
  resumePolicy : Mark Nat
  voiceRelease : Mark Nat
  presenceRequired : Mark Nat
  walkinIdle : Mark Nat
  deriving DecidableEq, Repr

/-- The three gate settings (04 section 4.3), each marked present or absent. -/
structure GateSettingsArg where
  openBand : Mark Nat
  closeBand : Mark Nat
  hangTime : Mark Nat
  deriving DecidableEq, Repr

/-- The five mix settings (05 section 5.5), each marked present or absent. -/
structure MixSettingsArg where
  closedGate : Mark Gain
  priorityDuck : Mark Gain
  proximityDuck : Mark Gain
  talkerDuck : Mark Gain
  level : Mark Int
  deriving DecidableEq, Repr

/-- FLOOR_SET (02 R21). -/
structure FloorSetArg where
  floor : Nat
  settings : FloorSettingsArg
  deriving DecidableEq, Repr

/-- GATE_SET (04 R72). -/
structure GateSetArg where
  floor : Nat
  settings : GateSettingsArg
  deriving DecidableEq, Repr

/-- MIX_SET (05 R99). -/
structure MixSetArg where
  floor : Nat
  settings : MixSettingsArg
  deriving DecidableEq, Repr

/-- GRANT (02 R37); seat 0 means head (12 R209). -/
structure GrantArg where
  floor : Nat
  seat : Nat
  deriving DecidableEq, Repr

/-- LINE_SET (05 R101); a given serial that is absent is UNMAPPED (12 R209). -/
structure LineSetArg where
  line : Nat
  serial : Mark (Mark Serial)
  assignment : Mark Nat
  trim : Mark Int
  level : Mark Int
  deriving DecidableEq, Repr

/-- CLOCK_SET (07 R118). -/
structure ClockSetArg where
  minute : Nat
  second : Nat
  deriving DecidableEq, Repr

/-- PROFILE_SET (07 R119, 12 R209). -/
structure ProfileSetArg where
  profile : Nat
  floor : FloorSettingsArg
  gate : GateSettingsArg
  mix : MixSettingsArg
  lead : Mark Nat
  deriving DecidableEq, Repr

/-- BOOK_BEGIN (07 R123, 12.4). -/
structure BookBeginArg where
  id : Nat
  title : Mark Text
  start : Nat
  stop : Nat
  scope : Nat
  profile : Nat
  window : Nat
  overrun : Nat
  n : Nat
  deriving DecidableEq, Repr

/-- EXTEND (07 R133). -/
structure ExtendArg where
  floor : Nat
  minutes : Nat
  deriving DecidableEq, Repr

/-- SCREEN_SET (08 R143). -/
structure ScreenSetArg where
  screen : Nat
  serial : Mark (Mark Serial)
  floor : Mark Nat
  warmup : Mark Nat
  deriving DecidableEq, Repr

/-- The conditions of a layout rule as given (08 R147). -/
structure LayoutArg where
  states : List Nat
  speakers : Nat
  hold : Nat
  queue : Nat
  warning : Nat
  layout : Nat
  deriving DecidableEq, Repr

/-- LAYOUT_SET (08 R147); absent conditions are EMPTY (12 R209). -/
structure LayoutSetArg where
  rule : Nat
  conditions : Mark LayoutArg
  deriving DecidableEq, Repr

/-- CAMERA_SET, camera form (08 R154). -/
structure CameraSetArg where
  camera : Nat
  serial : Mark (Mark Serial)
  floor : Mark Nat
  overview : Mark Nat
  cutDelay : Mark Nat
  minimumHold : Mark Nat
  returnDelay : Mark Nat
  deriving DecidableEq, Repr

/-- CAMERA_SET, preset form (08 R154): entries of a seat and a preset. -/
structure PresetSetArg where
  camera : Nat
  entries : List (Nat × Nat)
  deriving DecidableEq, Repr

/-- PATH_TEST (09 R174). -/
structure PathTestArg where
  seat : Nat
  duration : Nat
  deriving DecidableEq, Repr

/-- TEST_INSERT (09 R173). -/
structure TestInsertArg where
  branch : Nat
  position : Nat
  deriving DecidableEq, Repr

/-- COUNTER_SET (09 R172). -/
structure CounterSetArg where
  branch : Nat
  kinds : Mark (List Nat)
  mode : Mark Nat
  run : Mark Nat
  deriving DecidableEq, Repr

/-- FILTER_SET (10 R186); an absent address and mask is DISABLED (12 R209). -/
structure FilterSetArg where
  entry : Nat
  value : Mark (Octet × Octet)
  deriving DecidableEq, Repr

/-- One report kind of REPORT_SET (10 R191) with its enable and edge select. -/
structure ReportItem where
  kind : Nat
  enable : Mark Nat
  edge : Mark Nat
  deriving DecidableEq, Repr

/-- STATUS_QUERY SEAT (10 R192). -/
structure SeatQueryArg where
  part : Nat
  seat : Nat
  deriving DecidableEq, Repr

/-- POWER_SET (11 R202). -/
structure PowerSetArg where
  delay : Mark Nat
  key : Mark Nat
  card : Mark Nat
  wall : Mark Nat
  console : Mark Nat
  deriving DecidableEq, Repr

/-- One up-slot of five octets (12 R206). In BEACON the two sample octets are not carried and are not read. -/
structure UpSlot where
  sampleHigh : Octet
  sampleLow : Octet
  status : Octet
  wall : Octet
  check : Octet
  deriving DecidableEq, Repr

/-- An up-frame as 12 R206 lays it out; a slot behind a broken cable is missing. -/
structure UpFrame where
  marker : Octet
  kind : Octet
  flags : Octet
  element : Octet
  slots : List (Option UpSlot)
  deriving DecidableEq, Repr

/-- The reply area of a ROLL (12 R206). -/
structure RollReply where
  kind : Octet
  serial : Serial
  check : Octet
  deriving DecidableEq, Repr

end Sys2Proof
end

