-- ==== Sys2Proof/Config.lean ====
section
/-! DEFINITION. What one hub fixes and the manual leaves open: free values without a body. -/

namespace Sys2Proof

/-- The source address that the hub writes into its own messages (00 gives it 0x00 and 0x7F; no rule says which it
writes). Free value, log entry 6. -/
opaque Config.hubSource : Octet

/-- Whether the field of a presence octet other than 0 and 1 is taken to follow it, for the length check of 12 R208.
Free value, log entry 7. -/
opaque Config.strayPresenceFollows : Octet → Bool

/-- How a flag octet other than 0 and 1 is read where its rule does not refuse it (12 R209). Free value, log entry 8. -/
opaque Config.strayFlag : Nat → Bool

/-- By what a failing down-slot check differs from the computed one (09 R173): 0 is replaced by 1. Free value, log
entry 9. -/
opaque Config.checkFlip : Octet

end Sys2Proof
end

