-- ==== Sys2Proof/Syntax.lean ====
section
/-! DEFINITION. The commands of the hub: one constructor for each row of spec/opcode_table.json. -/

namespace Sys2Proof

/-- The 99 steps of the hub's table of operations and events. A request carries where it came from and its tag, and
then its fields or the verdict on its length (log entry 4). -/
inductive Instr where
  /-- POWER_ON_RESET (R15). Applying power returns every piece of hub state, loaded tables and room clock included, to its power-on reset value. -/
  | powerOnReset
  /-- WARM_RESET (R15). Releasing the RST_N input makes a warm reset that keeps loaded tables and the clock and clears all running state. -/
  | warmReset
  /-- RESET_AFTER_ANSWER (R193). The warm reset requested by RESET is made once the OK answer's last element has been sent, or at once if that answer is discarded. -/
  | resetAfterAnswer
  /-- UP_FRAME (R163). A received up-frame is taken: each up-slot feeds link health, the bad-sample hold, status users, the lane element and the path-test checker. -/
  | upFrame (b : Branch) (f : UpFrame)
  /-- DOWN_FRAME (R83). At each down-frame the mix engine computes every bound output of the branch and TI fills the down-slots, lamps and lane items. -/
  | downFrame (b : Branch)
  /-- BRANCH_UP (R161). A DOWN branch that has received 16 consecutive up-frames goes to ENUMERATING, or to BEACON during SLEEP. -/
  | branchUp (b : Branch)
  /-- BRANCH_DOWN (R161). A branch that receives no up-frame for 50 ms goes DOWN, and all its nodes become LOST. -/
  | branchDown (b : Branch)
  /-- ROLL_REPLY (R164). A ROLL reply is taken: a good reply adds a node entry, and a damaged reply is retried up to 4 times. -/
  | rollReply (b : Branch) (r : RollReply)
  /-- ROLL_SILENCE (R164). No ROLL reply within 20 ms ends the enumeration. -/
  | rollSilence (b : Branch)
  /-- NODE_LINK_LOST (R167). An entry whose bad run reaches 800 slots (50 in BEACON) becomes LOST, and the loss is passed to every dependent block. -/
  | nodeLinkLost (b : Branch) (position : Nat)
  /-- NODE_LINK_RECOVERED (R167). A LOST entry whose good run reaches 1,600 slots (100 in BEACON) becomes OK again. -/
  | nodeLinkRecovered (b : Branch) (position : Nat)
  /-- LINK_WINDOW_END (R168). At the end of each 1 s window, an entry's bad-slot count moves it between OK and DEGRADED. -/
  | linkWindowEnd
  /-- LANE_MESSAGE_COMPLETE (R180). A completed inbound message is checked for CRC and source, then filtered, relayed, queued as a request or discarded. -/
  | laneMessageComplete (b : Branch) (position : Nat) (octets : List Octet)
  /-- CARD_IN (R9). A CARD_IN station message is matched against the meeting of the seat's floor and may make the seat PRESENT. -/
  | cardIn (b : Branch) (position : Nat) (card : CardId)
  /-- CARD_OUT (R10). A CARD_OUT station message may make the seat ABSENT and release it when presence is required. -/
  | cardOut (b : Branch) (position : Nat) (card : CardId)
  /-- RELAY_PLACED (R185). A relayed message waiting for room is placed in its target branch's outbound queue, freeing its inbound place. -/
  | relayPlaced (b : Branch)
  /-- TURN_OFFER (R181). With the phase FREE and no lane hold, the turn is offered round-robin to the next waiting position. -/
  | turnOffer (b : Branch)
  /-- TURN_OFFER_LAPSE (R181). An offer whose wait count reaches 8 frames with no start element lapses. -/
  | turnOfferLapse (b : Branch)
  /-- RECEPTION_GAP_TIMEOUT (R182). A reception with a gap of more than 4 frames is discarded and counted as a framing error. -/
  | receptionGapTimeout (b : Branch)
  /-- OUTBOUND_MESSAGE_SENT (R188). The last element of an outbound message is sent, the message leaves the queue, and the place is offered by the rotation. -/
  | outboundMessageSent (b : Branch)
  /-- ANSWER_PLACED (R187). An answer waiting in the CRU is placed in the outbound queue, so the CRU can take its next request. -/
  | answerPlaced
  /-- REPORT_PLACED (R189). The head report is placed in the report address's outbound queue with the lost count, and the lost count returns to 0. -/
  | reportPlaced
  /-- DIRECTIVE_HANDED_ON (R151). A directive waiting in the screen director is handed on when its branch's outbound queue has space. -/
  | directiveHandedOn
  /-- REQUEST_UNKNOWN_KIND (R187). The CRU takes a message that is not a request kind and answers REFUSED or BAD_KIND. -/
  | requestUnknownKind (h : Head) (kind : Octet)
  /-- SEAT_MAP (R4). The console writes 1 to 4 seat-map entries as one transaction. -/
  | seatMap (h : Head) (body : Body (List SeatMapEntry))
  /-- CHECK_IN (R13). The console sets a seat PRESENT by CONSOLE. -/
  | checkIn (h : Head) (body : Body Nat)
  /-- ROSTER_EDIT (R7). The console replaces one seat's role and delegate record during a meeting. -/
  | rosterEdit (h : Head) (body : Body RosterArg)
  /-- FLOOR_SET (R21). The console changes a running floor's settings, with mode, limit and release effects and then the grant pass. -/
  | floorSet (h : Head) (body : Body FloorSetArg)
  /-- GRANT (R37). The console grants the head of the queue or a named queued seat. -/
  | grant (h : Head) (body : Body GrantArg)
  /-- CLOSE_SEAT (R38). The console closes, dequeues or unsuspends a seat. -/
  | closeSeat (h : Head) (body : Body Nat)
  /-- CLEAR_QUEUE (R39). The console makes every queued seat of a floor IDLE. -/
  | clearQueue (h : Head) (body : Body Nat)
  /-- PRIORITY_END (R58). The console ends every hold entry of a floor and settles the suspension list once. -/
  | priorityEnd (h : Head) (body : Body Nat)
  /-- GATE_SET (R72). The console changes a running floor's gate settings. -/
  | gateSet (h : Head) (body : Body GateSetArg)
  /-- MIX_SET (R99). The console changes a running floor's mix settings. -/
  | mixSet (h : Head) (body : Body MixSetArg)
  /-- LINE_SET (R101). The console writes a line record's serial, assignment, trim or send level. -/
  | lineSet (h : Head) (body : Body LineSetArg)
  /-- WALL_MODE (R108). The console sets the partition mode to FOLLOW, FORCE_COMBINED or FORCE_SPLIT. -/
  | wallMode (h : Head) (body : Body Nat)
  /-- CLOCK_SET (R118). The console sets the room clock, and an evaluation pass follows. -/
  | clockSet (h : Head) (body : Body ClockSetArg)
  /-- PROFILE_SET (R119). The console writes settings of one of the 8 profiles. -/
  | profileSet (h : Head) (body : Body ProfileSetArg)
  /-- BOOK_BEGIN (R123). The console begins staging a booking and reserves pool entries, or commits it at once when N is 0. -/
  | bookBegin (h : Head) (body : Body BookBeginArg)
  /-- ROSTER_PART (R124). The console sends 1 to 8 roster entries to the staging; the last part commits the booking. -/
  | rosterPart (h : Head) (body : Body (List RosterArg))
  /-- BOOK_ABORT (R126). The console abandons its staging, which releases the reservation. -/
  | bookAbort (h : Head) (body : Body Unit)
  /-- STAGING_PART_TIMEOUT (R126). A staging that gets no part for 2,000 ms returns to IDLE and releases its reservation. -/
  | stagingPartTimeout
  /-- CANCEL (R134). The console removes a booking, or ends its meeting with outcome CANCELLED. -/
  | cancel (h : Head) (body : Body Nat)
  /-- EXTEND (R133). The console extends a booked meeting's end once by 15 to 120 minutes. -/
  | extend (h : Head) (body : Body ExtendArg)
  /-- WALKIN_START (R135). The console starts a walk-in on a VACANT floor. -/
  | walkinStart (h : Head) (body : Body Nat)
  /-- SESSION_END (R136). The console ends a floor's running meeting with outcome ENDED. -/
  | sessionEnd (h : Head) (body : Body Nat)
  /-- SCREEN_SET (R143). The console writes a screen record's serial, floor or warm-up. -/
  | screenSet (h : Head) (body : Body ScreenSetArg)
  /-- LAYOUT_SET (R147). The console replaces a layout rule, and every screen's layout is evaluated again. -/
  | layoutSet (h : Head) (body : Body LayoutSetArg)
  /-- CAMERA_SET_CAMERA (R154). CAMERA_SET in camera form writes a camera's serial, floor, overview preset or timings. -/
  | cameraSetCamera (h : Head) (body : Body CameraSetArg)
  /-- CAMERA_SET_PRESET (R154). CAMERA_SET in preset form writes seats' presets for one camera. -/
  | cameraSetPreset (h : Head) (body : Body PresetSetArg)
  /-- PATH_TEST (R174). The console starts the loop test on an IDLE seat. -/
  | pathTest (h : Head) (body : Body PathTestArg)
  /-- TEST_INSERT (R173). The console arranges a failing down-slot check at one position in the next down-frame. -/
  | testInsert (h : Head) (body : Body TestInsertArg)
  /-- COUNTER_SET (R172). The console sets a branch error counter's kinds, mode or run state. -/
  | counterSet (h : Head) (body : Body CounterSetArg)
  /-- FILTER_SET (R186). The console replaces address filter entry 1, 2 or 3. -/
  | filterSet (h : Head) (body : Body FilterSetArg)
  /-- REPORT_TO (R190). The console sets the report address, or returns it to DEFAULT. -/
  | reportTo (h : Head) (body : Body Octet)
  /-- REPORT_SET (R191). The console writes report enables and edge selects. -/
  | reportSet (h : Head) (body : Body (List ReportItem))
  /-- STATUS_QUERY_SEAT (R192). The console reads one seat record with its presets and nameplate. -/
  | statusQuerySeat (h : Head) (body : Body SeatQueryArg)
  /-- STATUS_QUERY_FLOOR (R115). The console reads the floor, partition, screen, layout and camera records. -/
  | statusQueryFloor (h : Head) (body : Body Nat)
  /-- STATUS_QUERY_BOOKINGS (R140). The console reads the clock, staging, pool, meeting records and bookings from a given place. -/
  | statusQueryBookings (h : Head) (body : Body Nat)
  /-- STATUS_QUERY_LEVELS (R70). The console reads the 50 channels' bands and gates, and the peak bands are reset. -/
  | statusQueryLevels (h : Head) (body : Body Nat)
  /-- STATUS_QUERY_MIX (R103). The console reads the mix state and the saturation counters, and the counters are cleared. -/
  | statusQueryMix (h : Head) (body : Body Nat)
  /-- STATUS_QUERY_LINK (R178). The console reads branches, node tables, counters and the path test, and the MANUAL counters and lane counts are cleared. -/
  | statusQueryLink (h : Head) (body : Body Nat)
  /-- STATUS_QUERY_POWER (R203). The console reads the power record and the wake progress. -/
  | statusQueryPower (h : Head) (body : Body Nat)
  /-- RESET (R193). The console's RESET request is answered OK, and a warm reset is scheduled after the answer is sent. -/
  | reset (h : Head) (body : Body Unit)
  /-- POWER_SET (R202). The console writes the idle delay and the wake-mask enables. -/
  | powerSet (h : Head) (body : Body PowerSetArg)
  /-- SLEEP (R198). The console puts a room with both floors VACANT into SLEEP, with the branches going to BEACON. -/
  | sleep (h : Head) (body : Body Unit)
  /-- WAKE (R199). The console wakes the room from DIM or SLEEP, or restarts the idle count while ACTIVE. -/
  | wake (h : Head) (body : Body Unit)
  /-- MIC_PRESS (R22). A debounced mic PRESS reaches the seat's floor controller and requests, withdraws or closes. -/
  | micPress (seat : Nat)
  /-- KEY_LONG (R79). A key held 1,500 samples gives a LONG, which withdraws a QUEUED seat on the mic key. -/
  | keyLong (seat : Nat) (key : Key)
  /-- PRIORITY_PRESS (R48). A priority PRESS is admitted and starts, covers or joins beneath a hold, or ends a latched entry. -/
  | priorityPress (seat : Nat)
  /-- PRIORITY_RELEASE (R52). A priority RELEASE ends a momentary holder's entry. -/
  | priorityRelease (seat : Nat)
  /-- NEXT_PRESS (R25). A chair's NEXT PRESS grants the head of the queue. -/
  | nextPress (seat : Nat)
  /-- KEY_TO_POWER (R199). A key event taken outside ACTIVE goes to the power manager as a possible wake event. -/
  | keyToPower (seat : Nat) (key : Key) (ev : KeyEvent)
  /-- CARD_TO_POWER (R199). A CARD_IN from a bound station taken outside ACTIVE goes to the power manager as a possible wake event. -/
  | cardToPower (b : Branch) (position : Nat) (card : CardId)
  /-- REFUSAL_DISPLAY_END (R24). A refusal display ends after 2 s, and the lamp returns to the floor state. -/
  | refusalDisplayEnd (seat : Nat)
  /-- TURN_WARNING (R60). A turn whose remaining time reaches the warn lead gets BLINK_WARN and a WARN report. -/
  | turnWarning (seat : Nat)
  /-- TURN_EXPIRY (R61). A turn timer at zero closes the seat or puts it into overtime, by the expiry action. -/
  | turnExpiry (seat : Nat)
  /-- ACCOUNT_SECOND (R62). A SPEAKING or PRIORITY seat's millisecond remainder reaches 1,000, and a second is added to its account. -/
  | accountSecond (seat : Nat)
  /-- VOICE_EVALUATION (R73). Each millisecond the voice detector computes bands and gates for all 50 channels and passes gate updates on. -/
  | voiceEvaluation
  /-- HANG_EXPIRY (R73). A gate whose hang count reaches the hang time becomes CLOSED. -/
  | hangExpiry (channel : Nat)
  /-- VOICE_RELEASE (R35). A speaker whose release count reaches the voice release time is closed with cause VOICE_RELEASE. -/
  | voiceRelease (seat : Nat)
  /-- CARD_FLAG_LOSS (R11). A card-present flag clear for 2,000 ms makes a PRESENT-by-CARD seat ABSENT. -/
  | cardFlagLoss (seat : Nat)
  /-- SEE_SEAT_DISPLAY_END (R153). A wrong-seat nameplate text returns to NONE after 10 s. -/
  | seeSeatDisplayEnd (seat : Nat)
  /-- MINUTE_BOUNDARY (R117). The room clock's second passes 59, the minute advances, and an evaluation pass is made. -/
  | minuteBoundary
  /-- WALKIN_IDLE_END (R136). A walk-in idle count reaches the walk-in idle setting, and the walk-in ends with outcome RELEASED. -/
  | walkinIdleEnd (f : Floor)
  /-- WALL_READING_CHANGE (R106). The wall reading taken from the wall source changes, restarting the settle and possibly giving a WALL wake. -/
  | wallReadingChange (r : WallReading)
  /-- SETTLE_COMPLETE (R107). A wall reading steady for 10,000 ms sets the target partition. -/
  | settleComplete
  /-- WARMUP_DONE (R145). A WARMING screen's warm-up count reaches its time, and the screen becomes ON and is sent its content. -/
  | warmupDone (screen : Nat)
  /-- SCREEN_FAULT_CHANGE (R146). A screen's fault flag changes, moving it into FAULT or back to OFF. -/
  | screenFaultChange (screen : Nat) (flag : Bool)
  /-- SHOW_INTERVAL_END (R150). A screen's 250 ms pacing interval ends with the unsent mark set, and the current record is sent as SHOW. -/
  | showIntervalEnd (screen : Nat)
  /-- CAMERA_CUT (R155). A candidate held for the cut delay after the minimum hold becomes the camera's shot, and an AIM is sent. -/
  | cameraCut (camera : Nat)
  /-- CAMERA_RETURN_OVERVIEW (R156). A quiet count reaching the return delay returns the camera to the overview preset. -/
  | cameraReturnOverview (camera : Nat)
  /-- CAMERA_PRIORITY_CUT (R157). While a hold is active, the camera cuts at once to the top holder, or to overview when the holder has no preset. -/
  | cameraPriorityCut (camera : Nat)
  /-- PATH_TEST_END (R177). A path test reaches its duration, ends, and makes its TEST report. -/
  | pathTestEnd
  /-- DIM_ENTRY (R197). The idle count reaches the idle delay, and the room enters DIM. -/
  | dimEntry
  /-- TRUNK_LOCK (R200). Each branch has received 16 full-rate up-frames, or is DOWN, and the wake reaches TRUNK_LOCK. -/
  | trunkLock
  /-- WAKE_TIMEOUT (R200). 500 ms after the wake start the wake reaches ENUMERATED and READY, whatever the enumerations. -/
  | wakeTimeout
  /-- KEY_RELEASE (R78). A PRESSED mic or next key detector whose window falls to 2 or fewer set samples becomes RELEASED and gives a RELEASE event. -/
  | keyRelease (seat : Nat) (key : Key)
  /-- OVERTIME_SECOND (R61). A SPEAKING seat in overtime reaches an overtime remainder of 1,000 ms, which returns to 0 while one is added to its saturating overtime count. -/
  | overtimeSecond (seat : Nat)
  deriving DecidableEq, Repr

end Sys2Proof
end

