-- ==== Sys2Proof/Decode.lean ====
section
/-! DEFINITION. From octets to commands: the requests as 12 R205, R208, R209 and 12.4 lay them out. No row of the
opcode table gives bits, so no table word spells a command. -/

namespace Sys2Proof

/-- No row of spec/opcode_table.json gives bits. -/
def decodeTableWord (_nbits _w : Nat) : Option Instr := none

namespace Payload

/-- A reader of fields from the octets of a payload; none when the payload ends early (12 R208). -/
abbrev Reader (α : Type) : Type := StateT (List Octet) Option α

def octet : Reader Octet := fun os => match os with
  | o :: rest => some (o, rest)
  | [] => none

/-- One octet, unsigned (12 R205). -/
def u1 : Reader Nat := do
  let o ← octet
  pure o.toNat

/-- Two octets, most significant first (12 R205). -/
def u2 : Reader Nat := do
  let a ← u1
  let b ← u1
  pure (a * 256 + b)

/-- Three octets (12 R205). -/
def u3 : Reader Nat := do
  let a ← u1
  let b ← u2
  pure (a * 65536 + b)

/-- Four octets (12 R205). -/
def u4 : Reader Nat := do
  let a ← u2
  let b ← u2
  pure (a * 65536 + b)

def card : Reader CardId := do
  let n ← u4
  pure (BitVec.ofNat 32 n)

def serial : Reader Serial := do
  let a ← u2
  let b ← u4
  pure (BitVec.ofNat 48 (a * 4294967296 + b))

/-- A level octet, two's complement (12 R205). -/
def level : Reader Int := do
  let o ← octet
  pure o.toInt

/-- A gain that may be mute: 0x80 is mute (12 R205). -/
def gain : Reader Gain := do
  let o ← octet
  pure (if o = 0x80 then .mute else .db o.toInt)

/-- `k` fields of one form. -/
def times {α : Type} (f : Reader α) : Nat → Reader (List α)
  | 0 => pure []
  | k + 1 => do
    let a ← f
    let rest ← times f k
    pure (a :: rest)

/-- A list: a count octet and its entries (12 R209). -/
def seq {α : Type} (f : Reader α) : Reader (List α) := do
  let k ← u1
  times f k

/-- A text: a length octet and its octets (12 R205). -/
def text : Reader Text := seq octet

/-- A field behind a presence octet (12 R205). Whether it follows an octet that is neither 0 nor 1 is a free value
(log entry 7). -/
def mark {α : Type} (f : Reader α) : Reader (Mark α) := do
  let o ← octet
  if o = 0 then pure .absent
  else if o = 1 then do
    let a ← f
    pure (.given a)
  else if Config.strayPresenceFollows o then do
    let _ ← f
    pure .bad
  else pure .bad

/-! ## The fields of the requests, in the order of their rules (12 R209, 12.4) -/

def seatMapEntry : Reader SeatMapEntry := do
  let seat ← u1
  let x ← mark serial
  let side ← u1
  let trim ← level
  let ns ← seq u1
  pure { seat := seat, serial := x, side := side, trim := trim, neighbours := ns }

def delegate : Reader DelegateArg := do
  let c ← card
  let name ← text
  let a ← mark u2
  pure { card := c, name := name, allowance := a }

def rosterArg : Reader RosterArg := do
  let seat ← u1
  let role ← u1
  let d ← mark delegate
  pure { seat := seat, role := role, delegate := d }

def floorSettings : Reader FloorSettingsArg := do
  let mode ← mark u1
  let limit ← mark u1
  let full ← mark u1
  let auto ← mark u1
  let turn ← mark u2
  let warn ← mark u1
  let expiry ← mark u1
  let style ← mark u1
  let resume ← mark u1
  let voice ← mark u1
  let presence ← mark u1
  let idle ← mark u1
  pure { mode := mode, openMicLimit := limit, fullPolicy := full, autoGrant := auto, turnLimit := turn,
         warnLead := warn, expiryAction := expiry, priorityStyle := style, resumePolicy := resume,
         voiceRelease := voice, presenceRequired := presence, walkinIdle := idle }

def gateSettings : Reader GateSettingsArg := do
  let a ← mark u1
  let b ← mark u1
  let c ← mark u2
  pure { openBand := a, closeBand := b, hangTime := c }

def mixSettings : Reader MixSettingsArg := do
  let a ← mark gain
  let b ← mark gain
  let c ← mark gain
  let d ← mark gain
  let e ← mark level
  pure { closedGate := a, priorityDuck := b, proximityDuck := c, talkerDuck := d, level := e }

def floorSet : Reader FloorSetArg := do
  let f ← u1
  let a ← floorSettings
  pure { floor := f, settings := a }

def gateSet : Reader GateSetArg := do
  let f ← u1
  let a ← gateSettings
  pure { floor := f, settings := a }

def mixSet : Reader MixSetArg := do
  let f ← u1
  let a ← mixSettings
  pure { floor := f, settings := a }

def grantArg : Reader GrantArg := do
  let f ← u1
  let n ← u1
  pure { floor := f, seat := n }

def lineSet : Reader LineSetArg := do
  let l ← u1
  let x ← mark (mark serial)
  let f ← mark u1
  let t ← mark level
  let v ← mark level
  pure { line := l, serial := x, assignment := f, trim := t, level := v }

def clockSet : Reader ClockSetArg := do
  let m ← u3
  let x ← u1
  pure { minute := m, second := x }

def profileSet : Reader ProfileSetArg := do
  let k ← u1
  let f ← floorSettings
  let g ← gateSettings
  let m ← mixSettings
  let l ← mark u1
  pure { profile := k, floor := f, gate := g, mix := m, lead := l }

def bookBegin : Reader BookBeginArg := do
  let id ← u2
  let title ← mark text
  let start ← u3
  let stop ← u3
  let scope ← u1
  let profile ← u1
  let window ← u1
  let overrun ← u1
  let n ← u1
  pure { id := id, title := title, start := start, stop := stop, scope := scope, profile := profile,
         window := window, overrun := overrun, n := n }

def extendArg : Reader ExtendArg := do
  let f ← u1
  let m ← u1
  pure { floor := f, minutes := m }

def screenSet : Reader ScreenSetArg := do
  let k ← u1
  let x ← mark (mark serial)
  let f ← mark u1
  let w ← mark u1
  pure { screen := k, serial := x, floor := f, warmup := w }

/-- The conditions of a layout rule; the set of meeting states comes as a list of their codes (08 R147, 12 R209; log entry
59). -/
def layoutArg : Reader LayoutArg := do
  let st ← seq u1
  let sp ← u1
  let h ← u1
  let q ← u1
  let w ← u1
  let l ← u1
  pure { states := st, speakers := sp, hold := h, queue := q, warning := w, layout := l }

def layoutSet : Reader LayoutSetArg := do
  let r ← u1
  let c ← mark layoutArg
  pure { rule := r, conditions := c }

def cameraSetArg : Reader CameraSetArg := do
  let k ← u1
  let x ← mark (mark serial)
  let f ← mark u1
  let o ← mark u1
  let cut ← mark u2
  let hold ← mark u1
  let ret ← mark u1
  pure { camera := k, serial := x, floor := f, overview := o, cutDelay := cut, minimumHold := hold,
         returnDelay := ret }

def pair : Reader (Nat × Nat) := do
  let a ← u1
  let b ← u1
  pure (a, b)

def presetSetArg : Reader PresetSetArg := do
  let k ← u1
  let es ← seq pair
  pure { camera := k, entries := es }

def pathTestArg : Reader PathTestArg := do
  let n ← u1
  let d ← u1
  pure { seat := n, duration := d }

def testInsertArg : Reader TestInsertArg := do
  let b ← u1
  let p ← u1
  pure { branch := b, position := p }

def counterSet : Reader CounterSetArg := do
  let b ← u1
  let ks ← mark (seq u1)
  let m ← mark u1
  let r ← mark u1
  pure { branch := b, kinds := ks, mode := m, run := r }

def addressMask : Reader (Octet × Octet) := do
  let a ← octet
  let m ← octet
  pure (a, m)

def filterSet : Reader FilterSetArg := do
  let e ← u1
  let v ← mark addressMask
  pure { entry := e, value := v }

/-- The enables of the twelve kinds, then the edge selects of CARD, GATE and LINK (log entry 10). -/
def reportSet : Reader (List ReportItem) := do
  let es ← times (mark u1) 12
  let card ← mark u1
  let gate ← mark u1
  let link ← mark u1
  let edge (k : Nat) : Mark Nat := if k = 2 then card else if k = 5 then gate else if k = 8 then link else .absent
  pure (es.zipIdx.map (fun e => { kind := e.2, enable := e.1, edge := edge e.2 }))

def seatQueryArg : Reader SeatQueryArg := do
  let p ← u1
  let n ← u1
  pure { part := p, seat := n }

def powerSet : Reader PowerSetArg := do
  let d ← mark u1
  let k ← mark u1
  let c ← mark u1
  let w ← mark u1
  let o ← mark u1
  pure { delay := d, key := k, card := c, wall := w, console := o }

/-- The whole of a payload after its tag: the last field ends at the last octet (12 R208). -/
def run {α : Type} (f : Reader α) (os : List Octet) : Body α := match f os with
  | some (a, []) => .fields a
  | some (_, _ :: _) => .badLength
  | none => .badLength

/-- CAMERA_SET by its form octet (12 R209). An unknown form is answered RANGE whatever follows it (log entry 26). -/
def cameraSet (h : Head) (p : List Octet) : Instr := match p with
  | [] => .cameraSetCamera h .badLength
  | o :: rest =>
    if o = 0 then .cameraSetCamera h (run cameraSetArg rest)
    else if o = 1 then .cameraSetPreset h (run presetSetArg rest)
    else .cameraSetCamera h .unknownForm

/-- STATUS_QUERY by its selector, in the order of 10 section 10.8. An unknown selector is answered RANGE whatever
follows it (10 R192, log entry 26). -/
def statusQuery (h : Head) (p : List Octet) : Instr := match p with
  | [] => .statusQuerySeat h .badLength
  | o :: rest => match o.toNat with
    | 0 => .statusQuerySeat h (run seatQueryArg rest)
    | 1 => .statusQueryFloor h (run u1 rest)
    | 2 => .statusQueryBookings h (run u1 rest)
    | 3 => .statusQueryLevels h (run u1 rest)
    | 4 => .statusQueryMix h (run u1 rest)
    | 5 => .statusQueryLink h (run u1 rest)
    | 6 => .statusQueryPower h (run u1 rest)
    | _ => .statusQuerySeat h .unknownForm

/-- A payload that is not empty, after its tag, by the kind code (12.3). -/
def byKind (h : Head) (kind : Octet) (p : List Octet) : Instr := match kind.toNat with
  | 32 => .seatMap h (run (seq seatMapEntry) p)
  | 33 => .checkIn h (run u1 p)
  | 34 => .rosterEdit h (run rosterArg p)
  | 35 => .floorSet h (run floorSet p)
  | 36 => .grant h (run grantArg p)
  | 37 => .closeSeat h (run u1 p)
  | 38 => .clearQueue h (run u1 p)
  | 39 => .priorityEnd h (run u1 p)
  | 40 => .gateSet h (run gateSet p)
  | 41 => .mixSet h (run mixSet p)
  | 42 => .lineSet h (run lineSet p)
  | 43 => .wallMode h (run u1 p)
  | 44 => .clockSet h (run clockSet p)
  | 45 => .profileSet h (run profileSet p)
  | 46 => .bookBegin h (run bookBegin p)
  | 47 => .rosterPart h (run (seq rosterArg) p)
  | 48 => .bookAbort h (run (pure ()) p)
  | 49 => .cancel h (run u2 p)
  | 50 => .extend h (run extendArg p)
  | 51 => .walkinStart h (run u1 p)
  | 52 => .sessionEnd h (run u1 p)
  | 53 => .screenSet h (run screenSet p)
  | 54 => .layoutSet h (run layoutSet p)
  | 55 => cameraSet h p
  | 56 => .pathTest h (run pathTestArg p)
  | 57 => .testInsert h (run testInsertArg p)
  | 58 => .counterSet h (run counterSet p)
  | 59 => .filterSet h (run filterSet p)
  | 60 => .reportTo h (run octet p)
  | 61 => .reportSet h (run reportSet p)
  | 62 => statusQuery h p
  | 63 => .reset h (run (pure ()) p)
  | 64 => .powerSet h (run powerSet p)
  | 65 => .sleep h (run (pure ()) p)
  | 66 => .wake h (run (pure ()) p)
  | _ => .requestUnknownKind h kind

end Payload

/-- The command of a message that is not a station message: a request by its kind code, its tag and its fields (12.3,
R208). A payload of length 0 has tag 0 and every kind's fields end early. -/
def requestOf (branch : Branch) (source kind : Octet) (payload : List Octet) : Instr := match payload with
  | tag :: rest => Payload.byKind ⟨branch, source, tag⟩ kind rest
  | [] => match Payload.byKind ⟨branch, source, 0⟩ kind [] with
    | .bookAbort h _ => .bookAbort h .badLength
    | .reset h _ => .reset h .badLength
    | .sleep h _ => .sleep h .badLength
    | .wake h _ => .wake h .badLength
    | i => i

end Sys2Proof
end

