-- ==== Sys2Proof/Machine/State.lean ====
section
/-! DEFINITION. The state of the hub as plain data, its values after a power-on reset, and the reasons a step could stop. -/

namespace Sys2Proof.Machine

/-! ## Seats (01) -/

/-- The roles, in the order of 01 section 1.1. -/
inductive Role where
  | none | guest | delegate | viceChair | chair
  deriving DecidableEq, Repr

/-- A delegate record (01 section 1.3). -/
structure Delegate where
  card : CardId
  name : Text
  allowance : Option Nat
  deriving DecidableEq, Repr

/-- Presence with its source (01 section 1.4). -/
inductive Presence where
  | absent | card | console
  deriving DecidableEq, Repr

/-- The floor states, in the order of 01 section 1.1. -/
inductive FloorState where
  | idle | queued | speaking | suspended | priority | priorityWait
  deriving DecidableEq, Repr

/-- A place on the trunk: a branch and a position 1 to 24 (00, "position"). -/
structure Binding where
  branch : Branch
  position : Nat
  deriving DecidableEq, Repr

/-- A turn timer (03 R55, R59 to R61): remaining ms or none, warning given, expired, overtime count and remainder. -/
structure Turn where
  remaining : Option Nat
  warned : Bool
  expired : Bool
  overtime : Nat
  overtimeRem : Nat
  deriving DecidableEq, Repr

/-- A seat record (01 section 1.1) with the timers that its blocks keep for it. `link`, `lamp` and under-test are
read from their one home (Machine/Flags.lean). -/
structure SeatRec where
  serial : Option Serial
  side : Floor
  trim : Int
  neighbours : List Nat
  binding : Option Binding
  role : Role
  delegate : Option Delegate
  presence : Presence
  floorState : FloorState
  /-- ms that the refusal display has run (02 R24), or none -/
  refusal : Option Nat
  /-- the turn timer of a SPEAKING seat (03 R59) -/
  turn : Option Turn
  /-- the release count of VOICE mode in ms (02 R35) -/
  release : Option Nat
  accSeconds : Nat
  accTurns : Nat
  accRem : Nat
  /-- presets for cameras 1 to 4 (08 section 8.3) -/
  presets : List Nat
  /-- the last good value of the card-present flag (01 R11) -/
  cardFlag : Bool
  /-- ms for which that flag has been clear (01 R11) -/
  cardClear : Nat
  deriving DecidableEq, Repr

/-! ## Floors (02, 03, 07) -/

/-- The floor modes (02 section 2.2); `openMic` is OPEN. -/
inductive Mode where
  | openMic | request | voice | chairOnly
  deriving DecidableEq, Repr

inductive FullPolicy where
  | refuse | bumpOldest
  deriving DecidableEq, Repr

inductive ExpiryAction where
  | close | notify
  deriving DecidableEq, Repr

inductive PriorityStyle where
  | momentary | latched
  deriving DecidableEq, Repr

inductive ResumePolicy where
  | resume | drop
  deriving DecidableEq, Repr

/-- The floor settings (02 section 2.2). -/
structure FloorSettings where
  mode : Mode
  openMicLimit : Nat
  fullPolicy : FullPolicy
  autoGrant : Bool
  turnLimit : Nat
  warnLead : Nat
  expiryAction : ExpiryAction
  priorityStyle : PriorityStyle
  resumePolicy : ResumePolicy
  voiceRelease : Nat
  presenceRequired : Bool
  walkinIdle : Nat
  deriving DecidableEq, Repr

/-- The gate settings (04 section 4.3). -/
structure GateSettings where
  openBand : Nat
  closeBand : Nat
  hangTime : Nat
  deriving DecidableEq, Repr

/-- The mix settings (05 section 5.5). -/
structure MixSettings where
  closedGate : Gain
  priorityDuck : Gain
  proximityDuck : Gain
  talkerDuck : Gain
  level : Int
  deriving DecidableEq, Repr

/-- The levels of a hold (03 section 3.1). -/
inductive Level where
  | chair | vice
  deriving DecidableEq, Repr

/-- An entry of the hold stack (03 section 3.1). -/
structure HoldEntry where
  level : Level
  holder : Nat
  latched : Bool
  deriving DecidableEq, Repr

/-- An entry of the suspension list (03 R55). -/
structure SuspEntry where
  seat : Nat
  turn : Turn
  deriving DecidableEq, Repr

/-- The meeting states, in the order of 07 R127. -/
inductive MeetingState where
  | vacant | walkIn | preparing | checkIn | inSession | overrun
  deriving DecidableEq, Repr

/-- A meeting record (07 R127) with the actual start minute (R135). `idleDue` tells that the latest step of the idle
count reached the walk-in idle setting (R136). -/
structure Meeting where
  state : MeetingState
  served : Option Nat
  due : Option Nat
  endWarning : Bool
  deadline : Option Nat
  idle : Nat
  idleRem : Nat
  idleDue : Bool
  checkedIn : List Nat
  start : Option Nat
  deriving DecidableEq, Repr

/-- A floor record (02 section 2.1) with its gate and mix settings and its meeting record. The head of `stack` is the
top entry. -/
structure FloorRec where
  settings : FloorSettings
  gate : GateSettings
  mix : MixSettings
  queue : List Nat
  grantOrder : List Nat
  stack : List HoldEntry
  susp : List SuspEntry
  meeting : Meeting
  deriving DecidableEq, Repr

/-! ## Voice detector (04) -/

/-- The gate states, in the order of 04 section 4.1; `opened` is OPEN. -/
inductive GateState where
  | closed | opened | hang
  deriving DecidableEq, Repr

/-- A channel (04 section 4.1), with the peak of the samples of the millisecond under way (R68, R69). -/
structure Chan where
  band : Nat
  peak : Nat
  gate : GateState
  hang : Option Nat
  opening : Option Nat
  msPeak : Nat
  deriving DecidableEq, Repr

/-- A key detector (04 section 4.6); the window's oldest sample is its head. -/
structure Detector where
  window : List Bool
  pressed : Bool
  held : Option Nat
  longGiven : Bool
  deriving DecidableEq, Repr

/-- The three detectors of a seat and the number of samples, up to 20, since they resumed sampling (11 R201). -/
structure SeatDets where
  mic : Detector
  priority : Detector
  next : Detector
  since : Nat
  deriving DecidableEq, Repr

/-! ## Lines, partition, calendar (05, 06, 07) -/

/-- A line record (05 section 5.6). -/
structure LineRec where
  serial : Option Serial
  assignment : Floor
  trim : Int
  level : Int
  binding : Option Binding
  deriving DecidableEq, Repr

inductive WallMode where
  | follow | forceCombined | forceSplit
  deriving DecidableEq, Repr

inductive Partition where
  | combined | split
  deriving DecidableEq, Repr

/-- The cause of a target change (06 R114). -/
inductive TargetCause where
  | settle | console
  deriving DecidableEq, Repr

/-- The partition record (06 section 6.1). `sampled` is the reading of the latest millisecond (R106), `settled` tells
that a settle at 10,000 has given its result (R107), `cause` is that of the last change of target (R114). -/
structure PartRec where
  source : Option Binding
  reading : WallReading
  sampled : WallReading
  settle : Option (WallReading × Nat)
  settled : Bool
  mode : WallMode
  target : Partition
  partition : Partition
  cause : Option TargetCause
  deriving DecidableEq, Repr

/-- The room clock while set (07 R117): minute, second, ms toward the next second (1,000 at a boundary still to be
taken). -/
structure Clock where
  minute : Nat
  second : Nat
  ms : Nat
  deriving DecidableEq, Repr

/-- A profile (07 section 7.2). -/
structure Profile where
  floor : FloorSettings
  gate : GateSettings
  mix : MixSettings
  lead : Nat
  deriving DecidableEq, Repr

/-- A roster entry (07 R122). -/
structure RosterEntry where
  seat : Nat
  role : Role
  delegate : Option Delegate
  deriving DecidableEq, Repr

inductive Scope where
  | A | B | combined
  deriving DecidableEq, Repr

inductive BookingState where
  | scheduled | held | active
  deriving DecidableEq, Repr

/-- A booking's runtime (07 R120): actual start minute, none before the start (log entry 50), and floor served. The
checked-in count is that of the meeting record. -/
structure Runtime where
  start : Option Nat
  floor : Floor
  deriving DecidableEq, Repr

/-- A booking (07 R120). -/
structure Booking where
  id : Nat
  title : Option Text
  start : Nat
  stop : Nat
  scope : Scope
  profile : Nat
  lead : Nat
  window : Nat
  overrun : Nat
  roster : List RosterEntry
  state : BookingState
  runtime : Option Runtime
  extended : Bool
  deriving DecidableEq, Repr

/-- The result codes, in the order of 10 section 10.5. -/
inductive Code where
  | ok | staged | partOk | booked | badKind | badLength | range | state | full | conflict | noRoom | busy | locked
  | duplicate | past | already | notFound | notQueued | roster | refused
  deriving DecidableEq, Repr

/-- The staging area (07 section 7.4). The booking's `roster` holds the entries received. -/
inductive Staging where
  | idle
  | staging (source : Octet) (booking : Booking) (n timer : Nat)
  | failed (source : Octet) (booking : Booking) (code : Code) (timer : Nat)
  deriving DecidableEq, Repr

/-! ## Screen director (08) -/

/-- The power states of a screen, in the order of 08 section 8.1. -/
inductive ScreenPower where
  | off | warming | on | standby | fault
  deriving DecidableEq, Repr

/-- A speaker of a content record (08 R149): `time` is the remaining seconds, or the overtime count. -/
structure Speaker where
  seat : Nat
  name : Option Text
  warned : Bool
  time : Option Nat
  overtime : Bool
  deriving DecidableEq, Repr

/-- A content record (08 R149). -/
structure Content where
  layout : Nat
  title : Option Text
  speakers : List Speaker
  holder : Option (Nat × Option Text)
  queue : List (Nat × Option Text)
  stop : Option Nat
  next : Option (Nat × Option Text)
  endWarning : Bool
  dueWarning : Bool
  deriving DecidableEq, Repr

/-- A screen record (08 section 8.1), with its warm-up count and the length in seconds it runs to (R143, R145). -/
structure ScreenRec where
  serial : Option Serial
  floor : Floor
  warmup : Nat
  binding : Option Binding
  power : ScreenPower
  warm : Option (Nat × Nat)
  content : Content
  unsent : Bool
  lastShow : Option Nat
  deriving DecidableEq, Repr

inductive SpeakersCond where
  | any | zero | one | many
  deriving DecidableEq, Repr

inductive HoldCond where
  | any | active | none
  deriving DecidableEq, Repr

inductive QueueCond where
  | any | empty | nonempty
  deriving DecidableEq, Repr

inductive WarnCond where
  | any | yes | no
  deriving DecidableEq, Repr

/-- The conditions of a layout rule (08 section 8.1, Layouts). -/
structure LayoutConds where
  states : List MeetingState
  speakers : SpeakersCond
  hold : HoldCond
  queue : QueueCond
  warning : WarnCond
  layout : Nat
  deriving DecidableEq, Repr

/-- A camera record (08 section 8.3); shot none is OVERVIEW; `served` is its reachability as last judged (R158). -/
structure CameraRec where
  serial : Option Serial
  floor : Floor
  overview : Nat
  cutDelay : Nat
  minimumHold : Nat
  returnDelay : Nat
  binding : Option Binding
  shot : Option Nat
  shotStart : Option Nat
  candidate : Option (Nat × Nat)
  quiet : Nat
  served : Bool
  deriving DecidableEq, Repr

/-- A nameplate record (08 section 8.2): `see` is SEE_SEAT's seat, or none for NONE. -/
structure Plate where
  lit : Bool
  role : Role
  name : Option Text
  present : Bool
  see : Option Nat
  count : Nat
  deriving DecidableEq, Repr

/-- The target and kind of a directive (08 R151). -/
inductive Target where
  | screenPower (k : Nat)
  | screenShow (k : Nat)
  | plate (at_ : Binding)
  | camera (k : Nat)
  deriving DecidableEq, Repr

/-- A directive: its target, and the payload of the message that will carry it (12.3, 12.4). -/
structure Directive where
  target : Target
  payload : List Octet
  deriving DecidableEq, Repr

/-- The screen director (08 R160). `plateDue` lists the seats that are owed a NAMEPLATE inside the present command
(R152). -/
structure Director where
  screens : List ScreenRec
  layouts : List (Option LayoutConds)
  cameras : List CameraRec
  plates : List Plate
  plateDue : List Nat
  waiting : List Directive
  deriving DecidableEq, Repr

/-! ## Power (11) -/

inductive PowerState where
  | active | dim | sleep | waking
  deriving DecidableEq, Repr

/-- The wake progress (11): `ready` is only reported (R203). -/
inductive WakeProgress where
  | none | started | trunkLock | enumerated | ready
  deriving DecidableEq, Repr

/-- The causes of a change of power state (11 R203). -/
inductive PowerCause where
  | idle | sleepRequest | key | card | wall | console | calendar
  deriving DecidableEq, Repr

/-- A pending wake event (11 R201). -/
inductive WakeEvent where
  | key (seat : Nat) (key : Key)
  | card (seat : Nat) (card : CardId)
  deriving DecidableEq, Repr

/-- The power manager (11 R204); `cause` is the cause and seat of the wake under way (R203), and `dimDue` tells that
the latest step of the idle count reached the idle delay (R197). -/
structure Power where
  state : PowerState
  idle : Nat
  idleRem : Nat
  dimDue : Bool
  delay : Nat
  maskKey : Bool
  maskCard : Bool
  maskWall : Bool
  maskConsole : Bool
  progress : WakeProgress
  start : Option Nat
  pendingEvent : Option WakeEvent
  carried : Option (Nat × Key)
  cause : Option (PowerCause × Nat)
  deriving DecidableEq, Repr

/-! ## Trunk (09) -/

inductive BranchState where
  | down | enumerating | running | beacon
  deriving DecidableEq, Repr

/-- The node kinds, in the order of 12 R206. -/
inductive NodeKind where
  | seat | screen | camera | line | wall | console | other
  deriving DecidableEq, Repr

inductive Link where
  | ok | degraded | lost
  deriving DecidableEq, Repr

/-- A node table entry (09 section 9.2). `current` is the current input sample (05 R85); `status` the last good status
field of the millisecond under way (04 R77); `waiting` the message-waiting flag (10 R181); `fault` the fault flag as
last received and `faultTaken` as taken at the latest millisecond (08 R146); `whole` whether the present window was spent whole (R168). -/
structure NodeEntry where
  position : Nat
  kind : NodeKind
  serial : Serial
  link : Link
  badRun : Nat
  goodRun : Nat
  window : Nat
  held : Sample
  badSamples : Nat
  current : Sample
  status : Option (Octet × Octet)
  waiting : Bool
  fault : Bool
  faultTaken : Bool
  whole : Bool
  deriving DecidableEq, Repr

/-- The enumeration under way (09 R164, R165): the position being given, the restart mark of the first ROLL, the
damaged replies for that position, the ms without a reply, and the entries found so far. They become the node table at
the end: until then the branch's table is empty (06 R105). -/
structure Roll where
  position : Nat
  restart : Bool
  damaged : Nat
  wait : Nat
  found : List NodeEntry
  deriving DecidableEq, Repr

/-- An error counter (09 R171). -/
structure Counter where
  value : Nat
  slotCheck : Bool
  laneCrc : Bool
  lostEntry : Bool
  auto : Bool
  running : Bool
  deriving DecidableEq, Repr

/-- The mic lamp values, in the order of 12 R205. -/
inductive Lamp where
  | off | on | blinkQueued | blinkRefused | blinkWarn
  deriving DecidableEq, Repr

/-- A down-slot (09 R162). -/
structure DownSlot where
  sample : Sample
  lamp : Lamp
  enable : Bool
  loop : Bool
  check : Octet
  deriving DecidableEq, Repr

/-- The frame kinds, in the order of 12 R206. -/
inductive FrameKind where
  | empty | running | roll | beacon
  deriving DecidableEq, Repr

/-- A down-frame (09 R162, 12 R206): the element with its start bit; `turn` 0 for none; the ROLL octet's mark and
position; the 24 down-slots of a RUNNING frame. -/
structure DownFrame where
  kind : FrameKind
  hold : Bool
  element : Option (Octet × Bool)
  turn : Nat
  roll : Option (Bool × Nat)
  slots : List DownSlot
  deriving DecidableEq, Repr

/-- A branch of the trunk interface (09 R179). -/
structure BranchRec where
  state : BranchState
  table : List NodeEntry
  /-- consecutive up-frames received while DOWN (R161) -/
  upCount : Nat
  /-- ms without an up-frame (R161), and whether one came in the ms under way -/
  silence : Nat
  frameSeen : Bool
  roll : Option Roll
  /-- a waiting test insertion: its position and the request that it answers (R173) -/
  insertion : Option (Nat × Head)
  counter : Counter
  /-- the branch port's output: the down-frame sent last -/
  lastDown : Option DownFrame
  /-- up-frames at full rate since the wake start, 0..16, and whether an enumeration has ended since (11 R200) -/
  fullCount : Nat
  enumEnded : Bool
  deriving DecidableEq, Repr

/-- The path test (09 section 9.6). `gen` holds the last 15 bits of the sequence; `reference` the last good sample
while OUT_OF_SYNC, the checker's own last sample while IN_SYNC; `window` the compared samples, oldest first, true for a
match. -/
structure PathTest where
  seat : Nat
  branch : Branch
  position : Nat
  duration : Nat
  elapsed : Nat
  gen : BitVec 15
  inSync : Bool
  matchRun : Nat
  reference : Option Sample
  window : List Bool
  achieved : Bool
  mismatches : Nat
  deriving DecidableEq, Repr

/-! ## Message lanes and console requests (10) -/

/-- The turn of an up-lane (10 section 10.2). The element count is the length of the receiving place's octets. -/
inductive LaneTurn where
  | free
  | offered (position wait : Nat)
  | receiving (position gap : Nat)
  deriving DecidableEq, Repr

/-- What an inbound place's message waits for (10 R183); a group message may wait for the CRU and for a relay (R184). -/
inductive PlaceUse where
  | receiving
  | request (i : Instr)
  | relay (b : Branch)
  | both (i : Instr) (b : Branch)
  deriving DecidableEq, Repr

/-- An inbound place that is taken (10 R183): octets so far, sending position, what it waits for, order of completion. -/
structure Place where
  octets : List Octet
  position : Nat
  use : PlaceUse
  stamp : Nat
  deriving DecidableEq, Repr

/-- What an outbound message of the hub is, where a rule asks (08 R151, 10 R193). -/
inductive OutMark where
  | plain
  | showFor (screen : Nat)
  | resetAnswer
  deriving DecidableEq, Repr

/-- A message of an outbound queue (10 R188): the hub's own, or a relayed one unchanged. -/
inductive OutMsg where
  | own (dest kind : Octet) (payload : List Octet) (mark : OutMark)
  | relayed (octets : List Octet)
  deriving DecidableEq, Repr

/-- The sources of an outbound queue, in the rotation's order (10 R188). -/
inductive Source where
  | answer | relay | directive | report
  deriving DecidableEq, Repr

/-- The six lane counts (10 R194). -/
structure LaneCounts where
  crc : Nat
  source : Nat
  framing : Nat
  holdViolation : Nat
  relayDrop : Nat
  kind : Nat
  deriving DecidableEq, Repr

/-- The lane of a branch (10 R195). `sent` counts the elements sent of the queue's head. -/
structure Lane where
  turn : LaneTurn
  last : Nat
  places : List Place
  out : List OutMsg
  sent : Nat
  rotation : Source
  counts : LaneCounts
  deriving DecidableEq, Repr

/-- What the CRU waits for (10 R187, 09 R173, 10 R193). -/
inductive CruPhase where
  | idle
  | testFrame (b : Branch)
  | resetAnswer
  | resetDue
  deriving DecidableEq, Repr

/-- The report kinds, in the order of 10 section 10.7. -/
inductive ReportKind where
  | seat | key | card | turn | priority | gate | booking | wall | link | power | test | counter | hello
  deriving DecidableEq, Repr

/-- A report in the queue (10 R189): its kind, the millisecond of its event, and its body. -/
structure Report where
  kind : ReportKind
  ms : Nat
  body : List Octet
  deriving DecidableEq, Repr

inductive ResetKind where
  | powerOn | warm
  deriving DecidableEq, Repr

/-- How far an answer of STATUS_QUERY BOOKINGS has come (12 R209, 10 section 10.8; log entry 61): the console, the place
of the first booking not yet returned, and how many of the items before the bookings have been returned. -/
structure BookingReading where
  source : Octet
  place : Nat
  items : Nat
  deriving DecidableEq, Repr

/-- The console request unit (10 R195). `made` holds the reports that the present command has made and not yet
delivered (log entry 12); it is empty between commands. `enables` are those of SEAT to COUNTER in order; an edge select
is true for EVERY, ALL and ALL. `hello` is the HELLO still to be made (R190). -/
structure Cru where
  phase : CruPhase
  waiting : Option (Branch × OutMsg)
  made : List Report
  reports : List Report
  lost : Nat
  enables : List Bool
  cardEvery : Bool
  gateAll : Bool
  linkAll : Bool
  addressSet : Bool
  address : Option Binding
  hello : Option ResetKind
  snapLevels : Option (List (List Octet))
  snapMix : Option (List (List Octet))
  snapLink : Option (List (List Octet))
  /-- how far the latest answer of STATUS_QUERY BOOKINGS has come, while more follow (12 R209, log entry 61) -/
  reading : Option BookingReading
  deriving DecidableEq, Repr

/-! ## The hub -/

/-- The hub: everything the manual gives it, and the queue of waiting commands. -/
structure State where
  pending : List Instr
  now : Nat
  seats : List SeatRec
  floorA : FloorRec
  floorB : FloorRec
  chans : List Chan
  dets : List SeatDets
  line1 : LineRec
  line2 : LineRec
  /-- contributors (channel numbers) and open count of each floor as at the latest computation (05 R103) -/
  latestA : List Nat × Nat
  latestB : List Nat × Nat
  satur : List Nat
  part : PartRec
  clock : Option Clock
  profiles : List Profile
  bookings : List Booking
  staging : Staging
  sd : Director
  pwr : Power
  br0 : BranchRec
  br1 : BranchRec
  test : Option PathTest
  windowDue : Bool
  lane0 : Lane
  lane1 : Lane
  stamp : Nat
  filter : List (Option (Octet × Octet))
  cru : Cru
  deriving DecidableEq, Repr

/-- The manual names no condition in which the hub stops; no meaning raises a fault. -/
inductive Fault where
  /-- Raised by nothing: kept so that the type has a name to print (safe). -/
  | noFault
  deriving DecidableEq, Repr

/-- Why a command is not run. -/
inductive Refusal where
  /-- Raised by an arm of `exec` whose command has no meaning yet, with the row's mnemonic (safe). -/
  | notModelled (mnemonic : String)
  deriving DecidableEq, Repr

/-! ## Values after a power-on reset -/

namespace Reset

/-- 01 R15, at a power-on reset. -/
def seat (side : Floor) : SeatRec :=
  { serial := none, side := side, trim := 0, neighbours := [], binding := none, role := .none, delegate := none,
    presence := .absent, floorState := .idle, refusal := none, turn := none, release := none, accSeconds := 0,
    accTurns := 0, accRem := 0, presets := [0, 0, 0, 0], cardFlag := false, cardClear := 0 }

/-- 02 section 2.2. -/
def floorSettings : FloorSettings :=
  { mode := .request, openMicLimit := 4, fullPolicy := .refuse, autoGrant := true, turnLimit := 0, warnLead := 30,
    expiryAction := .close, priorityStyle := .latched, resumePolicy := .resume, voiceRelease := 5,
    presenceRequired := false, walkinIdle := 20 }

/-- 04 section 4.3. -/
def gateSettings : GateSettings := { openBand := 12, closeBand := 16, hangTime := 500 }

/-- 05 section 5.5. -/
def mixSettings : MixSettings :=
  { closedGate := .db (-30), priorityDuck := .db (-20), proximityDuck := .db (-12), talkerDuck := .mute, level := -12 }

/-- 07 R141: VACANT, empty. -/
def meeting : Meeting :=
  { state := .vacant, served := none, due := none, endWarning := false, deadline := none, idle := 0, idleRem := 0,
    idleDue := false, checkedIn := [], start := none }

/-- 02 R45, 07 R119, R141. -/
def profile : Profile := { floor := floorSettings, gate := gateSettings, mix := mixSettings, lead := 10 }

/-- A floor after a reset, with the settings of a profile 0 (02 R20, R45; 03 R67; 04 R82; 05 R104). -/
def floor (p : Profile) : FloorRec :=
  { settings := p.floor, gate := p.gate, mix := p.mix, queue := [], grantOrder := [], stack := [], susp := [],
    meeting := meeting }

/-- 04 R82. -/
def chan : Chan := { band := 23, peak := 23, gate := .closed, hang := none, opening := none, msPeak := 0 }

/-- 04 R82. -/
def detector : Detector := { window := List.replicate 20 false, pressed := false, held := none, longGiven := false }

/-- 04 R82. -/
def dets : SeatDets := { mic := detector, priority := detector, next := detector, since := 0 }

/-- 05 R104. -/
def line : LineRec := { serial := none, assignment := .A, trim := 0, level := 0, binding := none }

/-- 06 R116. -/
def part : PartRec :=
  { source := none, reading := .absent, sampled := .absent, settle := none, settled := false, mode := .follow,
    target := .combined, partition := .combined, cause := none }

/-- 08 R160: layout 0, empty. -/
def content : Content :=
  { layout := 0, title := none, speakers := [], holder := none, queue := [], stop := none, next := none,
    endWarning := false, dueWarning := false }

/-- 08 R160. -/
def screen : ScreenRec :=
  { serial := none, floor := .A, warmup := 0, binding := none, power := .off, warm := none, content := content,
    unsent := false, lastShow := none }

/-- 08 section 8.3, R160. -/
def camera : CameraRec :=
  { serial := none, floor := .A, overview := 1, cutDelay := 1500, minimumHold := 4, returnDelay := 3, binding := none,
    shot := none, shotStart := none, candidate := none, quiet := 0, served := false }

/-- 08 R152, R160: cleared and, the room being ACTIVE, lit. -/
def plate : Plate := { lit := true, role := .none, name := none, present := false, see := none, count := 0 }

/-- 08 R160. -/
def director : Director :=
  { screens := List.replicate 8 screen, layouts := List.replicate 16 none, cameras := List.replicate 4 camera,
    plates := List.replicate 48 plate, plateDue := [], waiting := [] }

/-- 11 R204. -/
def power : Power :=
  { state := .active, idle := 0, idleRem := 0, dimDue := false, delay := 15, maskKey := true, maskCard := true, maskWall := true,
    maskConsole := true, progress := .none, start := none, pendingEvent := none, carried := none, cause := none }

/-- 09 R179. -/
def counter : Counter :=
  { value := 0, slotCheck := true, laneCrc := true, lostEntry := true, auto := false, running := true }

/-- 09 R179. -/
def branch : BranchRec :=
  { state := .down, table := [], upCount := 0, silence := 0, frameSeen := false, roll := none, insertion := none,
    counter := counter, lastDown := none, fullCount := 0, enumEnded := false }

/-- 10 R195. -/
def counts : LaneCounts := { crc := 0, source := 0, framing := 0, holdViolation := 0, relayDrop := 0, kind := 0 }

/-- 10 R195. -/
def lane : Lane :=
  { turn := .free, last := 24, places := [], out := [], sent := 0, rotation := .report, counts := counts }

/-- 10 section 10.4, R195. -/
def filter : List (Option (Octet × Octet)) := [some (0x00, 0xFF), some (0x7F, 0xFF), some (0xFF, 0xFF), none]

/-- 10 R190, R195 and section 10.7. -/
def cru : Cru :=
  { phase := .idle, waiting := none, made := [], reports := [], lost := 0,
    enables := [true, true, true, true, true, false, true, true, true, true, true, true],
    cardEvery := false, gateAll := false, linkAll := false, addressSet := false, address := none,
    hello := some .powerOn, snapLevels := none, snapMix := none, snapLink := none,
    reading := none }

end Reset

/-- The hub right after a power-on reset (01 R15, 02 R45, 03 R67, 04 R82, 05 R104, 06 R116, 07 R141, 08 R160, 09 R179,
10 R195, 11 R204). The timebase's value is a DESIGN CHOICE (log entry 5). -/
def State.reset : State :=
  { pending := [], now := 0,
    seats := List.replicate 24 (Reset.seat .A) ++ List.replicate 24 (Reset.seat .B),
    floorA := Reset.floor Reset.profile, floorB := Reset.floor Reset.profile,
    chans := List.replicate 50 Reset.chan, dets := List.replicate 48 Reset.dets,
    line1 := Reset.line, line2 := Reset.line, latestA := ([], 0), latestB := ([], 0),
    satur := List.replicate 50 0, part := Reset.part, clock := none, profiles := List.replicate 8 Reset.profile,
    bookings := [], staging := .idle, sd := Reset.director, pwr := Reset.power, br0 := Reset.branch,
    br1 := Reset.branch, test := none, windowDue := false, lane0 := Reset.lane, lane1 := Reset.lane, stamp := 0,
    filter := Reset.filter, cru := Reset.cru }

end Sys2Proof.Machine
end

