-- ==== Sys2Proof/Machine/Flags.lean ====
section
/-! DEFINITION. Reading and writing the numbered records of the hub, and the conditions that the chapters derive from
them: effective floors, links, LIVE, slots, lamps, running channels. -/

namespace Sys2Proof.Machine

/-! ## Numbered records. A number that names no record reads as a record after reset and writes nothing. -/

namespace State

def seat (s : State) : Nat → SeatRec
  | 0 => Reset.seat .A
  | k + 1 => s.seats.getD k (Reset.seat .A)

def modSeat (n : Nat) (f : SeatRec → SeatRec) (s : State) : State :=
  match n with
  | 0 => s
  | k + 1 => { s with seats := s.seats.modify k f }

def floor (s : State) : Floor → FloorRec
  | .A => s.floorA
  | .B => s.floorB

def modFloor (f : Floor) (g : FloorRec → FloorRec) (s : State) : State :=
  match f with
  | .A => { s with floorA := g s.floorA }
  | .B => { s with floorB := g s.floorB }

def modMeeting (f : Floor) (g : Meeting → Meeting) (s : State) : State :=
  s.modFloor f (fun r => { r with meeting := g r.meeting })

def br (s : State) : Branch → BranchRec
  | .b0 => s.br0
  | .b1 => s.br1

def modBr (b : Branch) (g : BranchRec → BranchRec) (s : State) : State :=
  match b with
  | .b0 => { s with br0 := g s.br0 }
  | .b1 => { s with br1 := g s.br1 }

def lane (s : State) : Branch → Lane
  | .b0 => s.lane0
  | .b1 => s.lane1

def modLane (b : Branch) (g : Lane → Lane) (s : State) : State :=
  match b with
  | .b0 => { s with lane0 := g s.lane0 }
  | .b1 => { s with lane1 := g s.lane1 }

/-- Channel 1 to 48 is the seat's, 49 and 50 are those of lines 1 and 2 (04 section 4.1). -/
def chan (s : State) : Nat → Chan
  | 0 => Reset.chan
  | k + 1 => s.chans.getD k Reset.chan

def modChan (c : Nat) (f : Chan → Chan) (s : State) : State :=
  match c with
  | 0 => s
  | k + 1 => { s with chans := s.chans.modify k f }

def detectors (s : State) : Nat → SeatDets
  | 0 => Reset.dets
  | k + 1 => s.dets.getD k Reset.dets

def modDets (n : Nat) (f : SeatDets → SeatDets) (s : State) : State :=
  match n with
  | 0 => s
  | k + 1 => { s with dets := s.dets.modify k f }

def line (s : State) (l : Nat) : LineRec := if l = 2 then s.line2 else s.line1

def modLine (l : Nat) (f : LineRec → LineRec) (s : State) : State :=
  if l = 1 then { s with line1 := f s.line1 } else if l = 2 then { s with line2 := f s.line2 } else s

def screen (s : State) : Nat → ScreenRec
  | 0 => Reset.screen
  | k + 1 => s.sd.screens.getD k Reset.screen

def modScreen (n : Nat) (f : ScreenRec → ScreenRec) (s : State) : State :=
  match n with
  | 0 => s
  | k + 1 => { s with sd := { s.sd with screens := s.sd.screens.modify k f } }

def camera (s : State) : Nat → CameraRec
  | 0 => Reset.camera
  | k + 1 => s.sd.cameras.getD k Reset.camera

def modCamera (n : Nat) (f : CameraRec → CameraRec) (s : State) : State :=
  match n with
  | 0 => s
  | k + 1 => { s with sd := { s.sd with cameras := s.sd.cameras.modify k f } }

def plate (s : State) : Nat → Plate
  | 0 => Reset.plate
  | k + 1 => s.sd.plates.getD k Reset.plate

def modPlate (n : Nat) (f : Plate → Plate) (s : State) : State :=
  match n with
  | 0 => s
  | k + 1 => { s with sd := { s.sd with plates := s.sd.plates.modify k f } }

def profile (s : State) (k : Nat) : Profile := s.profiles.getD k Reset.profile

def booking? (s : State) (id : Nat) : Option Booking := s.bookings.find? (fun b => b.id == id)

def modBooking (id : Nat) (f : Booking → Booking) (s : State) : State :=
  { s with bookings := s.bookings.map (fun b => if b.id == id then f b else b) }

end State

/-- A detector of a seat by its key (04 section 4.6). -/
def SeatDets.get (d : SeatDets) : Key → Detector
  | .mic => d.mic
  | .priority => d.priority
  | .next => d.next

def SeatDets.mod (k : Key) (f : Detector → Detector) (d : SeatDets) : SeatDets :=
  match k with
  | .mic => { d with mic := f d.mic }
  | .priority => { d with priority := f d.priority }
  | .next => { d with next := f d.next }

/-- The seats 1 to 48, in ascending order. -/
def allSeats : List Nat := List.range' 1 48

/-- The channels 1 to 50, in channel order. -/
def allChans : List Nat := List.range' 1 50

/-- A counter that saturates at 65,535. -/
def sat16 (n : Nat) : Nat := min n 65535

/-- Apply an operation for each item of a list, in order. -/
def forAll {α : Type} (l : List α) (f : α → State → State) (s : State) : State := l.foldl (fun s a => f a s) s

/-! ## Nodes and links -/

/-- The node table's entry at a position (09 section 9.2). -/
def State.entry? (s : State) (d : Binding) : Option NodeEntry := (s.br d.branch).table.find? (fun e => e.position == d.position)

def State.modEntry (d : Binding) (f : NodeEntry → NodeEntry) (s : State) : State :=
  s.modBr d.branch (fun r => { r with table := r.table.map (fun e => if e.position == d.position then f e else e) })

/-- The node address of a position (00, "Node addresses"). -/
def Binding.octet (d : Binding) : Octet :=
  match d.branch with
  | .b0 => BitVec.ofNat 8 d.position
  | .b1 => BitVec.ofNat 8 (0x40 + d.position)

/-- The position that a node address names (00, "Node addresses"). -/
def bindingOf (a : Octet) : Option Binding :=
  let n := a.toNat
  if 1 ≤ n ∧ n ≤ 24 then some ⟨.b0, n⟩
  else if 0x41 ≤ n ∧ n ≤ 0x58 then some ⟨.b1, n - 0x40⟩
  else none

/-- The link of whatever is bound at a place; LOST for UNBOUND (01 R3, 09 R169). -/
def State.linkOf (s : State) : Option Binding → Link
  | none => .lost
  | some d => match s.entry? d with
    | some e => e.link
    | none => .lost

/-- A seat's link field (01 R3, 09 R169). -/
def State.seatLink (s : State) (n : Nat) : Link := s.linkOf (s.seat n).binding

/-- Bound with a link that is not LOST: reachable (08 R142, R158), and what a nameplate needs (R152). -/
def State.reachable (s : State) (d : Option Binding) : Bool := s.linkOf d != .lost

/-- The seat that is bound at a place, if any (01 R3). -/
def State.seatAt? (s : State) (d : Binding) : Option Nat := allSeats.find? (fun n => (s.seat n).binding == some d)

/-- Eligible (01 R2). -/
def State.eligible (s : State) (n : Nat) : Bool := (s.seat n).serial.isSome && (s.seat n).binding.isSome

/-- Under test (09 R174). -/
def State.underTest (s : State) (n : Nat) : Bool := match s.test with
  | some t => t.seat == n
  | none => false

/-- A branch whose lane runs (10 section 10.2). -/
def BranchState.carriesLane : BranchState → Bool
  | .running | .beacon => true
  | .down | .enumerating => false

/-! ## Floors and meetings -/

/-- The floor that a side belongs to under a partition (01 R1). -/
def Partition.floorOf (p : Partition) (side : Floor) : Floor :=
  match p with
  | .combined => .A
  | .split => side

/-- A seat's effective floor (01 R1). -/
def State.seatFloor (s : State) (n : Nat) : Floor := s.part.partition.floorOf (s.seat n).side

/-- A line's effective floor (05 R100). -/
def State.lineFloor (s : State) (l : Nat) : Floor := s.part.partition.floorOf (s.line l).assignment

/-- The seats whose effective floor is `f`, in ascending order. -/
def State.floorSeats (s : State) (f : Floor) : List Nat := allSeats.filter (fun n => s.seatFloor n == f)

/-- Running a meeting (06 section 6.1, 07 R127). -/
def MeetingState.runs : MeetingState → Bool
  | .walkIn | .checkIn | .inSession | .overrun => true
  | .vacant | .preparing => false

/-- LIVE (02 R17). -/
def MeetingState.live : MeetingState → Bool
  | .walkIn | .inSession | .overrun => true
  | .vacant | .preparing | .checkIn => false

def State.meeting (s : State) (f : Floor) : Meeting := (s.floor f).meeting

def State.live (s : State) (f : Floor) : Bool := (s.meeting f).state.live

def State.runs (s : State) (f : Floor) : Bool := (s.meeting f).state.runs

/-- Some floor runs a meeting (06 R109). -/
def State.anyRuns (s : State) : Bool := s.runs .A || s.runs .B

/-- Both floors are VACANT (11 R197). -/
def State.bothVacant (s : State) : Bool := (s.meeting .A).state == .vacant && (s.meeting .B).state == .vacant

/-- DORMANT (02 R17). -/
def State.dormant (s : State) (f : Floor) : Bool := f == .B && s.part.partition == .combined

/-- A chair seat's role (02, opening). -/
def Role.isChair : Role → Bool
  | .chair | .viceChair => true
  | .none | .guest | .delegate => false

/-- A hold is active (02, opening). -/
def State.holdActive (s : State) (f : Floor) : Bool := !(s.floor f).stack.isEmpty

/-- A slot is free (02 R19). -/
def State.slotFree (s : State) (f : Floor) : Bool :=
  !s.holdActive f && (s.floor f).grantOrder.length < (s.floor f).settings.openMicLimit

/-- The allowance that applies to a seat (03 R64). -/
def SeatRec.appliedAllowance (r : SeatRec) : Option Nat :=
  if r.role.isChair then none else r.delegate.bind (·.allowance)

/-- The account has reached the allowance (02 R24, 03 R64). -/
def SeatRec.exhausted (r : SeatRec) : Bool := match r.appliedAllowance with
  | some a => a ≤ r.accSeconds
  | none => false

/-- The mic lamp by the seat's own fields (02 R26). -/
def SeatRec.lamp (r : SeatRec) : Lamp :=
  if r.refusal.isSome then .blinkRefused
  else match r.floorState with
    | .idle | .suspended => .off
    | .queued | .priorityWait => .blinkQueued
    | .speaking => if (r.turn.map (·.warned)).getD false then .blinkWarn else .on
    | .priority => .on

/-- The mic lamp of a seat: OFF in DIM and SLEEP, whatever the seat's fields (02 R26). -/
def State.lamp (s : State) (n : Nat) : Lamp := match s.pwr.state with
  | .dim | .sleep => .off
  | .active | .waking => (s.seat n).lamp

/-! ## Voice channels -/

/-- A channel's source is bound (04 R68). -/
def State.chanBound (s : State) (c : Nat) : Bool :=
  if c ≤ 48 then (s.seat c).binding.isSome else (s.line (c - 48)).binding.isSome

/-- A channel is running (04 R68). -/
def State.chanRunning (s : State) (c : Nat) : Bool := s.chanBound c && s.pwr.state == .active

/-- The floor whose gate settings a channel uses (04 R71). -/
def State.chanFloor (s : State) (c : Nat) : Floor := if c ≤ 48 then s.seatFloor c else s.lineFloor (c - 48)

/-- A gate that counts as active (04 R74). -/
def GateState.active : GateState → Bool
  | .opened | .hang => true
  | .closed => false

/-! ## Contributors (05 R86) -/

/-- A seat that is in its floor's contributor set. -/
def FloorState.contributes : FloorState → Bool
  | .speaking | .priority => true
  | .idle | .queued | .suspended | .priorityWait => false

/-- The contributor set of a floor as channel numbers: its SPEAKING and PRIORITY seats and its bound lines. -/
def State.contributors (s : State) (f : Floor) : List Nat :=
  allSeats.filter (fun n => (s.seat n).floorState.contributes && s.seatFloor n == f) ++
  [1, 2].filterMap (fun l => if (s.line l).binding.isSome && s.lineFloor l == f then some (48 + l) else none)

/-- The open count of a floor (05 R87). -/
def State.openCount (s : State) (f : Floor) : Nat :=
  ((s.contributors f).filter (fun c => (s.chan c).gate.active)).length

/-! ## The calendar's derived notions (07 R127) -/

/-- A booking's serving floor under a partition. -/
def Partition.servingFloor (p : Partition) (sc : Scope) : Option Floor :=
  match p, sc with
  | .combined, _ => some .A
  | .split, .A => some .A
  | .split, .B => some .B
  | .split, .combined => none

def State.servingFloor (s : State) (b : Booking) : Option Floor := s.part.partition.servingFloor b.scope

/-- A floor's next booking. -/
def State.nextBooking (s : State) (f : Floor) : Option Booking :=
  s.bookings.find? (fun b => some b.id != (s.meeting f).served && b.state != .active && s.servingFloor b == some f)

/-- The room minute, 0 while the clock is unset. -/
def State.minute (s : State) : Nat := (s.clock.map (·.minute)).getD 0

/-- A walk-in floor's due booking. -/
def State.dueBooking (s : State) (f : Floor) : Option Booking :=
  if (s.meeting f).state == .walkIn && s.clock.isSome then
    s.bookings.find? (fun b => b.state == .scheduled && s.servingFloor b == some f && b.start ≤ s.minute + b.lead)
  else none

/-- The pool entries in use (07 R122). -/
def State.poolInUse (s : State) : Nat :=
  (s.bookings.map (·.roster.length)).sum + match s.staging with
    | .staging _ _ n _ => n
    | .idle | .failed _ _ _ _ => 0

/-- An inbound place is free (10 R183). -/
def Lane.placeFree (l : Lane) : Bool := l.places.length < 4

/-- The lane hold (10 R183). -/
def Lane.hold (l : Lane) : Bool := !l.placeFree

/-- An outbound place is free (10 R188). -/
def Lane.roomOut (l : Lane) : Bool := l.out.length < 16

end Sys2Proof.Machine
end

