-- ==== Sys2Proof/Machine/Formats.lean ====
section
/-! DEFINITION. Octets: the encodings of 12 R205 and R209, the two checks of R207, and the payloads of 12.4. -/

namespace Sys2Proof.Machine.Fmt

/-! ## Numbers, flags, lists (12 R205, R209) -/

def o1 (n : Nat) : List Octet := [BitVec.ofNat 8 n]
def o2 (n : Nat) : List Octet := [BitVec.ofNat 8 (n / 256), BitVec.ofNat 8 n]
def o3 (n : Nat) : List Octet := [BitVec.ofNat 8 (n / 65536), BitVec.ofNat 8 (n / 256), BitVec.ofNat 8 n]
def o4 (n : Nat) : List Octet := BitVec.ofNat 8 (n / 16777216) :: o3 n
def o6 (n : Nat) : List Octet := o2 (n / 4294967296) ++ o4 n
/-- A gain or level octet, two's complement. -/
def lev (x : Int) : List Octet := [BitVec.ofInt 8 x]
def gain : Gain → List Octet
  | .mute => [0x80]
  | .db x => lev x
def flag (b : Bool) : List Octet := [if b then 1 else 0]
/-- An optional field: the presence octet, then the field. -/
def opt {α : Type} (f : α → List Octet) : Option α → List Octet
  | none => [0]
  | some a => 1 :: f a
def text (t : Text) : List Octet := o1 t.length ++ t
/-- A list: the count octet, then the entries. -/
def list {α : Type} (f : α → List Octet) (l : List α) : List Octet := o1 l.length ++ (l.map f).flatten
def serial (x : Serial) : List Octet := o6 x.toNat
def card (x : CardId) : List Octet := o4 x.toNat
/-- A named value's code: its place in the order in which its owning table lists the values. -/
def floor (f : Floor) : List Octet := o1 f.ctorIdx
def branch (b : Branch) : List Octet := o1 b.ctorIdx
def binding (d : Binding) : List Octet := branch d.branch ++ o1 d.position
def seats (l : List Nat) : List Octet := list o1 l

/-! ## Checks (12 R207) -/

/-- One bit of the 8-bit CRC with generator x^8 + x^2 + x + 1. -/
def crc8Bit (r : BitVec 8) : BitVec 8 := if r.msb then (r <<< 1) ^^^ 0x07 else r <<< 1

def crc8Octet (r : BitVec 8) (o : Octet) : BitVec 8 :=
  crc8Bit (crc8Bit (crc8Bit (crc8Bit (crc8Bit (crc8Bit (crc8Bit (crc8Bit (r ^^^ o))))))))

/-- The slot check of the given octets. -/
def crc8 (os : List Octet) : BitVec 8 := os.foldl crc8Octet 0

/-- One bit of the message CRC with generator 0x1021. -/
def crc16Bit (r : BitVec 16) : BitVec 16 := if r.msb then (r <<< 1) ^^^ 0x1021 else r <<< 1

def crc16Octet (r : BitVec 16) (o : Octet) : BitVec 16 :=
  crc16Bit (crc16Bit (crc16Bit (crc16Bit (crc16Bit (crc16Bit (crc16Bit (crc16Bit (r ^^^ (o.setWidth 16 <<< 8)))))))))

/-- The message CRC of the given octets. -/
def crc16 (os : List Octet) : BitVec 16 := os.foldl crc16Octet 0xFFFF

/-- A sample's two octets, most significant first. -/
def sample (x : Sample) : List Octet := [x.extractLsb' 8 8, x.extractLsb' 0 8]

/-- A sample from its two octets. -/
def sampleOf (hi lo : Octet) : Sample := hi ++ lo

/-! ## Messages (12.3) -/

/-- A message of the hub with its length octet and CRC. The source is a free value (log entry 6). -/
def message (dest kind : Octet) (payload : List Octet) : List Octet :=
  let m := [dest, Config.hubSource, kind, BitVec.ofNat 8 payload.length] ++ payload
  let c := crc16 m
  m ++ [c.extractLsb' 8 8, c.extractLsb' 0 8]

/-- The octets of an outbound message as they are sent. -/
def outOctets : OutMsg → List Octet
  | .own dest kind payload _ => message dest kind payload
  | .relayed os => os

/-- The number of octets of an outbound message. -/
def outLength : OutMsg → Nat
  | .own _ _ payload _ => payload.length + 6
  | .relayed os => os.length

/-! ## Directive payloads (12.3, 12.4) -/

/-- NAMEPLATE. -/
def nameplate (p : Plate) : List Octet :=
  o1 p.role.ctorIdx ++ [(if p.lit then 0x80 else 0) ||| (if p.present then 0x40 else 0)] ++ o1 (p.see.getD 0) ++
  opt text p.name

/-- A cleared nameplate (08 R152), lit or dark as the room is. -/
def clearedPlate (lit : Bool) : Plate := { Reset.plate with lit := lit }

/-- A speaker of SHOW. -/
def speaker (x : Speaker) : List Octet :=
  o1 x.seat ++
  [(if x.name.isSome then 0x80 else 0) ||| (if x.warned then 0x40 else 0) ||| (if x.time.isSome then 0x20 else 0) |||
    (if x.overtime then 0x10 else 0)] ++
  (match x.name with | some t => text t | none => []) ++
  (match x.time with | some t => o2 t | none => [])

/-- SHOW, before the shortening of R210. -/
def content (c : Content) : List Octet :=
  o1 c.layout ++ opt text c.title ++ list speaker c.speakers ++
  (match c.holder with | some (n, t) => o1 n ++ opt text t | none => [0]) ++
  list (fun e => o1 e.1 ++ opt text e.2) c.queue ++ opt o3 c.stop ++
  opt (fun e => o3 e.1 ++ opt text e.2) c.next ++
  [(if c.endWarning then 0x80 else 0) ||| (if c.dueWarning then 0x40 else 0)]

/-- Mark the last present name of a list absent, if there is one. -/
def dropLast {α : Type} (has : α → Bool) (clear : α → α) : List α → Option (List α)
  | [] => none
  | x :: xs => match dropLast has clear xs with
    | some ys => some (x :: ys)
    | none => if has x then some (clear x :: xs) else none

/-- The next shortening of 12 R210, if a name or title is left. -/
def shorten (c : Content) : Option Content :=
  match dropLast (fun e => e.2.isSome) (fun e => (e.1, none)) c.queue with
  | some q => some { c with queue := q }
  | none => match c.next with
    | some (m, some _) => some { c with next := some (m, none) }
    | _ => match dropLast (fun x : Speaker => x.name.isSome) (fun x => { x with name := none }) c.speakers with
      | some sp => some { c with speakers := sp }
      | none => match c.holder with
        | some (n, some _) => some { c with holder := some (n, none) }
        | _ => match c.title with
          | some _ => some { c with title := none }
          | none => none

/-- The shortening of 12 R210: at most 17 names and titles are there to be marked absent. -/
def fit : Nat → Content → Content
  | 0, c => c
  | k + 1, c => if (content c).length ≤ 60 then c else match shorten c with
    | some c' => fit k c'
    | none => c

/-- The payload of a SHOW (12.4, R210). -/
def showPayload (c : Content) : List Octet := content (fit 20 c)

end Sys2Proof.Machine.Fmt
end

