-- ==== Sys2Proof/Machine/Operands.lean ====
section
/-! DEFINITION. Operand forms of requests: named values from their codes, marked settings, clamping (00 "Settings
tables", 12 R205, R209). -/

namespace Sys2Proof.Machine

/-! ## Named values: codes run from 0 in the owning table's order (12 R205) -/

def floorOfCode (n : Nat) : Option Floor := [Floor.A, .B][n]?
def branchOfCode (n : Nat) : Option Branch := [Branch.b0, .b1][n]?
def roleOfCode (n : Nat) : Option Role := [Role.none, .guest, .delegate, .viceChair, .chair][n]?
def modeOfCode (n : Nat) : Option Mode := [Mode.openMic, .request, .voice, .chairOnly][n]?
def fullPolicyOfCode (n : Nat) : Option FullPolicy := [FullPolicy.refuse, .bumpOldest][n]?
def expiryOfCode (n : Nat) : Option ExpiryAction := [ExpiryAction.close, .notify][n]?
def styleOfCode (n : Nat) : Option PriorityStyle := [PriorityStyle.momentary, .latched][n]?
def resumeOfCode (n : Nat) : Option ResumePolicy := [ResumePolicy.resume, .drop][n]?
def wallModeOfCode (n : Nat) : Option WallMode := [WallMode.follow, .forceCombined, .forceSplit][n]?
def scopeOfCode (n : Nat) : Option Scope := [Scope.A, .B, .combined][n]?
def meetingStates : List MeetingState := [.vacant, .walkIn, .preparing, .checkIn, .inSession, .overrun]
def meetingStateOfCode (n : Nat) : Option MeetingState := meetingStates[n]?
def speakersCondOfCode (n : Nat) : Option SpeakersCond := [SpeakersCond.any, .zero, .one, .many][n]?
def holdCondOfCode (n : Nat) : Option HoldCond := [HoldCond.any, .active, .none][n]?
def queueCondOfCode (n : Nat) : Option QueueCond := [QueueCond.any, .empty, .nonempty][n]?
def warnCondOfCode (n : Nat) : Option WarnCond := [WarnCond.any, .yes, .no][n]?
def nodeKindOfCode (n : Nat) : NodeKind :=
  [NodeKind.seat, .screen, .camera, .line, .wall, .console].getD n .other

/-- A flag octet: 0 no, 1 yes, any other a free value (12 R209, log entry 8). -/
def flagOf (n : Nat) : Bool := if n = 0 then false else if n = 1 then true else Config.strayFlag n

/-! ## Marked fields -/

end Sys2Proof.Machine

namespace Sys2Proof.Mark

def isBad {α : Type} : Mark α → Bool
  | .bad => true
  | .absent | .given _ => false

/-- Marked present. -/
def present {α : Type} : Mark α → Bool
  | .given _ => true
  | .absent | .bad => false

def toOption {α : Type} : Mark α → Option α
  | .given a => some a
  | .absent | .bad => none

/-- The field fails its RANGE check: its presence octet is neither 0 nor 1 (12 R205), or it is given and `bad` holds. -/
def fails {α : Type} (bad : α → Bool) : Mark α → Bool
  | .absent => false
  | .given a => bad a
  | .bad => true

/-- A present setting is written through `f`, an absent one keeps its value. -/
def write {α β : Type} (m : Mark α) (f : α → β) (old : β) : β :=
  match m with
  | .given a => f a
  | .absent | .bad => old

/-- A present named value is written by its code; an absent or unlisted one keeps its value. -/
def writeNamed {β : Type} (m : Mark Nat) (f : Nat → Option β) (old : β) : β :=
  match m with
  | .given a => (f a).getD old
  | .absent | .bad => old

/-- A named value whose code is not in its list (12 R205). -/
def unlisted {β : Type} (f : Nat → Option β) (m : Mark Nat) : Bool := m.fails (fun n => (f n).isNone)

end Sys2Proof.Mark

namespace Sys2Proof.Machine

/-- A mark for the serial field of a record: given and absent inside is UNMAPPED (12 R209). -/
def serialFails (m : Mark (Mark Serial)) : Bool := m.fails (·.isBad)

def writeSerial (m : Mark (Mark Serial)) (old : Option Serial) : Option Serial := m.write (·.toOption) old

/-! ## Clamping -/

def clampNat (lo hi n : Nat) : Nat := max lo (min hi n)
def clampInt (lo hi n : Int) : Int := max lo (min hi n)

/-- A text whose length is outside 1 to `k` (12 R205). -/
def badText (k : Nat) (t : Text) : Bool := t.length = 0 || k < t.length

/-- Turn limit: 0, or clamped into 10..3,600 (02 section 2.2). -/
def clampTurnLimit (n : Nat) : Nat := if n = 0 then 0 else clampNat 10 3600 n

def clampGain (lo hi : Int) : Gain → Gain
  | .mute => .mute
  | .db x => .db (clampInt lo hi x)

/-- An allowance is clamped into 60..65,535 (01 R7, 07 R124). -/
def clampAllowance (n : Nat) : Nat := clampNat 60 65535 n

/-- A seat number outside 1..48. -/
def badSeat (n : Nat) : Bool := n = 0 || 48 < n

/-! ## Floor, gate and mix settings -/

end Sys2Proof.Machine

namespace Sys2Proof.FloorSettingsArg
open Machine

/-- No setting is present. -/
def nonePresent (a : FloorSettingsArg) : Bool :=
  !(a.mode.present || a.openMicLimit.present || a.fullPolicy.present || a.autoGrant.present || a.turnLimit.present ||
    a.warnLead.present || a.expiryAction.present || a.priorityStyle.present || a.resumePolicy.present ||
    a.voiceRelease.present || a.presenceRequired.present || a.walkinIdle.present)

/-- A named value outside its list, or a presence octet other than 0 and 1 (02 R21, 12 R205). -/
def bad (a : FloorSettingsArg) : Bool :=
  a.mode.unlisted modeOfCode || a.openMicLimit.isBad || a.fullPolicy.unlisted fullPolicyOfCode || a.autoGrant.isBad ||
  a.turnLimit.isBad || a.warnLead.isBad || a.expiryAction.unlisted expiryOfCode ||
  a.priorityStyle.unlisted styleOfCode || a.resumePolicy.unlisted resumeOfCode || a.voiceRelease.isBad ||
  a.presenceRequired.isBad || a.walkinIdle.isBad

/-- The present settings, clamped as 02 section 2.2 says, written over the old ones. -/
def write (a : FloorSettingsArg) (o : FloorSettings) : FloorSettings :=
  { mode := a.mode.writeNamed modeOfCode o.mode
    openMicLimit := a.openMicLimit.write (clampNat 1 8) o.openMicLimit
    fullPolicy := a.fullPolicy.writeNamed fullPolicyOfCode o.fullPolicy
    autoGrant := a.autoGrant.write flagOf o.autoGrant
    turnLimit := a.turnLimit.write clampTurnLimit o.turnLimit
    warnLead := a.warnLead.write (clampNat 0 120) o.warnLead
    expiryAction := a.expiryAction.writeNamed expiryOfCode o.expiryAction
    priorityStyle := a.priorityStyle.writeNamed styleOfCode o.priorityStyle
    resumePolicy := a.resumePolicy.writeNamed resumeOfCode o.resumePolicy
    voiceRelease := a.voiceRelease.write (clampNat 1 30) o.voiceRelease
    presenceRequired := a.presenceRequired.write flagOf o.presenceRequired
    walkinIdle := a.walkinIdle.write (clampNat 10 60) o.walkinIdle }

end Sys2Proof.FloorSettingsArg

namespace Sys2Proof.GateSettingsArg
open Machine

def nonePresent (a : GateSettingsArg) : Bool := !(a.openBand.present || a.closeBand.present || a.hangTime.present)

def bad (a : GateSettingsArg) : Bool := a.openBand.isBad || a.closeBand.isBad || a.hangTime.isBad

/-- Clamped, then the close band raised above the open band (04 R71). -/
def write (a : GateSettingsArg) (o : GateSettings) : GateSettings :=
  let op := a.openBand.write (clampNat 0 22) o.openBand
  let cl := a.closeBand.write (clampNat 1 23) o.closeBand
  { openBand := op, closeBand := if cl ≤ op then op + 1 else cl,
    hangTime := a.hangTime.write (clampNat 100 2000) o.hangTime }

end Sys2Proof.GateSettingsArg

namespace Sys2Proof.MixSettingsArg
open Machine

def nonePresent (a : MixSettingsArg) : Bool :=
  !(a.closedGate.present || a.priorityDuck.present || a.proximityDuck.present || a.talkerDuck.present ||
    a.level.present)

def bad (a : MixSettingsArg) : Bool :=
  a.closedGate.isBad || a.priorityDuck.isBad || a.proximityDuck.isBad || a.talkerDuck.isBad || a.level.isBad

/-- Clamped as 05 section 5.5 says. -/
def write (a : MixSettingsArg) (o : MixSettings) : MixSettings :=
  { closedGate := a.closedGate.write (clampGain (-60) 0) o.closedGate
    priorityDuck := a.priorityDuck.write (clampGain (-60) 0) o.priorityDuck
    proximityDuck := a.proximityDuck.write (clampGain (-60) 0) o.proximityDuck
    talkerDuck := a.talkerDuck.write (clampGain (-60) 0) o.talkerDuck
    level := a.level.write (clampInt (-80) 0) o.level }

end Sys2Proof.MixSettingsArg

namespace Sys2Proof.Machine

/-! ## Delegate records and roster entries -/

end Sys2Proof.Machine

namespace Sys2Proof
open Machine

/-- A delegate record whose name or presence octets fail (01 R7, 07 R124, 12 R205). -/
def DelegateArg.bad (d : DelegateArg) : Bool := badText 24 d.name || d.allowance.isBad

def DelegateArg.read (d : DelegateArg) : Delegate :=
  { card := d.card, name := d.name, allowance := d.allowance.toOption.map clampAllowance }

/-- The delegate record of an entry, its allowance clamped. -/
def RosterArg.record (a : RosterArg) : Option Delegate := a.delegate.toOption.map (fun d => d.read)

end Sys2Proof
end

