-- ==== Sys2Proof/Machine/Ops.lean ====
section
/-! DEFINITION. What every chapter shares: making reports (10 R189), placing messages in the outbound queues (R188),
answering requests (R187), handing directives on (08 R151). -/

namespace Sys2Proof.Machine

/-- The end of every meaning: the hub goes on in `t`, with the queue of waiting commands untouched. -/
def finish (s t : State) : Host.Outcome State Fault Refusal := .next { t with pending := s.pending }

/-! ## The sources of an outbound queue (10 R188) -/

/-- The report address is valid (10 R189). -/
def State.addressValid (s : State) : Bool := match s.cru.address with
  | none => false
  | some d => match s.entry? d with
    | some e => e.kind == .console && e.link != .lost
    | none => false

/-- The branch on which a directive's target is bound (08 R151). -/
def State.targetBranch (s : State) : Target → Option Branch
  | .screenPower k | .screenShow k => (s.screen k).binding.map (·.branch)
  | .plate d => some d.branch
  | .camera k => (s.camera k).binding.map (·.branch)

/-- The node that a directive goes to. -/
def State.targetNode (s : State) : Target → Option Binding
  | .screenPower k | .screenShow k => (s.screen k).binding
  | .plate d => some d
  | .camera k => (s.camera k).binding

/-- The branch that a place's message waits to be relayed to, if it does. -/
def PlaceUse.relayTo : PlaceUse → Option Branch
  | .relay b | .both _ b => some b
  | .receiving | .request _ => none

/-- The request that a place holds for the CRU, if it does. -/
def PlaceUse.request? : PlaceUse → Option Instr
  | .request i | .both i _ => some i
  | .receiving | .relay _ => none

/-- A place whose message has been relayed or dropped by the relay: freed, unless the CRU still waits for it. -/
def Place.relayed (p : Place) : Option Place := match p.use with
  | .both i _ => some { p with use := .request i }
  | .relay _ => none
  | .receiving | .request _ => some p

/-- A place whose request has been taken by the CRU: freed, unless it still waits to be relayed. -/
def Place.requested (p : Place) : Option Place := match p.use with
  | .both _ b => some { p with use := .relay b }
  | .request _ => none
  | .receiving | .relay _ => some p

/-- The relayed messages that wait for branch `b`, in both lanes' places (10 R185). -/
def State.relaysFor (s : State) (b : Branch) : List Place :=
  (s.lane0.places ++ s.lane1.places).filter (fun p => p.use.relayTo == some b)

/-- The place whose message completed earliest. -/
def earliest : List Place → Option Place
  | [] => none
  | p :: ps => match earliest ps with
    | some q => if q.stamp < p.stamp then some q else some p
    | none => some p

/-- A source has something waiting for branch `b` (10 R188). -/
def State.waitsFor (s : State) (b : Branch) : Source → Bool
  | .answer => match s.cru.waiting with
    | some (c, _) => c == b
    | none => false
  | .relay => !(s.relaysFor b).isEmpty
  | .directive => s.sd.waiting.any (fun d => s.targetBranch d.target == some b)
  | .report => !s.cru.reports.isEmpty && s.addressValid && (s.cru.address.map (·.branch)) == some b

/-- Some source waits for branch `b`. -/
def State.anyWaits (s : State) (b : Branch) : Bool :=
  s.waitsFor b .answer || s.waitsFor b .relay || s.waitsFor b .directive || s.waitsFor b .report

/-- A message may be placed at once (10 R188). -/
def State.atOnce (s : State) (b : Branch) : Bool := (s.lane b).roomOut && !s.anyWaits b

/-- A message joins the tail of a branch's outbound queue. -/
def pushOut (b : Branch) (m : OutMsg) (s : State) : State := s.modLane b (fun l => { l with out := l.out ++ [m] })

/-! ## Reports (10 R189) -/

/-- The message that carries a report, with the lost count as it stands (12.3). -/
def reportMessage (d : Binding) (lost : Nat) (r : Report) : OutMsg :=
  .own d.octet 0x11 (Fmt.o1 r.kind.ctorIdx ++ Fmt.o2 lost ++ Fmt.o4 r.ms ++ r.body) .plain

/-- A report kind is enabled; HELLO always is (10 section 10.7). -/
def Cru.enabled (c : Cru) (k : ReportKind) : Bool := k == .hello || c.enables.getD k.ctorIdx false

/-- Join the report queue; a queue of 32 discards its oldest (10 R189). -/
def Cru.push (c : Cru) (r : Report) : Cru :=
  if c.reports.length < 32 then { c with reports := c.reports ++ [r] }
  else { c with reports := c.reports.drop 1 ++ [r], lost := sat16 (c.lost + 1) }

/-- Make a report of an event that is taken now, if its kind is enabled and a report address is known (10 R189). It is
delivered at the end of the command, after the screen director has taken the change (03 R47, log entry 12). -/
def report (k : ReportKind) (body : List Octet) (s : State) : State :=
  if s.cru.address.isSome && s.cru.enabled k then
    { s with cru := { s.cru with made := s.cru.made ++ [⟨k, s.now % 4294967296, body⟩] } }
  else s

/-- A report that has been made goes straight to the outbound queue when the address is valid, a place is free and no
source waits (10 R188); else it joins the report queue (R189). -/
def deliverReport (r : Report) (s : State) : State :=
  match s.cru.address with
  | none => { s with cru := s.cru.push r }
  | some d =>
    if s.addressValid && s.atOnce d.branch then
      { pushOut d.branch (reportMessage d s.cru.lost r) s with cru := { s.cru with lost := 0 } }
    else { s with cru := s.cru.push r }

/-- The reports that the command has made are delivered, in the order in which they were made (10 R189). -/
def deliver (s : State) : State :=
  forAll s.cru.made deliverReport { s with cru := { s.cru with made := [] } }

/-- A report that an edge select must pass (10 R189). -/
def reportIf (c : Bool) (k : ReportKind) (body : List Octet) (s : State) : State := if c then report k body s else s

/-! ## Answers (10 R187) -/

/-- The answer message of a request (12.3). -/
def answerMessage (h : Head) (c : Code) (data : List Octet) (mark : OutMark) : OutMsg :=
  .own h.source 0x10 (h.tag :: BitVec.ofNat 8 c.ctorIdx :: data) mark

/-- Place an answer, or keep it waiting in the CRU (10 R187, R188). -/
def placeAnswer (b : Branch) (m : OutMsg) (s : State) : State :=
  if s.atOnce b then pushOut b m s else { s with cru := { s.cru with waiting := some (b, m) } }

/-- Answer a request. -/
def answer (h : Head) (c : Code) (data : List Octet) (s : State) : State :=
  placeAnswer h.branch (answerMessage h c data .plain) s

/-! ## Directives (08 R151) -/

/-- The kind octet of a directive's message (12.3). -/
def Target.kindOctet : Target → Octet
  | .screenPower _ => 0x12
  | .screenShow _ => 0x13
  | .plate _ => 0x14
  | .camera _ => 0x15

def Target.outMark : Target → OutMark
  | .screenShow k => .showFor k
  | .screenPower _ | .plate _ | .camera _ => .plain

/-- The message of a directive for a node. -/
def directiveMessage (node : Binding) (d : Directive) : OutMsg :=
  .own node.octet d.target.kindOctet d.payload d.target.outMark

/-- An outbound message is a SHOW for screen `k`. -/
def OutMsg.isShow (k : Nat) : OutMsg → Bool
  | .own _ _ _ (.showFor j) => j == k
  | .own _ _ _ .plain | .own _ _ _ .resetAnswer | .relayed _ => false

/-- A SHOW whose first element has not been sent is in the outbound queue (08 R151, 10 R188). -/
def Lane.unsentShow (l : Lane) (k : Nat) : Bool := (if l.sent = 0 then l.out else l.out.drop 1).any (·.isShow k)

/-- The new SHOW takes the old one's place in the queue. -/
def Lane.replaceShow (l : Lane) (k : Nat) (m : OutMsg) : Lane :=
  let swap (x : OutMsg) : OutMsg := if x.isShow k then m else x
  { l with out := if l.sent = 0 then l.out.map swap else l.out.take 1 ++ (l.out.drop 1).map swap }

/-- A SHOW has been handed on: last SHOW is this millisecond and the unsent mark is cleared (08 R150). -/
def shown (t : Target) (s : State) : State := match t with
  | .screenShow k => s.modScreen k (fun r => { r with lastShow := some s.now, unsent := false })
  | .screenPower _ | .plate _ | .camera _ => s

/-- The screen that a target belongs to, if it is a screen's. -/
def Target.screen? : Target → Option Nat
  | .screenPower k | .screenShow k => some k
  | .plate _ | .camera _ => none

/-- Add a directive to the waiting ones: a newer one takes the place of its predecessor, a screen's POWER stands
before its SHOW, any other joins the tail (08 R151). -/
def joinWaiting (d : Directive) (w : List Directive) : List Directive :=
  if w.any (fun x => x.target == d.target) then w.map (fun x => if x.target == d.target then d else x)
  else match d.target with
    | .screenPower k =>
      if w.any (fun x => x.target == .screenShow k) then
        w.flatMap (fun x => if x.target == .screenShow k then [d, x] else [x])
      else w ++ [d]
    | .screenShow k =>
      if w.any (fun x => x.target == .screenPower k) then
        w.flatMap (fun x => if x.target == .screenPower k then [x, d] else [x])
      else w ++ [d]
    | .plate _ | .camera _ => w ++ [d]

/-- Hand a directive on to its node, or let it wait (08 R151). -/
def handOn (d : Directive) (s : State) : State :=
  match s.targetNode d.target with
  | none => s
  | some node =>
    let m := directiveMessage node d
    let replace : Option Nat := match d.target with
      | .screenShow k => if (s.lane node.branch).unsentShow k then some k else none
      | .screenPower _ | .plate _ | .camera _ => none
    match replace with
    | some k => shown d.target (s.modLane node.branch (fun l => l.replaceShow k m))
    | none =>
      if s.atOnce node.branch then shown d.target (pushOut node.branch m s)
      else { s with sd := { s.sd with waiting := joinWaiting d s.sd.waiting } }

/-- A NAMEPLATE is owed to a seat's station, whether or not its record changes (08 R152, R153). -/
def owePlate (n : Nat) (s : State) : State := { s with sd := { s.sd with plateDue := s.sd.plateDue ++ [n] } }

/-! ## The rotation (10 R188) -/

/-- The sources in rotation order after the one served last. -/
def Source.after : Source → List Source
  | .answer => [.relay, .directive, .report, .answer]
  | .relay => [.directive, .report, .answer, .relay]
  | .directive => [.report, .answer, .relay, .directive]
  | .report => [.answer, .relay, .directive, .report]

/-- The source that a freed place of branch `b` is offered to. -/
def State.nextSource (s : State) (b : Branch) : Option Source :=
  ((s.lane b).rotation.after).find? (s.waitsFor b)

/-- The place whose relayed message has been placed is freed (10 R183, R185). -/
def freeRelay (stamp : Nat) (s : State) : State :=
  let free (l : Lane) : Lane :=
    { l with places := l.places.filterMap (fun p => if p.stamp = stamp then p.relayed else some p) }
  { s with lane0 := free s.lane0, lane1 := free s.lane1 }

/-- Place the waiting message of one source (10 R187 to R189, 08 R151). -/
def placeFrom (b : Branch) (src : Source) (s : State) : State :=
  match src with
  | .answer => match s.cru.waiting with
    | some (_, m) => { pushOut b m s with cru := { s.cru with waiting := none } }
    | none => s
  | .relay => match earliest (s.relaysFor b) with
    | some p => pushOut b (.relayed p.octets) (freeRelay p.stamp s)
    | none => s
  | .directive => match s.sd.waiting.find? (fun d => s.targetBranch d.target == some b) with
    | some d => match s.targetNode d.target with
      | some node =>
        shown d.target (pushOut b (directiveMessage node d)
          { s with sd := { s.sd with waiting := s.sd.waiting.filter (fun x => x.target != d.target) } })
      | none => s
    | none => s
  | .report => match s.cru.address, s.cru.reports with
    | some d, r :: rs =>
      { pushOut b (reportMessage d s.cru.lost r) s with cru := { s.cru with reports := rs, lost := 0 } }
    | _, _ => s

/-- Serve one source by the rotation: place its message and note it as served last. -/
def serve (b : Branch) (src : Source) (s : State) : State :=
  (placeFrom b src s).modLane b (fun l => { l with rotation := src })

/-- A freed place is offered by the rotation (10 R188). -/
def offerPlace (b : Branch) (s : State) : State :=
  if (s.lane b).roomOut then
    match s.nextSource b with
    | some src => serve b src s
    | none => s
  else s

/-- A source takes a free place when it waits for branch `b`. -/
def placeWaiting (b : Branch) (src : Source) (s : State) : State :=
  if (s.lane b).roomOut && s.waitsFor b src then serve b src s else s

/-! ## Report bodies that several chapters make -/

/-- The causes of a KEY report: those of 02 R27, then those of 03 R66 (log entry 16). -/
inductive KeyCause where
  | key | next | auto | voice | voiceRelease | bump | console | mode | limit | release | meetingEnd
  | priority | resume | drop | turnLimit | allowance
  deriving DecidableEq, Repr

/-- The sub-causes of a forced release (02 R27, R43). -/
inductive SubCause where
  | linkLost | absent | role
  deriving DecidableEq, Repr

/-- The refusal reasons, in the order of 02 R27. -/
inductive Refused where
  | closed | noRole | absent | allowance | test | link | full | hold | queueFull | mode | empty | notChair
  deriving DecidableEq, Repr

/-- A KEY report of a seat's present state (02 R27). -/
def keyReport (n : Nat) (c : KeyCause) (sub : Option SubCause) (reason : Option Refused) (s : State) : State :=
  report .key (Fmt.o1 n ++ Fmt.floor (s.seatFloor n) ++ Fmt.o1 (s.seat n).floorState.ctorIdx ++ Fmt.o1 c.ctorIdx ++
    Fmt.opt (fun x => Fmt.o1 x.ctorIdx) sub ++ Fmt.opt (fun x => Fmt.o1 x.ctorIdx) reason) s

/-- A SEAT report of group MAP (01 R16). -/
def seatMapReport (n : Nat) (s : State) : State :=
  let r := s.seat n
  report .seat (Fmt.o1 n ++ Fmt.o1 0 ++ Fmt.opt Fmt.serial r.serial ++ Fmt.floor r.side ++ Fmt.lev r.trim ++
    Fmt.seats r.neighbours) s

/-- A SEAT report of group BINDING (01 R16). -/
def bindingReport (n : Nat) (s : State) : State :=
  report .seat (Fmt.o1 n ++ Fmt.o1 1 ++ Fmt.opt Fmt.binding (s.seat n).binding) s

/-- A SEAT report of group ROSTER (01 R16). -/
def rosterReport (n : Nat) (s : State) : State :=
  let r := s.seat n
  report .seat (Fmt.o1 n ++ Fmt.o1 2 ++ Fmt.o1 r.role.ctorIdx ++
    Fmt.opt (fun d : Delegate => Fmt.card d.card ++ Fmt.text d.name) r.delegate) s

end Sys2Proof.Machine
end

