-- ==== Sys2Proof/Machine/FloorOps.lean ====
section
/-! DEFINITION. The floor controllers' shared operations: admission, requests, grants, closes, the grant pass (02),
holds, the suspension list and turns (03). -/

namespace Sys2Proof.Machine

/-! ## Changes of a seat's floor state -/

/-- One turn more in a seat's account (03 R63). -/
def SeatRec.accountTurn (r : SeatRec) : SeatRec := { r with accTurns := min 255 (r.accTurns + 1) }

/-- A seat takes a floor state; its refusal display ends (02 R24) and its timers of SPEAKING are cancelled. -/
def SeatRec.toState (st : FloorState) (r : SeatRec) : SeatRec :=
  { r with floorState := st, refusal := none, turn := none, release := none }

/-- The walk-in idle count stays at 0 while a seat is SPEAKING or PRIORITY (07 R136). -/
def Meeting.restIdle (m : Meeting) : Meeting := { m with idle := 0, idleRem := 0 }

/-- The turn timer that a grant starts (03 R59). -/
def startTurn (limit : Nat) : Turn :=
  { remaining := if limit = 0 then none else some (limit * 1000), warned := false, expired := false, overtime := 0,
    overtimeRem := 0 }

/-- Become SPEAKING with a turn timer, at the tail of the grant order (02 R32, 03 R54). -/
def becomeSpeaking (n : Nat) (t : Turn) (s : State) : State :=
  let f := s.seatFloor n
  let release := if (s.floor f).settings.mode == .voice then some 0 else none
  (s.modFloor f (fun r => { r with grantOrder := r.grantOrder ++ [n], meeting := r.meeting.restIdle })).modSeat n
    (fun r => { r.toState .speaking with turn := some t, release := release })

/-- Leave the request queue of the seat's floor (02 R18). -/
def leaveQueue (n : Nat) (s : State) : State :=
  s.modFloor (s.seatFloor n) (fun r => { r with queue := r.queue.filter (· != n) })

/-- A grant (02 R32). -/
def grant (n : Nat) (c : KeyCause) (s : State) : State :=
  keyReport n c none none (becomeSpeaking n (startTurn (s.floor (s.seatFloor n)).settings.turnLimit) (leaveQueue n s))

/-- A close (02 R33). -/
def close (n : Nat) (c : KeyCause) (sub : Option SubCause) (s : State) : State :=
  keyReport n c sub none
    ((s.modFloor (s.seatFloor n) (fun r => { r with grantOrder := r.grantOrder.filter (· != n) })).modSeat n
      (fun r => (r.toState .idle).accountTurn))

/-- A QUEUED seat leaves the queue and becomes IDLE. -/
def dequeue (n : Nat) (c : KeyCause) (sub : Option SubCause) (s : State) : State :=
  keyReport n c sub none ((leaveQueue n s).modSeat n (SeatRec.toState .idle))

/-- A SUSPENDED seat leaves the suspension list other than by resumption, for a new state (03 R57). -/
def leaveSuspension (n : Nat) (st : FloorState) (s : State) : State :=
  (s.modFloor (s.seatFloor n) (fun r => { r with susp := r.susp.filter (·.seat != n) })).modSeat n
    (fun r => (r.toState st).accountTurn)

/-- A suspended turn ends with the seat IDLE (03 R57). -/
def endSuspended (n : Nat) (c : KeyCause) (sub : Option SubCause) (s : State) : State :=
  keyReport n c sub none (leaveSuspension n .idle s)

/-! ## Admission and the grant pass -/

/-- The admission checks (02 R24): the reason of the first that fails. -/
def State.admission (s : State) (n : Nat) : Option Refused :=
  let r := s.seat n
  if r.role == .none then some .noRole
  else if (s.floor (s.seatFloor n)).settings.presenceRequired && r.presence == .absent then some .absent
  else if r.exhausted then some .allowance
  else if s.underTest n then some .test
  else if s.seatLink n == .lost then some .link
  else none

/-- A voice candidate (02 R34). -/
def State.voiceCandidate (s : State) (n : Nat) : Bool :=
  (s.seat n).floorState == .idle && (s.chan n).gate == .opened && (s.admission n).isNone

/-- The candidate with the earliest opening time, the lower seat number among equals (02 R34). -/
def State.firstCandidate (s : State) (f : Floor) : Option Nat :=
  ((s.floorSeats f).filter s.voiceCandidate).foldl
    (fun best n => match best with
      | none => some n
      | some m => if ((s.chan n).opening.getD 0) < ((s.chan m).opening.getD 0) then some n else some m) none

/-- Grant the head of the queue while a slot is free (02 R36). -/
def grantQueue (f : Floor) (c : KeyCause) : Nat → State → State
  | 0, s => s
  | k + 1, s => if s.slotFree f then
      match (s.floor f).queue with
      | n :: _ => grantQueue f c k (grant n c s)
      | [] => s
    else s

/-- Grant voice candidates while a slot is free (02 R34, R36). -/
def grantVoices (f : Floor) : Nat → State → State
  | 0, s => s
  | k + 1, s => if s.slotFree f then
      match s.firstCandidate f with
      | some n => grantVoices f k (grant n .voice s)
      | none => s
    else s

/-- The grant pass (02 R36). At most 8 seats speak, so 8 grants suffice. -/
def grantPass (f : Floor) (s : State) : State :=
  if s.live f then
    match (s.floor f).settings.mode with
    | .request => if (s.floor f).settings.autoGrant then grantQueue f .auto 8 s else s
    | .voice => grantVoices f 8 s
    | .openMic | .chairOnly => s
  else s

/-! ## Requests by key (02 R24, R28 to R31) -/

/-- A refused mic or NEXT press: the display starts and a KEY report is made (02 R24). -/
def refuse (n : Nat) (c : KeyCause) (why : Refused) (s : State) : State :=
  keyReport n c none (some why) (s.modSeat n (fun r => { r with refusal := some 0 }))

/-- The earliest-granted SPEAKING seat that is not a chair seat (02 R28, R31). -/
def State.bumpable (s : State) (f : Floor) : Option Nat :=
  (s.floor f).grantOrder.find? (fun m => !(s.seat m).role.isChair)

/-- Close a speaker to make room, then grant (02 R28, R31). -/
def bump (n : Nat) (f : Floor) (s : State) : State := match s.bumpable f with
  | some m => grant n .key (close m .bump none s)
  | none => refuse n .key .full s

/-- OPEN mode (02 R28). -/
def requestOpen (n : Nat) (f : Floor) (s : State) : State :=
  if s.holdActive f then refuse n .key .hold s
  else if s.slotFree f then grant n .key s
  else match (s.floor f).settings.fullPolicy with
    | .refuse => refuse n .key .full s
    | .bumpOldest => bump n f s

/-- REQUEST and CHAIR_ONLY modes (02 R29, R30). -/
def requestQueued (n : Nat) (f : Floor) (s : State) : State :=
  if 24 ≤ (s.floor f).queue.length then refuse n .key .queueFull s
  else grantPass f (keyReport n .key none none
    ((s.modFloor f (fun r => { r with queue := r.queue ++ [n] })).modSeat n (SeatRec.toState .queued)))

/-- A chair seat's request, in any mode (02 R31). -/
def requestChair (n : Nat) (f : Floor) (s : State) : State :=
  if s.holdActive f then refuse n .key .hold s
  else if s.slotFree f then grant n .key s
  else bump n f s

/-- A request from an IDLE seat of a LIVE floor (02 R24). -/
def request (n : Nat) (s : State) : State :=
  let f := s.seatFloor n
  match s.admission n with
  | some why => refuse n .key why s
  | none =>
    if (s.seat n).role.isChair then requestChair n f s
    else match (s.floor f).settings.mode with
      | .openMic => requestOpen n f s
      | .request | .chairOnly => requestQueued n f s
      | .voice => refuse n .key .mode s

/-! ## Holds (03) -/

/-- The outcomes of a PRIORITY report, in the order of 03 R65. -/
inductive HoldOutcome where
  | started | covered | beneath | ended | takeover | settled | refused
  deriving DecidableEq, Repr

/-- The reasons for which an entry ends, in the order of 03 R65. -/
inductive EndReason where
  | key | linkLost | absent | role | console | meetingEnd
  deriving DecidableEq, Repr

/-- The reasons of a refused priority press, in the order of 03 R48. -/
inductive HoldRefusal where
  | closed | notChair | absent | test | link
  deriving DecidableEq, Repr

/-- A PRIORITY report with the stack as it stands (03 R65; layout: log entry 31). -/
def priorityReport (f : Floor) (o : HoldOutcome) (l : Option Level) (holder : Option Nat) (reason : Option Nat)
    (extra : List Octet) (s : State) : State :=
  report .priority (Fmt.floor f ++ Fmt.o1 o.ctorIdx ++ Fmt.opt (fun x : Level => Fmt.o1 x.ctorIdx) l ++
    Fmt.opt Fmt.o1 holder ++ Fmt.opt Fmt.o1 reason ++
    Fmt.list (fun e : HoldEntry => Fmt.o1 e.level.ctorIdx ++ Fmt.o1 e.holder) (s.floor f).stack ++ extra) s

def endedReport (f : Floor) (e : HoldEntry) (why : EndReason) (s : State) : State :=
  priorityReport f .ended (some e.level) (some e.holder) (some why.ctorIdx) [] s

/-- Resume or drop one suspended seat (03 R54); `done` gathers the resumed seats and those made IDLE. -/
def settleEntry (f : Floor) (e : SuspEntry) (d : State × List Nat × List Nat) : State × List Nat × List Nat :=
  let s := d.1
  let set := (s.floor f).settings
  if set.resumePolicy == .resume && !(s.seat e.seat).exhausted && (s.floor f).grantOrder.length < set.openMicLimit then
    (keyReport e.seat .resume none none (becomeSpeaking e.seat e.turn
      (s.modFloor f (fun r => { r with susp := r.susp.filter (·.seat != e.seat) }))), d.2.1 ++ [e.seat], d.2.2)
  else (endSuspended e.seat .drop none s, d.2.1, d.2.2 ++ [e.seat])

/-- The suspension list is settled and the grant pass runs (03 R54). The SETTLED report concerns no entry: its level and
its holder are absent (log entry 31). -/
def settle (f : Floor) (s : State) : State :=
  let d := (s.floor f).susp.foldl (fun d e => settleEntry f e d) (s, [], [])
  grantPass f (priorityReport f .settled none none none (Fmt.seats d.2.1 ++ Fmt.seats d.2.2) d.1)

/-- A holder becomes IDLE; a PRIORITY holder's hold is accounted (03 R53). -/
def releaseHolder (n : Nat) (s : State) : State :=
  s.modSeat n (fun r => if r.floorState == .priority then (r.toState .idle).accountTurn else r.toState .idle)

/-- The entry of holder `n` ends (03 R53). -/
def endEntry (n : Nat) (why : EndReason) (f : Floor) (s : State) : State :=
  match (s.floor f).stack with
  | [] => s
  | [e] => if e.holder == n then
      settle f (endedReport f e why (keyReport n .priority none none
        ((releaseHolder n s).modFloor f (fun r => { r with stack := [] }))))
    else s
  | e :: low :: _ =>
    if e.holder == n then
      let s := keyReport n .priority none none ((releaseHolder n s).modFloor f (fun r => { r with stack := [low] }))
      let s := keyReport low.holder .priority none none (s.modSeat low.holder (SeatRec.toState .priority))
      priorityReport f .takeover (some low.level) (some low.holder) none [] (endedReport f e why s)
    else if low.holder == n then
      endedReport f low why (keyReport n .priority none none
        ((releaseHolder n s).modFloor f (fun r => { r with stack := [e] })))
    else s

/-- Every entry of a stack ends together, top first, with one settlement (03 R54, R58, R65). -/
def endAllEntries (why : EndReason) (f : Floor) (s : State) : State :=
  let es := (s.floor f).stack
  let s := forAll es (fun e => releaseHolder e.holder) (s.modFloor f (fun r => { r with stack := [] }))
  let s := forAll es (fun e => keyReport e.holder .priority none none) s
  settle f (forAll es (fun e => endedReport f e why) s)

/-- A hold starts on an empty stack (03 R49). -/
def startHold (n : Nat) (e : HoldEntry) (f : Floor) (s : State) : State :=
  let others := (s.floor f).grantOrder.filter (· != n)
  let list := others.map (fun m => (⟨m, ((s.seat m).turn.getD (startTurn 0))⟩ : SuspEntry))
  let s := s.modSeat n (fun r => if r.floorState == .speaking then r.accountTurn else r)
  let s := forAll others (fun m => State.modSeat m (SeatRec.toState .suspended)) s
  let s := s.modFloor f (fun r => { r with grantOrder := [], susp := list, stack := [e], meeting := r.meeting.restIdle })
  let s := s.modSeat n (SeatRec.toState .priority)
  priorityReport f .started (some e.level) (some n) none []
    (forAll (others ++ [n]) (fun m => keyReport m .priority none none) s)

/-- The CHAIR covers a VICE entry that stands alone (03 R50). -/
def coverHold (n : Nat) (e low : HoldEntry) (f : Floor) (s : State) : State :=
  let s := if (s.seat n).floorState == .suspended then leaveSuspension n .idle s else s
  let s := s.modFloor f (fun r => { r with stack := [e, low] })
  let s := s.modSeat low.holder (fun r => (r.toState .priorityWait).accountTurn)
  let s := s.modSeat n (SeatRec.toState .priority)
  priorityReport f .covered (some e.level) (some n) none []
    (keyReport n .priority none none (keyReport low.holder .priority none none s))

/-- The VICE_CHAIR joins beneath a CHAIR entry that stands alone (03 R51). -/
def joinBeneath (n : Nat) (top e : HoldEntry) (f : Floor) (s : State) : State :=
  let s := if (s.seat n).floorState == .suspended then leaveSuspension n .priorityWait s
    else s.modSeat n (SeatRec.toState .priorityWait)
  let s := s.modFloor f (fun r => { r with stack := [top, e] })
  priorityReport f .beneath (some e.level) (some n) none [] (keyReport n .priority none none s)

/-- The level of the entry that a role makes (03 R46). -/
def levelOf : Role → Option Level
  | .chair => some .chair
  | .viceChair => some .vice
  | .none | .guest | .delegate => none

/-- The admission of a priority press (03 R48). -/
def State.holdAdmission (s : State) (n : Nat) : Option HoldRefusal :=
  let r := s.seat n
  let f := s.seatFloor n
  if !s.live f then some .closed
  else if !r.role.isChair then some .notChair
  else if (s.floor f).settings.presenceRequired && r.presence == .absent then some .absent
  else if s.underTest n then some .test
  else if s.seatLink n == .lost then some .link
  else none

/-- A priority PRESS (03 R48 to R52). A refused press makes no entry: its report carries the pressing seat as holder and
the level of the seat's role, absent when that is no chair role (log entry 31). -/
def priorityPress (n : Nat) (s : State) : State :=
  let f := s.seatFloor n
  let r := s.floor f
  match r.stack.find? (·.holder == n) with
  | some e => if e.latched then endEntry n .key f s else s
  | none => match s.holdAdmission n with
    | some why => priorityReport f .refused (levelOf (s.seat n).role) (some n) (some why.ctorIdx) []
        (s.modSeat n (fun x => { x with refusal := some 0 }))
    | none => match (levelOf (s.seat n).role) with
      | none => s
      | some l =>
        let e : HoldEntry := ⟨l, n, r.settings.priorityStyle == .latched⟩
        match r.stack, l with
        | [], _ => startHold n e f s
        | [x], .chair => if x.level == .vice then coverHold n e x f s else s
        | [x], .vice => if x.level == .chair then joinBeneath n x e f s else s
        | _ :: _ :: _, _ => s

/-- A priority RELEASE (03 R52). -/
def priorityRelease (n : Nat) (s : State) : State :=
  let f := s.seatFloor n
  match (s.floor f).stack.find? (·.holder == n) with
  | some e => if e.latched then s else endEntry n .key f s
  | none => s

/-! ## The other keys -/

/-- A NEXT PRESS (02 R25). -/
def nextPress (n : Nat) (s : State) : State :=
  let f := s.seatFloor n
  let r := s.floor f
  if !s.live f then refuse n .next .closed s
  else if !(s.seat n).role.isChair then refuse n .next .notChair s
  else if r.settings.mode != .request || r.settings.autoGrant then refuse n .next .mode s
  else if s.holdActive f then refuse n .next .hold s
  else match r.queue with
    | [] => refuse n .next .empty s
    | m :: _ => if s.slotFree f then grant m .next s else refuse n .next .full s

/-- A mic PRESS from a seat that is not IDLE, or a mic LONG (02 R22). -/
def micLong (n : Nat) (s : State) : State :=
  if (s.seat n).floorState == .queued then dequeue n .key none s else s

/-! ## Releases forced from outside (02 R43, R44) -/

def SubCause.endReason : SubCause → EndReason
  | .linkLost => .linkLost
  | .absent => .absent
  | .role => .role

/-- A forced release of one seat (02 R43). -/
def forcedRelease (n : Nat) (sub : SubCause) (s : State) : State :=
  let f := s.seatFloor n
  match (s.seat n).floorState with
  | .idle => s
  | .queued => grantPass f (dequeue n .release (some sub) s)
  | .speaking => grantPass f (close n .release (some sub) s)
  | .suspended => grantPass f (endSuspended n .release (some sub) s)
  | .priority | .priorityWait => grantPass f (endEntry n sub.endReason f s)

/-- What meeting end does to a seat (02 R44): every turn that was running or suspended is accounted. -/
def SeatRec.endMeeting (r : SeatRec) : SeatRec :=
  match r.floorState with
  | .speaking | .priority | .suspended => (r.toState .idle).accountTurn
  | .idle | .queued | .priorityWait => r.toState .idle

/-- Meeting end releases every seat of a floor (02 R44, 03 R56). Of two ENDED reports that of the top entry is made first
(log entry 62). -/
def releaseFloor (f : Floor) (s : State) : State :=
  let es := (s.floor f).stack
  let seats := s.floorSeats f
  let changed := seats.filter (fun n => (s.seat n).floorState != .idle)
  let s := forAll seats (fun n => State.modSeat n SeatRec.endMeeting) s
  let s := s.modFloor f (fun r => { r with queue := [], grantOrder := [], stack := [], susp := [] })
  let s := forAll es (fun e => endedReport f e .meetingEnd) s
  forAll changed (fun n => keyReport n .meetingEnd none none) s

/-! ## Turns and accounts (03 R60 to R66) -/

/-- The outcomes of a TURN report, in the order of 03 R66. -/
inductive TurnOutcome where
  | warn | expired | overtime | allowance
  deriving DecidableEq, Repr

/-- A TURN report (03 R66); `t` is the turn's timer at the event. -/
def turnReport (n : Nat) (o : TurnOutcome) (t : Turn) (s : State) : State :=
  report .turn (Fmt.o1 n ++ Fmt.floor (s.seatFloor n) ++ Fmt.o1 o.ctorIdx ++
    Fmt.opt (fun ms => Fmt.o2 (ms / 1000)) t.remaining ++ Fmt.o2 (s.seat n).accSeconds ++
    Fmt.o1 (s.seat n).accTurns) s

/-- A SPEAKING seat is closed because its time is up, with a TURN report and the grant pass (03 R61, R64). -/
def closeTurn (n : Nat) (c : KeyCause) (o : TurnOutcome) (s : State) : State :=
  let t := (s.seat n).turn.getD (startTurn 0)
  grantPass (s.seatFloor n) (turnReport n o t (close n c none s))

end Sys2Proof.Machine
end

