-- ==== Sys2Proof/Machine/MeetingOps.lean ====
section
/-! DEFINITION. What the calendar writes without waking the room: rosters and accounts (01 R6, 03 R62), presence and
cards (01 R9 to R14), walk-in starts (07 R135), BOOKING reports (07 R138), the end of a path test (09 R177), and the
delivery of a key event to a floor controller (02 R22, R23). -/

namespace Sys2Proof.Machine

/-! ## The end of a path test (09 R177) -/

/-- The reasons for which a test ends, in the order of 09 R177. -/
inductive TestEnd where
  | duration | linkLost | meetingStart | stopped
  deriving DecidableEq, Repr

/-- The path test ends and makes its TEST report (09 R177). -/
def endTest (why : TestEnd) (s : State) : State := match s.test with
  | none => s
  | some t =>
    report .test (Fmt.o1 t.seat ++ Fmt.branch t.branch ++ Fmt.o1 t.position ++ Fmt.o1 why.ctorIdx ++
      Fmt.flag t.achieved ++ Fmt.o1 (if t.inSync then 1 else 0) ++ Fmt.o3 t.mismatches ++ Fmt.o2 t.elapsed)
      { s with test := none }

/-- A meeting start releases a seat under test on its floor (09 R177). -/
def endTestOn (f : Floor) (s : State) : State := match s.test with
  | some t => if s.seatFloor t.seat == f then endTest .meetingStart s else s
  | none => s

/-! ## BOOKING reports (07 R138) -/

/-- The events of a BOOKING report, in the order of 07 R138. -/
inductive BookingEvent where
  | booked | held | returned | preparing | due | started | inSession | overrun | extended | walkIn | completed
  deriving DecidableEq, Repr

/-- A BOOKING report; the floor and its state are absent where no floor is concerned (log entry 15). -/
def bookingReport (e : BookingEvent) (id : Nat) (f : Option Floor) (extra : List Octet) (s : State) : State :=
  report .booking (Fmt.o1 e.ctorIdx ++ Fmt.o2 id ++ Fmt.opt Fmt.floor f ++
    Fmt.opt (fun g => Fmt.o1 (s.meeting g).state.ctorIdx) f ++ extra) s

/-- The outcomes of a meeting, in the order of 07 R137. -/
inductive Outcome where
  | ended | released | unserved | cancelled | preempted | missed
  deriving DecidableEq, Repr

/-- One part of a COMPLETED report (07 R138): the seats come before the part's number and its last mark. The floor's
meeting state after the event is given by the caller. -/
def completedPart (id : Nat) (f : Option (Floor × MeetingState)) (o : Outcome) (start stop : Option Nat) (count : Nat)
    (part : Nat) (last : Bool) (seats : List Nat) (s : State) : State :=
  report .booking (Fmt.o1 BookingEvent.completed.ctorIdx ++ Fmt.o2 id ++ Fmt.opt (fun x => Fmt.floor x.1) f ++
    Fmt.opt (fun x => Fmt.o1 x.2.ctorIdx) f ++ Fmt.o1 o.ctorIdx ++ Fmt.opt Fmt.o3 start ++ Fmt.opt Fmt.o3 stop ++
    Fmt.o1 count ++
    Fmt.list (fun n => Fmt.o1 n ++ Fmt.o2 (s.seat n).accSeconds ++ Fmt.o1 (s.seat n).accTurns) seats ++
    Fmt.o1 part ++ Fmt.flag last) s

/-- The parts of a COMPLETED report, of 12 seats each, numbered from 1 (07 R138). -/
def completedParts (id : Nat) (f : Option (Floor × MeetingState)) (o : Outcome) (start stop : Option Nat) (count : Nat) :
    Nat → Nat → List Nat → State → State
  | 0, _, _, s => s
  | k + 1, part, seats, s =>
    let last := seats.length ≤ 12
    let s := completedPart id f o start stop count part last (seats.take 12) s
    if last then s else completedParts id f o start stop count k (part + 1) (seats.drop 12) s

/-- A COMPLETED report: 48 seats make at most four parts. -/
def completedReport (id : Nat) (f : Option (Floor × MeetingState)) (o : Outcome) (start stop : Option Nat) (count : Nat)
    (seats : List Nat) (s : State) : State := completedParts id f o start stop count 4 1 seats s

/-- The due booking of a walk-in floor is taken afresh, with a DUE report for a booking that becomes it (07 R127,
R129, log entry 18). -/
def refreshDue (f : Floor) (s : State) : State :=
  let due := (s.dueBooking f).map (·.id)
  if (s.meeting f).due = due then s
  else
    let s := s.modMeeting f (fun m => { m with due := due })
    match due with
    | some id => bookingReport .due id (some f) [] s
    | none => s

/-! ## Rosters and accounts -/

/-- Write role and delegate record of many seats together, then make one SEAT report for each seat that changed, in
ascending order (01 R6, R16). -/
def writeRoles (seats : List Nat) (g : Nat → Role × Option Delegate) (s : State) : State :=
  let changed := seats.filter (fun n => !((s.seat n).role == (g n).1 && (s.seat n).delegate == (g n).2))
  let s := forAll seats (fun n => State.modSeat n (fun r => { r with role := (g n).1, delegate := (g n).2 })) s
  forAll changed rosterReport s

/-- The speaking accounts of a floor's seats are zeroed at a start (03 R62). -/
def zeroAccounts (f : Floor) (s : State) : State :=
  forAll (s.floorSeats f) (fun n => State.modSeat n (fun r => { r with accSeconds := 0, accTurns := 0, accRem := 0 })) s

/-- A profile's settings are loaded into a floor (02 R20, 04 R71, 05 R98). -/
def loadProfile (f : Floor) (p : Profile) (s : State) : State :=
  s.modFloor f (fun r => { r with settings := p.floor, gate := p.gate, mix := p.mix })

/-- The idle count returns to 0 (11 R197). -/
def restPower (s : State) : State := { s with pwr := { s.pwr with idle := 0, idleRem := 0 } }

/-- A walk-in starts on a VACANT floor, once the wake has been passed (07 R135 steps 2 to 4). -/
def startWalkin (f : Floor) (s : State) : State :=
  let s := endTestOn f (restPower s)
  let s := writeRoles (s.floorSeats f) (fun n => (if (s.seat n).serial.isSome then .guest else .none, none)) s
  let s := loadProfile f (s.profile 0) (zeroAccounts f s)
  let s := s.modMeeting f (fun _ => { Reset.meeting with state := .walkIn, start := s.clock.map (·.minute) })
  refreshDue f (bookingReport .walkIn 0 (some f) [] s)

/-! ## Presence and cards (01 R9 to R14) -/

/-- The outcomes of a CARD report, in the order of 01 R14. -/
inductive CardOutcome where
  | present | absent | wrongSeat | unknownCard | noMeeting | otherCard | noSeat
  deriving DecidableEq, Repr

/-- The causes of a CARD report, in the order of 01 R14. -/
inductive CardCause where
  | cardIn | cardOut | console | flagLoss
  deriving DecidableEq, Repr

/-- A CARD report, passed by the edge select CHANGES only when the presence value changed (01 R14). -/
def cardReport (n : Nat) (card : CardId) (o : CardOutcome) (right : Option Nat) (c : CardCause) (changed : Bool)
    (s : State) : State :=
  reportIf (changed || s.cru.cardEvery) .card
    (Fmt.o1 n ++ Fmt.card card ++ Fmt.o1 o.ctorIdx ++ Fmt.opt Fmt.o1 right ++ Fmt.o1 c.ctorIdx) s

/-- Presence with the restart of the card count (01 R11). -/
def SeatRec.withPresence (p : Presence) (r : SeatRec) : SeatRec :=
  if r.presence == p then r else { r with presence := p, cardClear := 0 }

/-- The seat is added to the checked-in seats the first time (07 R131). The set of 07 R127 is held in the order of first
check-in (DESIGN CHOICE, log entry 72). -/
def noteCheckedIn (n : Nat) (f : Floor) (s : State) : State :=
  s.modMeeting f (fun m =>
    if m.state.runs && !m.checkedIn.contains n then { m with checkedIn := m.checkedIn ++ [n] } else m)

/-- The first check-in makes a CHECK_IN meeting IN_SESSION (01 R12, 07 R131). -/
def firstCheckIn (f : Floor) (s : State) : State :=
  if (s.meeting f).state == .checkIn then
    bookingReport .inSession ((s.meeting f).served.getD 0) (some f) []
      (s.modMeeting f (fun m => { m with state := .inSession }))
  else s

/-- A seat becomes PRESENT by a source (01 R9, R12, R13). -/
def becomePresent (n : Nat) (p : Presence) (s : State) : State :=
  let was := (s.seat n).presence
  let f := s.seatFloor n
  let s := s.modSeat n (SeatRec.withPresence p)
  if was == .absent && (s.seat n).role != .none then firstCheckIn f (noteCheckedIn n f s) else s

/-- A PRESENT seat becomes ABSENT; with presence required it is released (01 R10). -/
def becomeAbsent (n : Nat) (s : State) : State :=
  let s := s.modSeat n (SeatRec.withPresence .absent)
  if (s.floor (s.seatFloor n)).settings.presenceRequired then forcedRelease n .absent s else s

/-- The meeting states in which a card is matched (01 R9, R10). -/
def MeetingState.takesCards : MeetingState → Bool
  | .walkIn | .checkIn | .inSession | .overrun => true
  | .vacant | .preparing => false

/-- The seat of floor `f` that holds a card id, other than `n` (01 R9). -/
def State.cardHolder (s : State) (f : Floor) (n : Nat) (card : CardId) : Option Nat :=
  (s.floorSeats f).find? (fun m => m != n && ((s.seat m).delegate.map (·.card)) == some card)

/-- CARD_IN at a seat (01 R9). -/
def cardInSeat (n : Nat) (card : CardId) (s : State) : State :=
  let f := s.seatFloor n
  if !(s.meeting f).state.takesCards then cardReport n card .noMeeting none .cardIn false s
  else if ((s.seat n).delegate.map (·.card)) == some card then
    cardReport n card .present none .cardIn ((s.seat n).presence == .absent) (becomePresent n .card s)
  else match s.cardHolder f n card with
    | some m => cardReport n card .wrongSeat (some m) .cardIn false
        (owePlate n (s.modPlate n (fun p => { p with see := some m, count := 0 })))
    | none => cardReport n card .unknownCard none .cardIn false s

/-- CARD_IN from a station (01 R9). -/
def cardIn (d : Binding) (card : CardId) (s : State) : State := match s.seatAt? d with
  | some n => cardInSeat n card s
  | none => cardReport 0 card .noSeat none .cardIn false s

/-- CARD_OUT from a station (01 R10). -/
def cardOut (d : Binding) (card : CardId) (s : State) : State := match s.seatAt? d with
  | none => cardReport 0 card .noSeat none .cardOut false s
  | some n =>
    if !(s.meeting (s.seatFloor n)).state.takesCards then cardReport n card .noMeeting none .cardOut false s
    else if ((s.seat n).delegate.map (·.card)) == some card then
      if (s.seat n).presence == .absent then cardReport n card .absent none .cardOut false s
      else cardReport n card .absent none .cardOut true (becomeAbsent n s)
    else cardReport n card .otherCard none .cardOut false s

/-- A card-present flag clear for 2,000 ms (01 R11). The report of a seat whose delegate record has been removed since
carries card id 0 (01 R14, log entry 48). -/
def cardFlagLoss (n : Nat) (s : State) : State :=
  cardReport n (((s.seat n).delegate.map (·.card)).getD 0) .absent none .flagLoss true (becomeAbsent n s)

/-! ## Keys at a floor controller (02 R22, R23) -/

/-- A mic PRESS (02 R22, R23). -/
def micPress (n : Nat) (s : State) : State :=
  let f := s.seatFloor n
  match (s.seat n).floorState with
  | .idle =>
    if s.live f then request n s
    else if (s.meeting f).state == .vacant then request n (startWalkin f s)
    else refuse n .key .closed s
  | .queued => dequeue n .key none s
  | .speaking => grantPass f (close n .key none s)
  | .suspended => grantPass f (endSuspended n .key none s)
  | .priority | .priorityWait => s

/-- A key event at the floor controller of the seat's effective floor (01 R1, 02 section 2.3, 03 section 3.2). -/
def floorKey (n : Nat) (k : Key) (e : KeyEvent) (s : State) : State :=
  match k, e with
  | .mic, .press => micPress n s
  | .mic, .long => micLong n s
  | .mic, .release => s
  | .priority, .press => priorityPress n s
  | .priority, .release => priorityRelease n s
  | .priority, .long => s
  | .next, .press => nextPress n s
  | .next, .release => s
  | .next, .long => s

end Sys2Proof.Machine
end

