-- ==== Sys2Proof/Machine/TrunkOps.lean ====
section
/-! DEFINITION. The trunk interface's shared operations: LINK reports and error counters, stopping channels and
detectors, losing and binding nodes, stopping a lane, starting and ending an enumeration (09, with 01 R3, 04 R75, R80,
05 R100, 06 R105, 08 R142, 10 R182, R188, R190). -/

namespace Sys2Proof.Machine

/-! ## LINK reports and error counters -/

/-- A LINK report with event BRANCH (09 R169). -/
def branchReport (b : Branch) (s : State) : State :=
  report .link (Fmt.o1 1 ++ Fmt.branch b ++ Fmt.o1 (s.br b).state.ctorIdx) s

/-- The number of the seat, line, screen or camera bound at a place (09 R169). -/
def State.boundNumber (s : State) (d : Binding) : Option Nat :=
  (s.seatAt? d).or ([1, 2].find? (fun l => (s.line l).binding == some d) |>.or
    ((List.range' 1 8).find? (fun k => (s.screen k).binding == some d) |>.or
      ((List.range' 1 4).find? (fun k => (s.camera k).binding == some d))))

/-- A LINK report with event NODE for an entry's change of link (09 R169). -/
def nodeReport (d : Binding) (e : NodeEntry) (new : Link) (s : State) : State :=
  reportIf (new == .lost || s.cru.linkAll) .link
    (Fmt.o1 0 ++ Fmt.binding d ++ Fmt.o1 e.kind.ctorIdx ++ Fmt.serial e.serial ++ Fmt.o1 e.link.ctorIdx ++
      Fmt.o1 new.ctorIdx ++ Fmt.opt Fmt.o1 (s.boundNumber d)) s

/-- The kinds of error, in the order of 09 section 9.5. -/
inductive ErrorKind where
  | slotCheck | laneCrc | lostEntry
  deriving DecidableEq, Repr

def Counter.selects (c : Counter) : ErrorKind → Bool
  | .slotCheck => c.slotCheck
  | .laneCrc => c.laneCrc
  | .lostEntry => c.lostEntry

/-- Count `k` errors of a kind, if the counter runs and selects it (09 R171). -/
def Counter.count (kind : ErrorKind) (k : Nat) (c : Counter) : Counter :=
  if c.running && c.selects kind then { c with value := sat16 (c.value + k) } else c

def countError (b : Branch) (kind : ErrorKind) (s : State) : State :=
  s.modBr b (fun r => { r with counter := r.counter.count kind 1 })

/-! ## Channels and detectors -/

/-- The causes of a GATE report, in the order of 04 R76. -/
inductive GateCause where
  | level | hangExpiry | stopped
  deriving DecidableEq, Repr

/-- A GATE report of a channel's present gate (04 R76); a close passes only the edge select ALL. Lines are channels 49
and 50, and the opening time takes four octets (log entry 31). -/
def gateReport (c : Nat) (cause : GateCause) (s : State) : State :=
  let r := s.chan c
  reportIf (r.gate == .opened || s.cru.gateAll) .gate
    (Fmt.o1 c ++ Fmt.floor (s.chanFloor c) ++ Fmt.o1 r.gate.ctorIdx ++ Fmt.opt Fmt.o4 r.opening ++ Fmt.o1 r.band ++
      Fmt.o1 cause.ctorIdx) s

/-- A channel stops (04 R75). -/
def stopChan (c : Nat) (s : State) : State :=
  let active := (s.chan c).gate.active
  let s := s.modChan c (fun r => { r with band := 23, gate := .closed, hang := none, msPeak := 0 })
  if active then gateReport c .stopped s else s

/-- The detectors of a seat are released and cleared (04 R80). Their RELEASE events change nothing where the model takes
them: after the forced release of R43, which is its choice of the two orders that 03 R52 allows (log entry 70), or at the
power manager, which discards them. -/
def clearDets (n : Nat) (s : State) : State := s.modDets n (fun _ => Reset.dets)

/-! ## Losing a node (09 R169) -/

/-- The path test of a seat whose link is lost ends (09 R177). -/
def endTestOf (n : Nat) (s : State) : State := if s.underTest n then endTest .linkLost s else s

/-- A seat loses its link or its binding: released, its detectors cleared, its card count restarted, its test ended
(02 R43, 04 R80, 01 R11, 09 R177). The forced release comes before the detectors' RELEASE: 03 R52 leaves open which of
the two is taken first, and the model takes the link loss, so that a momentary hold ends with reason LINK_LOST (DESIGN
CHOICE, log entry 70). -/
def loseSeat (n : Nat) (s : State) : State :=
  endTestOf n ((clearDets n (forcedRelease n .linkLost s)).modSeat n (fun r => { r with cardClear := 0 }))

def LaneCounts.addFraming (c : LaneCounts) : LaneCounts := { c with framing := sat16 (c.framing + 1) }

/-- Discard the reception under way: its place is freed and it counts as a framing error (10 R182). -/
def Lane.discardReception (l : Lane) : Lane :=
  { l with places := l.places.filter (fun p => p.use != .receiving), counts := l.counts.addFraming }

/-- The lane when the entry at a position becomes LOST: an offer lapses, a reception is discarded (10 R181, R182). -/
def Lane.losePosition (p : Nat) (l : Lane) : Lane :=
  match l.turn with
  | .free => l
  | .offered q _ => if q = p then { l with turn := .free, last := p } else l
  | .receiving q _ => if q = p then { l.discardReception with turn := .free, last := p } else l

/-- The entry once its link is LOST. -/
def NodeEntry.lose (e : NodeEntry) : NodeEntry :=
  if e.link == .lost then e else { e with link := .lost, goodRun := 0, whole := false }

/-- The loss of entry `e`, whose link has become LOST, is passed on (09 R169). `counted` when it is lost by R167
(R171). -/
def passLoss (d : Binding) (e : NodeEntry) (counted : Bool) (s : State) : State :=
  let s := nodeReport d e .lost s
  let s := match s.seatAt? d with
    | some n => loseSeat n s
    | none => s
  let s := if counted then countError d.branch .lostEntry s else s
  s.modLane d.branch (Lane.losePosition d.position)

/-- An entry becomes LOST and the loss is passed on (09 R167, R169). -/
def loseNode (d : Binding) (counted : Bool) (s : State) : State := match s.entry? d with
  | none => s
  | some e => if e.link == .lost then s else passLoss d e counted (s.modEntry d NodeEntry.lose)

/-- A LOST entry becomes OK and the recovery is passed on (09 R167, R169); a seat's nameplate is owed (08 R152). -/
def recoverNode (d : Binding) (s : State) : State := match s.entry? d with
  | none => s
  | some e =>
    if e.link == .lost then
      let s := nodeReport d e .ok (s.modEntry d (fun e => { e with link := .ok, badRun := 0, goodRun := 0 }))
      match s.seatAt? d with
      | some n => owePlate n s
      | none => s
    else s

/-! ## Binding (01 R3, 05 R100, 08 R142) -/

/-- The place of a node of a kind with a serial: branch 0 before branch 1, the lower position first. -/
def State.findNode (s : State) (k : NodeKind) (x : Serial) : Option Binding :=
  ((s.br0.table.find? (fun e => e.kind == k && e.serial == x)).map (fun e => (⟨.b0, e.position⟩ : Binding))).or
  ((s.br1.table.find? (fun e => e.kind == k && e.serial == x)).map (fun e => (⟨.b1, e.position⟩ : Binding)))

/-- The place that a serial, or UNMAPPED, binds to. -/
def State.placeOf (s : State) (k : NodeKind) (x : Option Serial) : Option Binding := x.bind (s.findNode k)

/-- A newly bound seat starts from a clear window (09 R166). A seat that has moved straight from one place to another
may hold its priority key: its detector's RELEASE then acts (04 R80, log entry 44). -/
def freshDets (n : Nat) (s : State) : State :=
  let held := (s.detectors n).priority.pressed && s.pwr.state == .active
  let s := clearDets n s
  if held then priorityRelease n s else s

/-- A seat takes a binding: SEAT report, and a nameplate for a newly bound station (01 R3, R16; 08 R152). The channel of a
seat that moves straight from one place to another has not ceased to be bound and runs on (04 R75, log entry 44). -/
def setSeatBinding (new : Option Binding) (n : Nat) (s : State) : State :=
  if (s.seat n).binding = new then s
  else
    let s := s.modSeat n (fun r => { r with binding := new })
    let s := if s.seatLink n == .lost then loseSeat n s else freshDets n (endTestOf n s)
    let s := if new.isNone then stopChan n s else owePlate n s
    bindingReport n s

/-- A seat binds through the tables as they stand (01 R3). -/
def bindSeat (n : Nat) (s : State) : State := setSeatBinding (s.placeOf .seat (s.seat n).serial) n s

/-- A branch's table holds a SEAT entry of a serial (01 R3). -/
def State.hasSeat (s : State) (b : Branch) (x : Option Serial) : Bool :=
  x.isSome && (s.br b).table.any (fun e => e.kind == .seat && some e.serial == x)

/-- At the end of a branch's enumeration a seat whose serial its table holds binds, to the entry on branch 0 if there
is one; a seat whose serial it does not hold stays as it is (01 R3, log entry 34). -/
def bindSeatOf (b : Branch) (n : Nat) (s : State) : State :=
  if s.hasSeat b (s.seat n).serial then bindSeat n s else s

/-- A line takes a binding; a line that loses it stops its channel (05 R102). A line that is bound straight from one place
to another has not been UNBOUND: its channel runs on with its gate and hang count (log entry 51). -/
def setLineBinding (new : Option Binding) (l : Nat) (s : State) : State :=
  let s := s.modLine l (fun r => { r with binding := new })
  if new.isNone then stopChan (48 + l) s else s

/-- A line binds through the tables as they stand (05 R100). -/
def bindLine (l : Nat) (s : State) : State := setLineBinding (s.placeOf .line (s.line l).serial) l s

/-- A screen binds through the tables as they stand; one that moves straight from one place to another keeps its power
state, and nothing is sent to the new node for it (08 R142, log entry 51). -/
def bindScreen (k : Nat) (s : State) : State :=
  s.modScreen k (fun r => { r with binding := s.placeOf .screen r.serial })

/-- A camera binds through the tables as they stand; one that moves straight from one place to another keeps its shot,
and nothing is sent to the new node for it (08 R142, log entry 51). -/
def bindCamera (k : Nat) (s : State) : State :=
  s.modCamera k (fun r => { r with binding := s.placeOf .camera r.serial })

/-- At the end of a branch's enumeration the seats bind through its table, and lines, screens and cameras through both
tables, in number order (09 R166; 01 R3, 05 R100, 08 R142). -/
def bindAll (b : Branch) (s : State) : State :=
  let s := forAll allSeats (bindSeatOf b) s
  let s := forAll [1, 2] bindLine s
  let s := forAll (List.range' 1 8) bindScreen s
  forAll (List.range' 1 4) bindCamera s

/-- A binding on a branch. -/
def onBranch (b : Branch) (d : Option Binding) : Bool := d.map (·.branch) == some b

/-- At the start of an enumeration everything bound on the branch becomes UNBOUND, seat by seat: a seat's release and
its grant pass come before the next seat (09 R164, log entry 49). -/
def unbindBranch (b : Branch) (s : State) : State :=
  let keep (d : Option Binding) : Option Binding := if onBranch b d then none else d
  let s := forAll (allSeats.filter (fun n => onBranch b (s.seat n).binding)) (setSeatBinding none) s
  let s := forAll ([1, 2].filter (fun l => onBranch b (s.line l).binding)) (setLineBinding none) s
  let s := forAll (List.range' 1 8) (fun k => State.modScreen k (fun r => { r with binding := keep r.binding })) s
  forAll (List.range' 1 4) (fun k => State.modCamera k (fun r => { r with binding := keep r.binding })) s

/-! ## The wall source and the report address -/

/-- The lowest position of a kind in branch 0's table, or else in branch 1's (06 R105, 10 R190). -/
def State.lowest (s : State) (k : NodeKind) : Option Binding :=
  ((s.br0.table.find? (fun e => e.kind == k)).map (fun e => (⟨.b0, e.position⟩ : Binding))).or
  ((s.br1.table.find? (fun e => e.kind == k)).map (fun e => (⟨.b1, e.position⟩ : Binding)))

/-- The wall source is chosen again (06 R105). -/
def chooseWall (s : State) : State := { s with part := { s.part with source := s.lowest .wall } }

/-- HELLO, once after each reset, when a report address becomes known (10 R190). -/
def hello (s : State) : State := match s.cru.hello, s.cru.address with
  | some k, some _ => report .hello (Fmt.o1 k.ctorIdx) { s with cru := { s.cru with hello := none } }
  | _, _ => s

/-- A DEFAULT report address is chosen again (10 R190). -/
def chooseAddress (s : State) : State :=
  if s.cru.addressSet then s else hello { s with cru := { s.cru with address := s.lowest .console } }

/-- At the end of an enumeration a SET address without its CONSOLE entry returns to DEFAULT (10 R190). -/
def judgeAddress (b : Branch) (s : State) : State :=
  match s.cru.addressSet, s.cru.address with
  | true, some d =>
    if d.branch == b && (s.entry? d).map (·.kind) != some .console then
      chooseAddress { s with cru := { s.cru with addressSet := false } }
    else s
  | _, _ => chooseAddress s

/-! ## Stopping a lane (10 R182, R185, R188) -/

def OutMsg.isReset : OutMsg → Bool
  | .own _ _ _ .resetAnswer => true
  | .own _ _ _ .plain | .own _ _ _ (.showFor _) | .relayed _ => false

/-- Drop the relayed messages that wait for branch `b` in a lane's places, each counted as a relay drop of the lane that
it came by (10 R185). -/
def Lane.dropRelays (l : Lane) (b : Branch) : Lane :=
  let gone := l.places.filter (fun p => p.use.relayTo == some b)
  { l with places := l.places.filterMap (fun p => if p.use.relayTo == some b then p.relayed else some p),
           counts := { l.counts with relayDrop := sat16 (l.counts.relayDrop + gone.length) } }

/-- The lane of a branch that leaves RUNNING and BEACON: the places and the queue are emptied, a reception counts as a
framing error, last served is kept. -/
def Lane.stop (l : Lane) : Lane :=
  let counts := match l.turn with
    | .receiving _ _ => l.counts.addFraming
    | .free | .offered _ _ => l.counts
  { l with turn := .free, places := [], out := [], sent := 0, counts := counts }

/-- Stop the lane of a branch, with everything that waits for it; the answer to RESET, if it was there, makes the warm
reset due (10 R188, R193). -/
def stopLane (b : Branch) (s : State) : State :=
  let reset := (s.lane b).out.any (·.isReset) || match s.cru.waiting with
    | some (c, m) => c == b && m.isReset
    | none => false
  let waiting := match s.cru.waiting with
    | some (c, m) => if c == b then none else some (c, m)
    | none => none
  let gone (d : Directive) : Bool := s.targetBranch d.target == some b
  { s with
    lane0 := let l := s.lane0.dropRelays b; if b = .b0 then l.stop else l
    lane1 := let l := s.lane1.dropRelays b; if b = .b1 then l.stop else l
    sd := { s.sd with waiting := s.sd.waiting.filter (fun d => !gone d) }
    cru := { s.cru with waiting := waiting, phase := if reset then .resetDue else s.cru.phase } }

/-- A branch that leaves RUNNING discards a waiting insertion, answered STATE (09 R173). -/
def dropInsertion (b : Branch) (s : State) : State := match (s.br b).insertion with
  | none => s
  | some (_, h) =>
    answer h .state [] { s.modBr b (fun r => { r with insertion := none }) with cru := { s.cru with phase := .idle } }

/-! ## Enumeration (09 R164 to R166) -/

/-- A branch's table is emptied, with the effects of the start of an enumeration; the branch goes to `dest` (09 R161,
R164). The BRANCH report comes before the report address is chosen again (log entry 23), and the time without up-frames
counts anew (log entry 68). -/
def emptyTable (b : Branch) (dest : BranchState) (roll : Option Roll) (s : State) : State :=
  let s := dropInsertion b s
  let s := s.modBr b (fun r =>
    { r with state := dest, table := [], roll := roll, upCount := 0, silence := 0, enumEnded := false })
  let s := chooseAddress (branchReport b s)
  chooseWall (unbindBranch b s)

/-- The start of an enumeration, at which the lane stops (09 R164, 10 R188). A branch that comes up into BEACON does not
enumerate: its outbound queue is kept (09 R161). -/
def startEnumeration (b : Branch) (s : State) : State :=
  emptyTable b .enumerating (some { position := 1, restart := true, damaged := 0, wait := 0, found := [] })
    (stopLane b s)

/-- The entries that an enumeration has found. -/
def BranchRec.found (r : BranchRec) : List NodeEntry := (r.roll.map (·.found)).getD r.table

/-- The end of an enumeration, before the power manager takes it (09 R166). -/
def finishEnumeration (b : Branch) (s : State) : State :=
  let dest : BranchState := if s.pwr.state == .sleep then .beacon else .running
  let s := s.modBr b (fun r => { r with state := dest, table := r.found, roll := none, enumEnded := true })
  let s := judgeAddress b s
  let s := branchReport b s
  let s := report .link (Fmt.o1 4 ++ Fmt.branch b ++ Fmt.o1 (s.br b).table.length) s
  chooseWall (bindAll b s)

/-- The entry that a good reply adds (09 R164, R170). -/
def newEntry (position : Nat) (r : RollReply) : NodeEntry :=
  { position := position, kind := nodeKindOfCode (r.kind.toNat % 8), serial := r.serial, link := .ok, badRun := 0,
    goodRun := 0, window := 0, held := 0, badSamples := 0, current := 0, status := none, waiting := false,
    fault := false, faultTaken := false, whole := false }

/-- The check of a roll reply (12 R206, R207). -/
def RollReply.good (r : RollReply) : Bool := r.check == Fmt.crc8 (r.kind :: Fmt.serial r.serial)

/-- A branch goes DOWN: every node of it is LOST, so that a report address on it is no longer valid, and its lane stops;
then each loss is passed on in position order, a seat's release and its grant pass before the next loss (09 R161,
R169, 10 R188, R189, log entry 49). -/
def takeDown (b : Branch) (s : State) : State :=
  let lost := (s.br b).table.filter (fun e => e.link != .lost)
  let s := s.modBr b (fun r =>
    { r with state := .down, table := r.table.map NodeEntry.lose, roll := none, upCount := 0, silence := 0 })
  let s := branchReport b (dropInsertion b (stopLane b s))
  forAll lost (fun e => passLoss ⟨b, e.position⟩ e false) s

/-- A RUNNING branch goes to BEACON: a path test on it stops (09 R161, R173, R177). -/
def toBeacon (b : Branch) (s : State) : State :=
  if (s.br b).state == .running then
    let s := s.modBr b (fun r =>
      { r with state := .beacon, table := r.table.map (fun e => { e with whole := false }) })
    let s := branchReport b (dropInsertion b s)
    match s.test with
    | some t => if t.branch == b then endTest .stopped s else s
    | none => s
  else s

end Sys2Proof.Machine
end

