-- ==== Sys2Proof/Machine/PowerOps.lean ====
section
/-! DEFINITION. The power manager's shared operations: changes of power state, the stages of a wake, the pending wake
event, the wake sources (11), and what follows the end of an enumeration or the fall of a branch for a wake. -/

namespace Sys2Proof.Machine

/-- What became of the pending wake event, in the order of 11 R201. -/
inductive Fate where
  | applied | discarded | none
  deriving DecidableEq, Repr

/-- The reported code of a wake progress: STARTED 0 to READY 3, absent for none (11 R203, log entry 31). -/
def WakeProgress.octets (p : WakeProgress) : List Octet := match p with
  | .none => [0]
  | .started => [1, 0]
  | .trunkLock => [1, 1]
  | .enumerated => [1, 2]
  | .ready => [1, 3]

/-- A POWER report (11 R203); a cause's seat is 0 where the cause has none. -/
def powerReport (p : WakeProgress) (cause : Option (PowerCause × Nat)) (fate : Option Fate) (s : State) : State :=
  report .power (Fmt.o1 s.pwr.state.ctorIdx ++ p.octets ++ Fmt.opt (fun c => Fmt.o1 c.1.ctorIdx) cause ++
    Fmt.opt Fmt.o1 (cause.bind (fun c => if c.2 = 0 then none else some c.2)) ++
    Fmt.opt (fun x : Fate => Fmt.o1 x.ctorIdx) fate) s

/-- The room becomes ACTIVE from DIM (11 R197, R199). -/
def becomeActive (cause : PowerCause) (seat : Nat) (s : State) : State :=
  powerReport .none (some (cause, seat)) none
    { s with pwr := { s.pwr with state := .active, idle := 0, idleRem := 0 } }

/-- The room leaves ACTIVE, or goes from DIM to SLEEP: every channel stops and the carried key is removed (04 R75,
11 R196, R201). -/
def leaveActive (dest : PowerState) (cause : PowerCause) (s : State) : State :=
  forAll allChans stopChan (powerReport .none (some (cause, 0)) none
    { s with pwr := { s.pwr with state := dest, carried := none } })

/-- The fate of the pending event at READY (11 R201). -/
def State.fate (s : State) : Fate := match s.pwr.pendingEvent with
  | none => .none
  | some (.key n _) => if s.eligible n then .applied else .discarded
  | some (.card _ _) => .applied

/-- A branch is locked for the wake: DOWN, or with 16 consecutive up-frames at full rate since its start (11 R200). -/
def BranchRec.locked (r : BranchRec) : Bool := r.state == .down || 16 ≤ r.fullCount

/-- TRUNK_LOCK (11 R200). -/
def reportLock (s : State) : State :=
  powerReport .trunkLock none none { s with pwr := { s.pwr with progress := .trunkLock } }

/-- A TRUNK_LOCK reached in the event of ENUMERATED is reported before it (11 R200, log entry 52). -/
def lockFirst (s : State) : State :=
  if s.pwr.progress == .started && s.br0.locked && s.br1.locked then reportLock s else s

/-- The pending event is applied as if it had just arrived (11 R201). -/
def applyPending (e : Option WakeEvent) (s : State) : State := match e with
  | none => s
  | some (.key n k) =>
    if s.eligible n then
      let s := floorKey n k .press s
      if ((s.detectors n).get k).pressed then s else floorKey n k .release s
    else s
  | some (.card n c) =>
    if (s.seat n).binding.isSome then cardInSeat n c s else cardReport 0 c .noSeat none .cardIn false s

/-- ENUMERATED and READY (11 R200, R201, R203). The report of ENUMERATED carries the state WAKING, and that of READY
ACTIVE (log entry 52). -/
def ready (s : State) : State :=
  let event := s.pwr.pendingEvent
  let fate := s.fate
  let cause := s.pwr.cause
  let s := lockFirst s
  let s := powerReport .enumerated none none { s with pwr := { s.pwr with progress := .enumerated } }
  let s := { s with pwr := { s.pwr with state := .active, progress := .none, start := none, pendingEvent := none,
                                        cause := none, idle := 0, idleRem := 0 } }
  applyPending event (powerReport .ready cause (some fate) s)

/-- A branch is done for the wake under way: DOWN, or its enumeration has ended (11 R200). -/
def BranchRec.wakeDone (r : BranchRec) : Bool := r.state == .down || r.enumEnded

/-- READY is reached when both branches are done (11 R200). -/
def wakeCheck (s : State) : State :=
  if s.pwr.state == .waking && s.br0.wakeDone && s.br1.wakeDone then ready s else s

/-- A BEACON branch starts enumerating at the wake (09 R161). -/
def wakeBranch (b : Branch) (s : State) : State :=
  if (s.br b).state == .beacon then startEnumeration b s else s

/-- A wake from SLEEP begins WAKING (11 R200, R201). -/
def beginWaking (cause : PowerCause) (seat : Nat) (event : Option WakeEvent) (s : State) : State :=
  let carried := match event with
    | some (.key n k) => some (n, k)
    | some (.card _ _) | none => none
  let s := { s with pwr := { s.pwr with state := .waking, progress := .started, start := some s.now,
                                        pendingEvent := event, carried := carried, cause := some (cause, seat) } }
  let fresh (r : BranchRec) : BranchRec := { r with fullCount := 0, enumEnded := false }
  let s := powerReport .started (some (cause, seat)) none { s with br0 := fresh s.br0, br1 := fresh s.br1 }
  wakeCheck (wakeBranch .b1 (wakeBranch .b0 s))

/-- The calendar's wake, passed before a floor leaves VACANT (07 R127, 11 R197, R199). -/
def calendarWake (s : State) : State := match s.pwr.state with
  | .active => restPower s
  | .dim => becomeActive .calendar 0 s
  | .sleep => beginWaking .calendar 0 none s
  | .waking => s

/-- A key event that reaches the power manager (11 R199). -/
def keyToPower (n : Nat) (k : Key) (e : KeyEvent) (s : State) : State :=
  if e != .press || !s.pwr.maskKey then s
  else match s.pwr.state with
    | .active => s
    | .dim => floorKey n k e (becomeActive .key n s)
    | .sleep => beginWaking .key n (some (.key n k)) s
    | .waking =>
      if s.pwr.pendingEvent.isNone then
        { s with pwr := { s.pwr with pendingEvent := some (.key n k), carried := some (n, k) } }
      else s

/-- A CARD_IN from a bound station that reaches the power manager (11 R199). -/
def cardToPower (n : Nat) (card : CardId) (s : State) : State :=
  if !s.pwr.maskCard then s
  else match s.pwr.state with
    | .active => s
    | .dim => cardInSeat n card (becomeActive .card n s)
    | .sleep => beginWaking .card n (some (.card n card)) s
    | .waking =>
      if s.pwr.pendingEvent.isNone then { s with pwr := { s.pwr with pendingEvent := some (.card n card) } } else s

/-- A key event goes to the floor controller while ACTIVE, to the power manager otherwise (04 R80); a PRESS while
ACTIVE restarts the idle count (11 R197). -/
def deliverKey (n : Nat) (k : Key) (e : KeyEvent) (s : State) : State :=
  if s.pwr.state == .active then floorKey n k e (if e == .press then restPower s else s) else keyToPower n k e s

/-- A CARD_IN goes to the calendar while ACTIVE or from an unbound station, to the power manager otherwise (11 R199). -/
def deliverCard (d : Binding) (card : CardId) (s : State) : State :=
  if s.pwr.state == .active then cardIn d card (restPower s)
  else match s.seatAt? d with
    | some n => cardToPower n card s
    | none => cardIn d card s

/-- A WALL event at the power manager (06 R106, 11 R197, R199). -/
def wallEvent (s : State) : State := match s.pwr.state with
  | .active => restPower s
  | .dim => if s.pwr.maskWall then becomeActive .wall 0 s else s
  | .sleep => if s.pwr.maskWall then beginWaking .wall 0 none s else s
  | .waking => s

/-- The end of an enumeration, taken by the power manager too (09 R166, 11 R200). -/
def endEnumeration (b : Branch) (s : State) : State := wakeCheck (finishEnumeration b s)

end Sys2Proof.Machine
end

