-- ==== Sys2Proof/Machine/PlateOps.lean ====
section
/-! DEFINITION. The nameplates and the cameras at the screen director (08 R152, R153, R157, R158), which follow the end of
a meeting at once. -/

namespace Sys2Proof.Machine

/-- The followed floor of a screen or camera (08 R142). -/
def State.followed (s : State) (f : Floor) : Floor := s.part.partition.floorOf f

/-! ## Nameplates (08 R152, R153) -/

/-- The nameplate record of a seat as its fields give it; a wrong-seat display ends when the seat has no link or the
room is not ACTIVE (08 R152, R153). -/
def State.plateOf (s : State) (n : Nat) : Plate :=
  let r := s.seat n
  let p := s.plate n
  let lit := s.pwr.state == .active
  let shows := lit && s.reachable r.binding
  { lit := lit, role := r.role, name := r.delegate.map (·.name), present := r.presence != .absent,
    see := if shows then p.see else none, count := if shows then p.count else 0 }

/-- A NAMEPLATE is made for a bound seat: at the return to ACTIVE and where one is owed (a seat that becomes bound or
whose link recovers, a wrong-seat display) whatever its link, else when its record changes and its link is not LOST (08
R152, R153, log entry 54). -/
def State.makesPlate (s : State) (n : Nat) (d : Binding) (old new : Plate) : Bool :=
  (new.lit && !old.lit) || s.sd.plateDue.contains n ||
  (s.reachable (some d) && { new with count := 0 } != { old with count := 0 })

/-- A seat's nameplate record is brought up to date, with a NAMEPLATE for its station where one is `made` (08 R152). -/
def drawPlate (made : Binding → Bool) (n : Nat) (s : State) : State :=
  let new := s.plateOf n
  let s := if new == s.plate n then s else s.modPlate n (fun _ => new)
  match (s.seat n).binding with
  | some d => if made d then handOn ⟨.plate d, Fmt.nameplate new⟩ s else s
  | none => s

/-- A seat's nameplate record at the end of a command (08 R152). -/
def refreshPlate (n : Nat) (s : State) : State :=
  drawPlate (fun d => s.makesPlate n d (s.plate n) (s.plateOf n)) n s

/-- The nameplate of a seat whose roster a meeting's end has cleared goes to its station whatever its link (08 R152, log
entry 54). -/
def clearPlate (n : Nat) (s : State) : State := drawPlate (fun _ => true) n s

/-! ## Cameras (08 R157, R158) -/

/-- AIM of a preset. -/
def aim (k preset : Nat) (s : State) : State := handOn ⟨.camera k, Fmt.o1 preset⟩ s

/-- A reachable camera whose followed floor is not LIVE, or has changed: no candidate, a quiet count of 0, and a shot on a
seat gives way to OVERVIEW now (08 R157; candidate and count at a changed floor: log entry 55). -/
def restCamera (k : Nat) (s : State) : State :=
  let c := s.camera k
  let s := s.modCamera k (fun c => { c with candidate := none, quiet := 0 })
  if c.shot.isSome then
    aim k c.overview (s.modCamera k (fun c => { c with shot := none, shotStart := some s.now }))
  else s

/-- A camera that is not reachable (08 R158). -/
def CameraRec.unreached (c : CameraRec) : CameraRec :=
  { c with shot := none, shotStart := none, candidate := none, quiet := 0, served := false }

/-- A camera becomes or stops being reachable; one whose followed floor is not LIVE stands on OVERVIEW (08 R157,
R158). -/
def refreshCamera (k : Nat) (s : State) : State :=
  let c := s.camera k
  if !s.reachable c.binding then s.modCamera k CameraRec.unreached
  else
    let s := if c.served then s else aim k c.overview (s.modCamera k (fun c => { c with served := true }))
    if s.live (s.followed c.floor) then s else restCamera k s

end Sys2Proof.Machine
end

