-- ==== Sys2Proof/Machine/ScreenOps.lean ====
section
/-! DEFINITION. The screen director (08): wanted power and its judgement, layouts and content, the pacing of SHOW,
nameplates, the reachability of cameras; what it does at a change of a floor's meeting state; and the refresh that ends
every command which may change what it reads (log entry 12). -/

namespace Sys2Proof.Machine

/-! ## Screen power (08 R144, R145) -/

/-- The powers that a screen may be wanted in. -/
inductive Wanted where
  | on | standby | off
  deriving DecidableEq, Repr

/-- The wanted power of a reachable screen that follows `f` (08 R144). -/
def State.wanted (s : State) (f : Floor) : Wanted := match s.pwr.state with
  | .active => if (s.meeting f).state == .vacant then .standby else .on
  | .dim => .standby
  | .sleep | .waking => .off

/-- A screen leaves ON or WARMING for a state: warm-up cancelled, unsent mark cleared, a waiting SHOW discarded (08
R145, R151). -/
def restScreen (k : Nat) (p : ScreenPower) (s : State) : State :=
  let s := s.modScreen k (fun r => { r with power := p, warm := none, unsent := false })
  { s with sd := { s.sd with waiting := s.sd.waiting.filter (fun d => d.target != .screenShow k) } }

/-- POWER of screen `k`: off 0, standby 1, on 2 (12.3). -/
def sendPower (k : Nat) (code : Nat) (s : State) : State := handOn ⟨.screenPower k, Fmt.o1 code⟩ s

/-- Power a screen up: straight to ON with a warm-up of 0 (08 R145). -/
def powerUp (k : Nat) (s : State) : State :=
  sendPower k 2 (s.modScreen k (fun r =>
    if r.warmup = 0 then { r with power := .on, warm := none }
    else { r with power := .warming, warm := some (0, r.warmup) }))

/-- The judgement of a reachable screen's power (08 R145). -/
def judgePower (k : Nat) (s : State) : State :=
  let r := s.screen k
  match r.power, s.wanted (s.followed r.floor) with
  | .off, .on => powerUp k s
  | .off, .standby => s
  | .off, .off => s
  | .standby, .on => powerUp k s
  | .standby, .standby => s
  | .standby, .off => sendPower k 0 (restScreen k .off s)
  | .warming, .on => s
  | .warming, .standby => sendPower k 1 (restScreen k .standby s)
  | .warming, .off => sendPower k 0 (restScreen k .off s)
  | .on, .on => s
  | .on, .standby => sendPower k 1 (restScreen k .standby s)
  | .on, .off => sendPower k 0 (restScreen k .off s)
  | .fault, _ => s

/-! ## Layouts and content (08 R148, R149) -/

/-- The conditions of a layout rule hold for a floor (08 R148). -/
def State.layoutHolds (s : State) (f : Floor) (c : LayoutConds) : Bool :=
  let r := s.floor f
  let talking := r.grantOrder.length + (if r.stack.isEmpty then 0 else 1)
  let warned := r.meeting.endWarning || r.meeting.due.isSome ||
    r.grantOrder.any (fun n => ((s.seat n).turn.map (·.warned)).getD false)
  c.states.contains r.meeting.state &&
  (match c.speakers with
    | .any => true
    | .zero => talking == 0
    | .one => talking == 1
    | .many => 2 ≤ talking) &&
  (match c.hold with
    | .any => true
    | .active => !r.stack.isEmpty
    | .none => r.stack.isEmpty) &&
  (match c.queue with
    | .any => true
    | .empty => r.queue.isEmpty
    | .nonempty => !r.queue.isEmpty) &&
  (match c.warning with
    | .any => true
    | .yes => warned
    | .no => !warned)

/-- The layout of a floor: the id of the first rule that holds, or 0 (08 R148). -/
def State.layoutOf (s : State) (f : Floor) : Nat :=
  ((s.sd.layouts.filterMap id).find? (s.layoutHolds f)).elim 0 (·.layout)

/-- The delegate name of a seat. -/
def State.nameOf (s : State) (n : Nat) : Option Text := (s.seat n).delegate.map (·.name)

/-- A speaker with its turn time (08 R149). -/
def State.speakerOf (s : State) (n : Nat) : Speaker :=
  let t := (s.seat n).turn.getD (startTurn 0)
  { seat := n, name := s.nameOf n, warned := t.warned,
    time := if t.expired then some t.overtime else t.remaining.map (· / 1000), overtime := t.expired }

/-- The content record as it stands for a floor (08 R149). -/
def State.contentOf (s : State) (f : Floor) : Content :=
  let r := s.floor f
  let b := r.meeting.served.bind s.booking?
  { layout := s.layoutOf f
    title := b.bind (·.title)
    speakers := (r.grantOrder.take 8).map s.speakerOf
    holder := r.stack.head?.map (fun e => (e.holder, s.nameOf e.holder))
    queue := (r.queue.take 6).map (fun n => (n, s.nameOf n))
    stop := b.map (·.stop)
    next := (s.nextBooking f).map (fun b => (b.start, b.title))
    endWarning := r.meeting.endWarning
    dueWarning := r.meeting.due.isSome }

/-- A content record without its turn times, which do not count as a change (08 R149). -/
def Content.still (c : Content) : Content := { c with speakers := c.speakers.map (fun x => { x with time := none }) }

/-! ## SHOW (08 R150) -/

/-- The record as it stands is handed on; it is unsent until it reaches the outbound queue (08 R150, R151). -/
def sendShow (k : Nat) (s : State) : State :=
  let c := s.contentOf (s.followed (s.screen k).floor)
  handOn ⟨.screenShow k, Fmt.showPayload c⟩ (s.modScreen k (fun r => { r with content := c, unsent := true }))

/-- 250 ms have passed since the last SHOW, or there is none (08 R150). -/
def State.showOpen (s : State) (k : Nat) : Bool := match (s.screen k).lastShow with
  | none => true
  | some t => t + 250 ≤ s.now

/-- The pacing of an ON screen whose record has changed or that has become ON (08 R150). -/
def paceShow (k : Nat) (s : State) : State :=
  if s.showOpen k then sendShow k s else s.modScreen k (fun r => { r with unsent := true })

/-- A screen is judged: reachability, power, layout and content (08 R142 to R150). `came` when it has just become ON. A
screen that becomes reachable with its fault flag set is judged as OFF first, and the flag makes it FAULT at the next
millisecond's reading (08 R146, log entry 58). -/
def refreshScreen (came : Bool) (k : Nat) (s : State) : State :=
  if !s.reachable (s.screen k).binding then
    let s := restScreen k .off s
    s.modScreen k (fun r =>
      let c := s.contentOf (s.followed r.floor)
      if c.still == r.content.still then r else { r with content := c })
  else
    let before := (s.screen k).power
    let s := judgePower k s
    let c := s.contentOf (s.followed (s.screen k).floor)
    let changed := c.still != (s.screen k).content.still
    let s := if changed then s.modScreen k (fun r => { r with content := c }) else s
    if (s.screen k).power == .on && (changed || came || before != .on) then paceShow k s else s

/-- Every screen is judged, in ascending order. -/
def showScreens (s : State) : State := forAll (List.range' 1 8) (refreshScreen false) s

/-- A change of a floor's meeting state is passed to the screen director (07 R127): the screens that follow the floor are
judged (08 R144, R148). -/
def showFloor (f : Floor) (s : State) : State :=
  forAll (List.range' 1 8) (fun k s => if s.followed (s.screen k).floor == f then refreshScreen false k s else s) s

/-! ## The refresh -/

/-- A waiting directive's target can still be reached (08 R151). -/
def State.directiveStands (s : State) (d : Directive) : Bool := match d.target with
  | .screenPower k => s.reachable (s.screen k).binding
  | .screenShow k => s.reachable (s.screen k).binding && (s.screen k).power == .on
  | .plate b => s.reachable (some b)
  | .camera k => s.reachable (s.camera k).binding

/-- Waiting directives for targets that cannot be reached are discarded (08 R151). -/
def dropWaiting (s : State) : State :=
  { s with sd := { s.sd with waiting := s.sd.waiting.filter s.directiveStands } }

/-- The refresh written over every field. That one event's directives of different kinds come as the screens' POWER and
SHOW, then the cameras' AIM, then the nameplates is the model's choice: no rule orders them (log entry 73). -/
def refreshAll (s : State) : State :=
  let s := showScreens (dropWaiting s)
  let s := forAll (List.range' 1 4) refreshCamera s
  let s := forAll allSeats refreshPlate s
  { s with sd := { s.sd with plateDue := [] } }

/-- The screen director takes what a command has changed, and the console request unit then delivers the reports (03 R47,
log entry 12): it writes their own records and the outbound queues. -/
def refresh (s : State) : State :=
  let t := deliver (refreshAll s)
  { s with sd := t.sd, lane0 := t.lane0, lane1 := t.lane1, cru := t.cru }

end Sys2Proof.Machine
end

