-- ==== Sys2Proof/Machine/CalendarOps.lean ====
section
/-! DEFINITION. The calendar and the partition monitor: the end of a meeting (07 R137), the evaluation pass (R128 to
R132), the booking table (R120, R121), the partition change (06 R109 to R113, 07 R139). -/

namespace Sys2Proof.Machine

/-! ## The booking table (07 R120, R121) -/

/-- Table order: by start minute, then by id. -/
def Booking.before (a b : Booking) : Bool := a.start < b.start || (a.start == b.start && a.id < b.id)

/-- Enter a booking in its place. -/
def insertBooking (b : Booking) : List Booking → List Booking
  | [] => [b]
  | x :: xs => if b.before x then b :: x :: xs else x :: insertBooking b xs

/-- Two scopes intersect. -/
def Scope.meets (a b : Scope) : Bool := a == b || a == .combined || b == .combined

/-- Two half-open intervals intersect. -/
def intervalsMeet (a b c d : Nat) : Bool := a < d && c < b

/-- A booking in the table, other than `id`, whose scope and interval intersect the given ones (07 R121). -/
def State.conflicts (s : State) (id : Nat) (sc : Scope) (start stop : Nat) : Bool :=
  s.bookings.any (fun b => b.id != id && b.scope.meets sc && intervalsMeet b.start b.stop start stop)

/-- A booking leaves the table, and its pool entries are freed (07 R120, R122). -/
def removeBooking (id : Nat) (s : State) : State := { s with bookings := s.bookings.filter (·.id != id) }

/-- Due bookings are taken afresh on both floors (07 R127). -/
def refreshDues (s : State) : State := refreshDue .B (refreshDue .A s)

/-- A booking without a meeting leaves the table (07 R137): its COMPLETED report lists no seats. -/
def releaseBooking (b : Booking) (o : Outcome) (s : State) : State :=
  let f := (s.servingFloor b).map (fun f => (f, (s.meeting f).state))
  completedReport b.id f o none none 0 [] (removeBooking b.id s)

/-! ## The end of a meeting (07 R137) -/

/-- The cameras that follow a floor come to rest when it leaves LIVE (08 R157). -/
def camerasLeave (f : Floor) (s : State) : State :=
  forAll (List.range' 1 4) (fun k s =>
    let c := s.camera k
    if s.reachable c.binding && s.followed c.floor == f then restCamera k s else s) s

/-- The roster is cleared from a floor's seats, wrong-seat displays end, and every station of the floor is sent a cleared
NAMEPLATE once all of them have been written (01 R6; 08 R152, R153). -/
def clearRoster (f : Floor) (s : State) : State :=
  let seats := s.floorSeats f
  let s := forAll seats (fun n => State.modSeat n (SeatRec.withPresence .absent)) s
  let s := forAll seats (fun n => State.modPlate n (fun p => { p with see := none, count := 0 })) s
  forAll seats clearPlate (writeRoles seats (fun _ => (.none, none)) s)

/-- Steps 1 to 5 of a meeting's end (07 R137). -/
def endMeeting (f : Floor) (o : Outcome) (s : State) : State :=
  let m := s.meeting f
  let s := releaseFloor f s
  let seats := (s.floorSeats f).filter (fun n => (s.seat n).role != .none)
  let now := if m.state.runs then s.clock.map (·.minute) else none
  let s := completedReport (m.served.getD 0) (some (f, .vacant)) o m.start now m.checkedIn.length seats s
  let s := clearRoster f s
  let s := match m.served with
    | some id => removeBooking id s
    | none => s
  camerasLeave f (s.modMeeting f (fun _ => Reset.meeting))

/-! ## Starts (07 R129, R130) -/

/-- A floor becomes PREPARING for a booking, whose runtime has no start minute yet (07 R120, R129; log entry 50). -/
def prepare (f : Floor) (b : Booking) (s : State) : State :=
  let s := calendarWake s
  let s := s.modBooking b.id (fun x => { x with state := .active, runtime := some ⟨none, f⟩ })
  let s := s.modMeeting f (fun _ => { Reset.meeting with state := .preparing, served := some b.id })
  bookingReport .preparing b.id (some f) [] s

/-- The role and delegate record that a roster gives a seat (01 R6). -/
def rosterRole (r : List RosterEntry) (n : Nat) : Role × Option Delegate := match r.find? (·.seat == n) with
  | some e => (e.role, e.delegate)
  | none => (.none, none)

/-- A booked meeting starts on its serving floor, which is VACANT or PREPARING (07 R130). -/
def startBooked (f : Floor) (b : Booking) (s : State) : State :=
  let now := s.minute
  let s := if (s.meeting f).state == .vacant then calendarWake s else s
  let s := s.modBooking b.id (fun x => { x with state := .active, runtime := some ⟨some now, f⟩ })
  let skipped := b.roster.filter (fun e => s.seatFloor e.seat != f)
  let s := writeRoles (s.floorSeats f) (rosterRole b.roster) (endTestOn f s)
  let s := loadProfile f (s.profile b.profile) (zeroAccounts f s)
  let st : MeetingState := if b.window = 0 then .inSession else .checkIn
  let s := s.modMeeting f (fun _ => { Reset.meeting with state := st, served := some b.id, start := some now })
  bookingReport .started b.id (some f) (Fmt.flag (b.start < now) ++ Fmt.o1 skipped.length) s

/-! ## The evaluation pass (07 R128) -/

/-- To whom a pass passes on what it does. `shown` is what the screen director does at a change of a floor's meeting state
(07 R127), `ended` what the partition monitor does when a meeting's end inside the pass is passed to it (07 R137 step 7,
06 R110). -/
structure PassedOn where
  shown : Floor → State → State
  ended : State → State

/-- The pass inside a partition change: the screen director takes the change after it (06 R113 step 2), and no target is
pending. -/
def insideChange : PassedOn := { shown := fun _ s => s, ended := fun s => s }

/-- The overrun deadline (07 R132). -/
def State.overrunDeadline (s : State) (f : Floor) (b : Booking) : Nat :=
  match s.nextBooking f with
  | some n => min (b.stop + b.overrun) (n.start - n.lead)
  | none => b.stop + b.overrun

/-- The end warning (07 R131). -/
def giveWarning (f : Floor) (b : Booking) (s : State) : State :=
  if b.stop ≤ s.minute + 5 then s.modMeeting f (fun m => { m with endWarning := true }) else s

/-- A meeting's end made inside a pass: the floor's VACANT state is passed on at once (07 R137 step 7, R127). -/
def endInPass (p : PassedOn) (f : Floor) (o : Outcome) (s : State) : State := p.ended (p.shown f (endMeeting f o s))

/-- An OVERRUN meeting is judged against its deadline (07 R132). -/
def judgeOverrun (p : PassedOn) (f : Floor) (b : Booking) (s : State) : State :=
  let d := s.overrunDeadline f b
  let s := s.modMeeting f (fun m => { m with deadline := some d })
  if d ≤ s.minute then endInPass p f .ended s else s

/-- An IN_SESSION meeting whose end has come enters OVERRUN (07 R132). -/
def enterOverrun (p : PassedOn) (f : Floor) (b : Booking) (s : State) : State :=
  judgeOverrun p f b
    (p.shown f (bookingReport .overrun b.id (some f) [] (s.modMeeting f (fun m => { m with state := .overrun }))))

/-- Step 1 of the pass, for one floor (07 R128). -/
def judgeFloor (p : PassedOn) (f : Floor) (s : State) : State :=
  let m := s.meeting f
  match m.served.bind s.booking? with
  | none => s
  | some b => match m.state with
    | .vacant | .walkIn | .preparing => s
    | .checkIn =>
      if m.start.getD 0 + b.window ≤ s.minute || b.stop ≤ s.minute then endInPass p f .released s
      else giveWarning f b s
    | .inSession =>
      let s := giveWarning f b s
      if b.stop ≤ s.minute then enterOverrun p f b s else s
    | .overrun => judgeOverrun p f b s

/-- A booking becomes HELD, if it is not already (07 R129). -/
def holdBooking (b : Booking) (s : State) : State :=
  if b.state == .held then s
  else bookingReport .held b.id (s.servingFloor b) [] (s.modBooking b.id (fun x => { x with state := .held }))

/-- A booking returns to SCHEDULED (07 R129). -/
def returnBooking (b : Booking) (f : Option Floor) (s : State) : State :=
  bookingReport .returned b.id f [] (s.modBooking b.id (fun x => { x with state := .scheduled, runtime := none }))

/-- A HELD booking returns to SCHEDULED; a SCHEDULED one stays. -/
def unholdBooking (b : Booking) (s : State) : State :=
  if b.state == .held then returnBooking b (s.servingFloor b) s else s

/-- The floor that prepares a booking. -/
def State.preparingFloor (s : State) (id : Nat) : Option Floor :=
  [Floor.A, .B].find? (fun f => (s.meeting f).state == .preparing && (s.meeting f).served == some id)

/-- An ACTIVE booking whose floor is PREPARING is judged (07 R129). -/
def judgePreparing (p : PassedOn) (b : Booking) (s : State) : State := match s.preparingFloor b.id with
  | none => s
  | some f =>
    if b.stop ≤ s.minute then endInPass p f .missed s
    else if s.minute + b.lead < b.start then
      p.shown f (returnBooking b (some f) (s.modMeeting f (fun _ => Reset.meeting)))
    else if b.start ≤ s.minute then p.shown f (startBooked f b s)
    else s

/-- A walk-in gives way to a booking (07 R129). Where its end lets a pending target be applied, the pass of that partition
change has judged the booking already (06 R110). -/
def preempt (p : PassedOn) (f : Floor) (b : Booking) (s : State) : State :=
  let t := endInPass p f .preempted s
  if t.part.partition == s.part.partition then p.shown f (startBooked f b t) else t

/-- A SCHEDULED or HELD booking is judged by the first row that holds (07 R129). -/
def judgeWaiting (p : PassedOn) (b : Booking) (s : State) : State :=
  if b.stop ≤ s.minute then releaseBooking b (if b.state == .held then .unserved else .missed) s
  else if b.state == .held && b.start + max b.window 15 ≤ s.minute then releaseBooking b .unserved s
  else if s.minute + b.lead < b.start then unholdBooking b s
  else match s.servingFloor b with
    | none => holdBooking b s
    | some f => match (s.meeting f).state with
      | .vacant => p.shown f (if s.minute < b.start then prepare f b s else startBooked f b s)
      | .walkIn => if s.minute < b.start then refreshDue f (unholdBooking b s) else preempt p f b s
      | .preparing | .checkIn | .inSession | .overrun => holdBooking b s

/-- Step 2 of the pass, for one booking (07 R129). -/
def judgeBooking (p : PassedOn) (id : Nat) (s : State) : State := match s.booking? id with
  | none => s
  | some b => match b.state with
    | .active => judgePreparing p b s
    | .scheduled | .held => judgeWaiting p b s

/-- The two steps of a pass, made unless the clock is unset (07 R128). -/
def evaluate (p : PassedOn) (s : State) : State :=
  if s.clock.isSome then
    let s := judgeFloor p .B (judgeFloor p .A s)
    refreshDues (forAll (s.bookings.map (·.id)) (judgeBooking p) s)
  else refreshDues s

/-! ## The partition (06) -/

/-- The outcomes of a WALL report, in the order of 06 R114. -/
inductive WallOutcome where
  | reading | conflict | withdrawn | changed
  deriving DecidableEq, Repr

/-- A WALL report (06 R114). -/
def wallReport (o : WallOutcome) (s : State) : State :=
  let p := s.part
  let cause := if o == .reading then none else p.cause
  let floors := [Floor.A, .B].filter s.runs
  report .wall (Fmt.o1 o.ctorIdx ++ Fmt.o1 p.reading.ctorIdx ++ Fmt.o1 p.mode.ctorIdx ++ Fmt.o1 p.target.ctorIdx ++
    Fmt.o1 p.partition.ctorIdx ++ Fmt.opt (fun c : TargetCause => Fmt.o1 c.ctorIdx) cause ++
    (if o == .conflict then Fmt.list Fmt.floor floors else [])) s

/-- A PREPARING booking whose serving floor is no longer the floor it is on returns to SCHEDULED (07 R139). -/
def rejudgePreparing (id : Nat) (s : State) : State := match s.booking? id, s.preparingFloor id with
  | some b, some f =>
    if s.servingFloor b == some f then s
    else returnBooking b (some f) (s.modMeeting f (fun _ => Reset.meeting))
  | _, _ => s

/-- The partition becomes the target (06 R109 to R113, 07 R139): the calendar takes it, then the screen director. -/
def changePartition (s : State) : State :=
  let s := wallReport .changed { s with part := { s.part with partition := s.part.target } }
  showScreens (evaluate insideChange (forAll (s.bookings.map (·.id)) rejudgePreparing s))

/-- A pending target is applied once no floor runs a meeting (06 R110). -/
def applyTarget (s : State) : State :=
  if !s.anyRuns && s.part.target != s.part.partition then changePartition s else s

/-- The target becomes a value (06 R107 to R109). -/
def setTarget (t : Partition) (c : TargetCause) (s : State) : State :=
  if s.part.target == t then s
  else
    let s := { s with part := { s.part with target := t, cause := some c } }
    if !s.anyRuns then (if s.part.partition == t then s else changePartition s)
    else if t == s.part.partition then wallReport .withdrawn s
    else wallReport .conflict s

/-- A pass outside a partition change: the screen director takes each change of a floor's meeting state at once, and so
the partition monitor each meeting's end (07 R127, R137; 06 R110; log entries 12 and 41). -/
def atOnce : PassedOn := { shown := showFloor, ended := applyTarget }

/-- An evaluation pass (07 R128). -/
def evaluationPass (s : State) : State := evaluate atOnce s

/-- A meeting's end made outside a pass: the pass follows it, and the meeting state that results is passed to the screen
director and then to the partition monitor (07 R127, R137 steps 6 and 7; 06 R110). -/
def endMeetingNow (f : Floor) (o : Outcome) (s : State) : State :=
  applyTarget (showFloor f (evaluationPass (endMeeting f o s)))

end Sys2Proof.Machine
end

