-- ==== Sys2Proof/Machine/MixOps.lean ====
section
/-! DEFINITION. The mix engine's arithmetic (05): the seven gain terms and the five stages. Outputs and sources are
numbered as channels: 1 to 48 for seats, 49 and 50 for lines 1 and 2. -/

namespace Sys2Proof.Machine

/-! ## The tables of 05 R87 and R94 -/

/-- nom(N) for N from 0 to 10 (05 R87). -/
def nominalGain (n : Nat) : Int := [0, 0, -6, -10, -12, -14, -16, -17, -18, -19, -20].getD n (-20)

/-- L(G) for G from -120 to -92 (05 R94). -/
def factors1 : List Nat :=
  [4, 4, 5, 5, 5, 5, 6, 6, 6, 7, 7, 8, 8, 9, 9,
   10, 10, 11, 12, 12, 13, 14, 15, 15, 16, 17, 18, 19, 21]

/-- L(G) for G from -91 to -63 (05 R94). -/
def factors2 : List Nat :=
  [22, 23, 24, 26, 27, 29, 31, 33, 34, 37, 39, 41, 43, 46, 49,
   52, 55, 58, 61, 65, 69, 73, 77, 82, 87, 92, 97, 103, 109]

/-- L(G) for G from -62 to -34 (05 R94). -/
def factors3 : List Nat :=
  [115, 122, 130, 137, 145, 154, 163, 173, 183, 194, 205, 217, 230, 244, 258,
   274, 290, 307, 325, 345, 365, 387, 410, 434, 460, 487, 516, 546, 579]

/-- L(G) for G from -33 to -5 (05 R94). -/
def factors4 : List Nat :=
  [613, 649, 688, 728, 772, 817, 866, 917, 971, 1029, 1090, 1154, 1223, 1295, 1372,
   1453, 1539, 1631, 1727, 1830, 1938, 2053, 2175, 2303, 2440, 2584, 2738, 2900, 3072]

/-- L(G) for G from -4 to 24 (05 R94). -/
def factors5 : List Nat :=
  [3254, 3446, 3651, 3867, 4096, 4339, 4596, 4868, 5157, 5462, 5786, 6129, 6492, 6876, 7284,
   7715, 8173, 8657, 9170, 9713, 10289, 10898, 11544, 12228, 12953, 13720, 14533, 15394, 16306]

/-- The 145 linear factors, for G from -120 to 24 (05 R94). -/
def factors : List Nat := factors1 ++ factors2 ++ factors3 ++ factors4 ++ factors5

/-- L(G) (05 R94). -/
def linearFactor (g : Int) : Nat := factors.getD (g + 120).toNat 0

/-! ## The gain terms (05 section 5.3) -/

/-- The own source or a seat output that is not a line's. -/
def isSeatChan (c : Nat) : Bool := c ≤ 48

/-- trim(s) (05 R88). -/
def State.trimTerm (s : State) (c : Nat) : Int := if isSeatChan c then (s.seat c).trim else (s.line (c - 48)).trim

/-- gate(s) (05 R88). -/
def State.gateTerm (s : State) (f : Floor) (c : Nat) : Gain :=
  if (s.chan c).gate.active then .db 0 else (s.floor f).mix.closedGate

/-- duck(s) (05 R89). -/
def State.duckTerm (s : State) (f : Floor) (c : Nat) : Gain :=
  if !isSeatChan c && s.holdActive f then (s.floor f).mix.priorityDuck else .db 0

/-- route(s,d) (05 R90). -/
def State.routeTerm (s : State) (f : Floor) (c d : Nat) : Gain :=
  if c = d then .mute
  else if isSeatChan d && isSeatChan c && (s.seat d).neighbours.contains c then (s.floor f).mix.proximityDuck
  else .db 0

/-- talker(d) (05 R91). -/
def State.talkerTerm (s : State) (f : Floor) (d : Nat) : Gain :=
  if isSeatChan d && (s.contributors f).contains d && (s.chan d).gate.active then (s.floor f).mix.talkerDuck else .db 0

/-- level(d) (05 R92). -/
def State.levelTerm (s : State) (f : Floor) (d : Nat) : Int :=
  if isSeatChan d then (s.floor f).mix.level else (s.line (d - 48)).level

/-! ## The five stages (05 section 5.4) -/

/-- The sum of two terms; mute absorbs (05 R93). -/
def addGain : Gain → Gain → Gain
  | .db a, .db b => .db (a + b)
  | .mute, _ => .mute
  | _, .mute => .mute

/-- Stage 1: the applied gain, or mute (05 R93). -/
def appliedGain (terms : List Gain) : Gain := match terms.foldl addGain (.db 0) with
  | .mute => .mute
  | .db g => .db (clampInt (-120) 24 g)

/-- The seven terms of contributor `c` in output `d` of floor `f`. -/
def State.terms (s : State) (f : Floor) (n : Nat) (c d : Nat) : List Gain :=
  [.db (s.trimTerm c), s.gateTerm f c, .db (nominalGain n), s.duckTerm f c, s.routeTerm f c d, s.talkerTerm f d,
    .db (s.levelTerm f d)]

/-- The current input sample of a source (05 R85). -/
def State.inputSample (s : State) (c : Nat) : Int :=
  let d := if isSeatChan c then (s.seat c).binding else (s.line (c - 48)).binding
  match d.bind s.entry? with
  | some e => e.current.toInt
  | none => 0

/-- Stages 1 to 3 for one contributor: its sample times its factor, or 0 when muted (05 R93 to R95). -/
def State.contribution (s : State) (f : Floor) (n : Nat) (d c : Nat) : Int :=
  match appliedGain (s.terms f n c d) with
  | .mute => 0
  | .db g => s.inputSample c * linearFactor g

/-- Stage 3: the accumulator (05 R95). -/
def State.accumulator (s : State) (f : Floor) (d : Nat) : Int :=
  ((s.contributors f).map (s.contribution f (s.openCount f) d)).sum

/-- Stage 4: rounded to the nearest, halves upward (05 R96). -/
def scale (acc : Int) : Int := (acc + 2048) / 4096

/-- Stage 5 (05 R97). -/
def saturate (x : Int) : Int := clampInt (-32768) 32767 x

/-- Stage 5 clamps (05 R97). -/
def clips (x : Int) : Bool := x < -32768 || 32767 < x

/-- The floor of an output (05 section 5.1). -/
def State.outputFloor (s : State) (d : Nat) : Floor := s.chanFloor d

/-- The three conditions of 05 R84. -/
def State.outputRuns (s : State) (d : Nat) : Bool :=
  s.pwr.state == .active && s.live (s.outputFloor d) && !(isSeatChan d && s.underTest d)

/-- The scaled value of an output, before stage 5. -/
def State.mixValue (s : State) (d : Nat) : Int := scale (s.accumulator (s.outputFloor d) d)

/-- The output sample and the speaker enable (05 R84, R97). -/
def State.output (s : State) (d : Nat) : Sample × Bool :=
  if s.outputRuns d then (BitVec.ofInt 16 (saturate (s.mixValue d)), true) else (0, false)

/-- The saturation counter of a computed output rises at a clamp (05 R97, R103). -/
def countClip (d : Nat) (s : State) : State :=
  if s.outputRuns d && clips (s.mixValue d) then
    { s with satur := s.satur.modify (d - 1) (fun n => sat16 (n + 1)) }
  else s

/-- The output that a position carries: the seat or the line bound there (05 R83). -/
def State.outputAt (s : State) (p : Binding) : Option Nat :=
  (s.seatAt? p).or (([1, 2].find? (fun l => (s.line l).binding == some p)).map (48 + ·))

end Sys2Proof.Machine
end

