-- ==== Sys2Proof/Machine/VoiceOps.lean ====
section
/-! DEFINITION. The voice detector (04): bands, gates, the millisecond evaluation and what it hands on to the floors
(02 R34, R35) and the cameras (08 R155, R156); the key detectors' samples (04 R77 to R79, 11 R201). -/

namespace Sys2Proof.Machine

/-! ## Bands and gates -/

/-- T(1) to T(23) (04 R69). -/
def thresholds : List Nat :=
  [26029, 20675, 16423, 13045, 10362, 8231, 6538, 5193, 4125, 3277, 2603, 2068, 1642, 1305, 1036, 823, 654, 519, 413,
   328, 260, 207, 164]

/-- The level band of a peak (04 R69). -/
def bandOf (peak : Nat) : Nat := (thresholds.filter (fun t => peak < t)).length

/-- The magnitude of a sample; that of -32768 is 32768 (04 R69). -/
def magnitude (x : Sample) : Nat := x.toInt.natAbs

/-- A channel after the table of 04 R73, before the hang time is judged. -/
def Chan.regions (g : GateSettings) (now band : Nat) (c : Chan) : Chan :=
  let c := { c with band := band, peak := min c.peak band, msPeak := 0 }
  match c.gate with
  | .closed => if band ≤ g.openBand then { c with gate := .opened, opening := some now } else c
  | .opened => if g.closeBand ≤ band then { c with gate := .hang, hang := some 0 } else c
  | .hang =>
    if band ≤ g.openBand then { c with gate := .opened, hang := none }
    else { c with hang := some (c.hang.getD 0 + 1) }

/-- A hang that has reached the hang time closes the gate (04 R73). -/
def Chan.hangStep (g : GateSettings) (c : Chan) : Chan :=
  if c.gate == .hang && g.hangTime ≤ c.hang.getD 0 then { c with gate := .closed, hang := none } else c

/-- The evaluation of a running channel (04 R69, R70, R73). -/
def Chan.evaluate (g : GateSettings) (now : Nat) (c : Chan) : Chan :=
  (c.regions g now (bandOf c.msPeak)).hangStep g

/-- One channel's evaluation with its gate event (04 R73, R74, R76). -/
def evaluateChan (c : Nat) (s : State) : State :=
  if s.chanRunning c then
    let before := (s.chan c).gate
    let s := s.modChan c (Chan.evaluate (s.floor (s.chanFloor c)).gate s.now)
    match before, (s.chan c).gate with
    | .closed, .opened => gateReport c .level s
    | .opened, .closed => gateReport c .hangExpiry s
    | .hang, .closed => gateReport c .hangExpiry s
    | _, _ => s
  else s

/-! ## The gate update (02 R34, R35) -/

/-- The release count of a SPEAKING seat at a gate update (02 R35). -/
def SeatRec.releaseStep (g : GateState) (r : SeatRec) : SeatRec :=
  { r with release := r.release.map (fun n => if g == .closed then n + 1 else 0) }

/-- The voice release time has run out (02 R35). -/
def State.releaseOver (s : State) (f : Floor) (n : Nat) : Bool :=
  (s.floor f).settings.voiceRelease * 1000 ≤ ((s.seat n).release.getD 0)

/-- Voice release of the floor's speakers whose time has run out, in ascending seat order (02 R35). -/
def releaseVoices (f : Floor) (s : State) : State :=
  forAll ((s.floorSeats f).filter (fun n => (s.seat n).floorState == .speaking && s.releaseOver f n))
    (fun n => close n .voiceRelease none) s

/-- A gate update of a VOICE floor (02 R34). -/
def gateUpdate (f : Floor) (s : State) : State :=
  if (s.floor f).settings.mode == .voice then
    let speakers := (s.floor f).grantOrder
    let s := forAll speakers (fun n s => s.modSeat n (SeatRec.releaseStep (s.chan n).gate)) s
    grantPass f (releaseVoices f s)
  else s

/-! ## Shot choice (08 R155, R156) -/

/-- The preset of a seat for camera `k`. -/
def State.preset (s : State) (n k : Nat) : Nat := (s.seat n).presets.getD (k - 1) 0

/-- The active seats of a camera that follows `f` (08 R155). -/
def State.activeSeats (s : State) (k : Nat) (f : Floor) : List Nat :=
  (s.floorSeats f).filter (fun n =>
    (s.seat n).floorState == .speaking && (s.chan n).gate.active && s.preset n k != 0)

/-- The active seat with the latest opening time, the lower seat among equals (08 R155). -/
def State.choice (s : State) (seats : List Nat) : Option Nat :=
  seats.foldl (fun best n => match best with
    | none => some n
    | some m => if ((s.chan m).opening.getD 0) < ((s.chan n).opening.getD 0) then some n else some m) none

/-- The candidate after the judgement of this millisecond (08 R155). -/
def CameraRec.candidateStep (now : Nat) (choice : Option Nat) (c : CameraRec) : Option (Nat × Nat) :=
  match choice with
  | none => none
  | some n =>
    if c.shot == some n then none
    else if (c.candidate.map (·.1)) == some n then c.candidate
    else some (n, now)

/-- The millisecond judgement of a camera: candidate and quiet count (08 R155 to R157). -/
def judgeCamera (k : Nat) (s : State) : State :=
  let c := s.camera k
  let f := s.followed c.floor
  if s.reachable c.binding then
    if !s.live f || s.holdActive f then s.modCamera k (fun c => { c with candidate := none, quiet := 0 })
    else
      let seats := s.activeSeats k f
      let choice := s.choice seats
      s.modCamera k (fun c =>
        { c with candidate := c.candidateStep s.now choice,
                 quiet := if seats.isEmpty then min 30000 (c.quiet + 1) else 0 })
  else s

/-- A shot has lasted the minimum hold; a camera with no shot start has (08 R155). -/
def CameraRec.held (now : Nat) (c : CameraRec) : Bool := match c.shotStart with
  | none => true
  | some t => t + c.minimumHold * 1000 ≤ now

/-- The holder that a camera's followed floor has, if a hold is active there (08 R157). -/
def State.holderFor (s : State) (k : Nat) : Option Nat :=
  ((s.floor (s.followed (s.camera k).floor)).stack.head?).map (·.holder)

/-- The shot that a holder gives a camera: the holder, or OVERVIEW for preset 0 (08 R157). -/
def State.holdShot (s : State) (k n : Nat) : Option Nat := if s.preset n k = 0 then none else some n

/-- A cut is due (08 R155). -/
def State.cutDue (s : State) (k : Nat) : Bool :=
  let c := s.camera k
  match c.candidate with
  | some (_, t) => s.reachable c.binding && (s.holderFor k).isNone && t + c.cutDelay ≤ s.now && c.held s.now
  | none => false

/-- A return to overview is due (08 R156). -/
def State.returnDue (s : State) (k : Nat) : Bool :=
  let c := s.camera k
  s.reachable c.binding && s.live (s.followed c.floor) && (s.holderFor k).isNone && c.shot.isSome &&
    c.returnDelay * 1000 ≤ c.quiet && c.held s.now

/-- A priority cut is due (08 R157). -/
def State.priorityCutDue (s : State) (k : Nat) : Bool :=
  let c := s.camera k
  match s.holderFor k with
  | some n => s.reachable c.binding && c.shot != s.holdShot k n
  | none => false

/-- A shot on a seat, or OVERVIEW, begins now with its AIM (08 R155 to R157; OVERVIEW by a priority cut: log
entry 32). -/
def takeShot (k : Nat) (shot : Option Nat) (s : State) : State :=
  let preset := match shot with
    | some n => s.preset n k
    | none => (s.camera k).overview
  aim k preset (s.modCamera k (fun c => { c with shot := shot, shotStart := some s.now, candidate := none }))

/-- The shot that the hold on a camera's followed floor gives it (08 R157). -/
def State.heldShot (s : State) (k : Nat) : Option Nat := (s.holderFor k).bind (s.holdShot k)

/-- The change of shot that is due at the judgement of a camera: the cut to the holder, the cut to the candidate, or the
return to OVERVIEW (08 R155 to R157). -/
def moveShot (k : Nat) (s : State) : State :=
  if s.priorityCutDue k then takeShot k (s.heldShot k) s
  else if s.cutDue k then takeShot k ((s.camera k).candidate.map (·.1)) s
  else if s.returnDue k then takeShot k none s
  else s

/-- The evaluation of all 50 channels and what it hands on: the gate updates of the floors, the judgement of the cameras
and their changes of shot (04 R68, R74; 02 R34; 08 R155 to R157). -/
def evaluateVoices (s : State) : State :=
  let s := gateUpdate .B (gateUpdate .A (forAll allChans evaluateChan s))
  forAll (List.range' 1 4) (fun k s => moveShot k (judgeCamera k s)) s

/-! ## Key detectors (04 section 4.6) -/

/-- A new sample enters the window; the held count of a PRESSED key rises (04 R77, R79). -/
def Detector.sample (x : Bool) (d : Detector) : Detector :=
  { d with window := d.window.drop 1 ++ [x], held := d.held.map (fun n => min 1500 (n + 1)) }

/-- The previous sample (04 R77). -/
def Detector.last (d : Detector) : Bool := d.window.getLastD false

def Detector.count (d : Detector) : Nat := (d.window.filter id).length

/-- A PRESS (04 R78). -/
def Detector.press (d : Detector) : Detector := { d with pressed := true, held := some 0, longGiven := false }

/-- A RELEASE (04 R78). -/
def Detector.release (d : Detector) : Detector := { d with pressed := false, held := none }

/-- A LONG (04 R79). -/
def Detector.long (d : Detector) : Detector := { d with pressed := true, held := some 1500, longGiven := true }

/-- A PRESS is due (04 R78). -/
def Detector.pressDue (d : Detector) : Bool := !d.pressed && 18 ≤ d.count

/-- A RELEASE is due (04 R78). -/
def Detector.releaseDue (d : Detector) : Bool := d.pressed && d.count ≤ 2

/-- A LONG is due (04 R79). On a sample that also brings the RELEASE, the RELEASE alone is given (log entry 56). -/
def Detector.longDue (d : Detector) : Bool := d.pressed && !d.longGiven && d.held == some 1500

/-- The key bit of a status octet (12 R206). -/
def keyBit (k : Key) (status : Octet) : Bool := match k with
  | .mic => status.getLsbD 7
  | .priority => status.getLsbD 6
  | .next => status.getLsbD 5

/-- The sample of a key: its bit in the last good status field of the millisecond, or the previous one (04 R77). -/
def keySample (k : Key) (status : Option (Octet × Octet)) (d : Detector) : Bool := match status with
  | some x => keyBit k x.1
  | none => d.last

/-- The three detectors of a seat take their samples. -/
def SeatDets.sample (status : Option (Octet × Octet)) (d : SeatDets) : SeatDets :=
  { mic := d.mic.sample (keySample .mic status d.mic)
    priority := d.priority.sample (keySample .priority status d.priority)
    next := d.next.sample (keySample .next status d.next)
    since := min 20 (d.since + 1) }

/-- The carried key after a seat's samples: its PRESS is withheld when it comes at the 18th sample with every sample
set, and it is no longer carried then or at the first clear sample after the press that is pending, whether or not the
detector has resumed since (11 R201, log entry 65). -/
def carryStep (n : Nat) (s : State) : State := match s.pwr.carried with
  | some (m, k) =>
    if m = n then
      let d := (s.detectors n).get k
      if !d.last then { s with pwr := { s.pwr with carried := none } }
      else if d.pressDue && (s.detectors n).since = 18 then
        { s.modDets n (SeatDets.mod k Detector.press) with pwr := { s.pwr with carried := none } }
      else s
    else s
  | none => s

/-- The detectors of a bound seat whose link is not LOST take one sample (04 R77). -/
def sampleKeys (n : Nat) (s : State) : State := match (s.seat n).binding.bind s.entry? with
  | some e => if e.link == .lost then s else carryStep n (s.modDets n (SeatDets.sample e.status))
  | none => s

end Sys2Proof.Machine
end

