-- ==== Sys2Proof/Machine/LaneOps.lean ====
section
/-! DEFINITION. The message lanes (10): turns, receptions, the checks and the filter of a completed message, relaying,
and the sending of elements. -/

namespace Sys2Proof.Machine

/-! ## The up-lane turn (10 R181) -/

/-- An entry waits for the turn. -/
def NodeEntry.asks (e : NodeEntry) : Bool := e.link != .lost && e.waiting

/-- The first waiting position after the one last served, wrapping from 24 to 1. -/
def State.nextAsking (s : State) (b : Branch) : Option Nat :=
  let ask := ((s.br b).table.filter NodeEntry.asks).map (·.position)
  let last := (s.lane b).last
  (ask.find? (fun p => last < p)).or (ask.find? (fun p => p ≤ last))

/-- With the phase FREE and no lane hold, the turn is offered (10 R181). -/
def offerTurn (b : Branch) (s : State) : State :=
  let l := s.lane b
  if (s.br b).state.carriesLane && l.turn == .free && !l.hold then
    match s.nextAsking b with
    | some p => s.modLane b (fun l => { l with turn := .offered p 0 })
    | none => s
  else s

/-- An offer lapses (10 R181). -/
def Lane.lapse (l : Lane) : Lane := match l.turn with
  | .offered p _ => { l with turn := .free, last := p }
  | .free | .receiving _ _ => l

/-- A reception is discarded with a framing error (10 R182). -/
def Lane.giveUp (l : Lane) : Lane := match l.turn with
  | .receiving p _ => { l.discardReception with turn := .free, last := p }
  | .free | .offered _ _ => l

/-! ## Completed messages (10 R180, R184, R185, R187) -/

/-- The message is taken by the hub (10 R184). -/
def State.taken (s : State) (dest : Octet) : Bool :=
  s.filter.any (fun e => match e with
    | some (a, m) => dest &&& m == a &&& m
    | none => false)

/-- The branch that a message is relayed to, or none when it is dropped (10 R185). A branch whose lane is stopped keeps
it in its queue (log entry 27). -/
def State.relayBranch (s : State) (from_ : Branch) (dest : Octet) : Option Branch :=
  let other : Branch := match from_ with
    | .b0 => .b1
    | .b1 => .b0
  if 0x80 ≤ dest.toNat then some other
  else match bindingOf dest with
    | some d => if (s.entry? d).isSome then some d.branch else none
    | none => none

/-- Keep a completed message in an inbound place of its branch. -/
def keepPlace (d : Binding) (octets : List Octet) (use : PlaceUse) (s : State) : State :=
  { s.modLane d.branch (fun l => { l with places := l.places ++ [⟨octets, d.position, use, s.stamp⟩] }) with
    stamp := s.stamp + 1 }

/-- Relay a message: placed at once, kept waiting in its place, or dropped (10 R185, R188). `asked` is the request
that the CRU also takes from it (R184). -/
def relay (d : Binding) (octets : List Octet) (asked : Option Instr) (s : State) : State :=
  let keep (s : State) : State := match asked with
    | some i => keepPlace d octets (.request i) s
    | none => s
  match s.relayBranch d.branch (octets.headD 0) with
  | none => keep (s.modLane d.branch (fun l =>
      { l with counts := { l.counts with relayDrop := sat16 (l.counts.relayDrop + 1) } }))
  | some t =>
    if s.atOnce t then keep (pushOut t (.relayed octets) s)
    else keepPlace d octets (match asked with
      | some i => .both i t
      | none => .relay t) s

/-- The payload of a message (12.3). -/
def payloadOf (octets : List Octet) : List Octet := (octets.drop 4).take (octets.length - 6)

/-- A card id in a station message's payload of four octets (12.3). -/
def cardOf (payload : List Octet) : Option CardId := match payload with
  | [a, b, c, d] => some (a ++ b ++ c ++ d)
  | _ => none

/-- A station message is counted by kind when its node is not a seat (10 R187, R194). -/
def countKind (b : Branch) (s : State) : State :=
  s.modLane b (fun l => { l with counts := { l.counts with kind := sat16 (l.counts.kind + 1) } })

/-- The node at a place is of kind SEAT. -/
def State.isSeatNode (s : State) (d : Binding) : Bool := ((s.entry? d).map (·.kind)) == some .seat

/-- CARD_IN from a station (10 R187). -/
def stationCardIn (d : Binding) (c : CardId) (s : State) : State :=
  if s.isSeatNode d then deliverCard d c s else countKind d.branch s

/-- CARD_OUT from a station (10 R187). -/
def stationCardOut (d : Binding) (c : CardId) (s : State) : State :=
  if s.isSeatNode d then cardOut d c s else countKind d.branch s

/-- A station message that the hub takes (10 R187; a length that does not suit it is ignored, log entry 21). -/
def stationMessage (d : Binding) (out : Bool) (octets : List Octet) (s : State) : State :=
  match cardOf (payloadOf octets) with
  | some c => if out then stationCardOut d c s else stationCardIn d c s
  | none => if s.isSeatNode d then s else countKind d.branch s

/-- A message that has passed R180 goes through the filter (10 R184, R187). A station message to a group is handled before
it is relayed (log entry 64). -/
def filterMessage (d : Binding) (octets : List Octet) (s : State) : State :=
  let dest := octets.headD 0
  let kind := octets.getD 2 0
  let group := 0x80 ≤ dest.toNat
  if s.taken dest then
    if kind = 0x01 ∨ kind = 0x02 then
      let s := stationMessage d (kind == 0x02) octets s
      if group then relay d octets none s else s
    else
      let i := requestOf d.branch (octets.getD 1 0) kind (payloadOf octets)
      if group then relay d octets (some i) s else keepPlace d octets (.request i) s
  else relay d octets none s

/-- The checks of a completed message (10 R180). -/
def judgeMessage (d : Binding) (octets : List Octet) (s : State) : State :=
  if Fmt.crc16 octets != 0 then
    countError d.branch .laneCrc (s.modLane d.branch (fun l =>
      { l with counts := { l.counts with crc := sat16 (l.counts.crc + 1) } }))
  else if octets.getD 1 0 != d.octet then
    s.modLane d.branch (fun l => { l with counts := { l.counts with source := sat16 (l.counts.source + 1) } })
  else filterMessage d octets s

/-- The turn's reception ends with a complete message, which leaves its receiving place (10 R182). -/
def completeReception (d : Binding) (octets : List Octet) (s : State) : State :=
  judgeMessage d octets (s.modLane d.branch (fun l =>
    { l with turn := .free, last := d.position, places := l.places.filter (fun p => p.use != .receiving) }))

/-! ## Elements of the up-lane (10 R181 to R183) -/

/-- The octets received so far. -/
def Lane.receiving (l : Lane) : List Octet := ((l.places.find? (fun p => p.use == .receiving)).map (·.octets)).getD []

/-- The reception takes an inbound place at its start element (10 R182). -/
def Lane.begin_ (p : Nat) (e : Octet) (l : Lane) : Lane :=
  { l with turn := .receiving p 0, places := l.places ++ [⟨[e], p, .receiving, 0⟩] }

/-- An element is added to the message (10 R182). -/
def Lane.add (p : Nat) (e : Octet) (l : Lane) : Lane :=
  { l with turn := .receiving p 0,
           places := l.places.map (fun x => if x.use == .receiving then { x with octets := x.octets ++ [e] } else x) }

/-- The message is complete, or is too long and has run to 66 elements (10 R182). -/
def messageDone (os : List Octet) : Bool := 4 ≤ os.length && (os.getD 3 0).toNat ≤ 60 && os.length == (os.getD 3 0).toNat + 6
def messageTooLong (os : List Octet) : Bool := 60 < (os.getD 3 0).toNat && 66 ≤ os.length

/-- The lane part of an up-frame: an element with its start flag, or none (10 R181 to R183). A start element during a
reception discards the reception and is itself counted nowhere, whether or not the hold is set (log entry 60). -/
def takeElement (b : Branch) (e : Option (Octet × Bool)) (s : State) : State :=
  let l := s.lane b
  match l.turn, e with
  | .free, some (_, true) =>
    s.modLane b (fun l => if l.hold
      then { l with counts := { l.counts with holdViolation := sat16 (l.counts.holdViolation + 1) } }
      else { l with counts := l.counts.addFraming })
  | .free, _ => s
  | .offered p w, e =>
    match e with
    | some (o, true) =>
      if l.placeFree then s.modLane b (Lane.begin_ p o)
      else s.modLane b (fun l => { l with counts := { l.counts with holdViolation := sat16 (l.counts.holdViolation + 1) } })
    | _ => if 8 ≤ w + 1 then s.modLane b Lane.lapse else s.modLane b (fun l => { l with turn := .offered p (w + 1) })
  | .receiving p g, none =>
    if 5 ≤ g + 1 then s.modLane b Lane.giveUp else s.modLane b (fun l => { l with turn := .receiving p (g + 1) })
  | .receiving _ _, some (_, true) => s.modLane b Lane.giveUp
  | .receiving p _, some (o, false) =>
    let os := l.receiving ++ [o]
    if messageDone os then completeReception ⟨b, p⟩ os s
    else if messageTooLong os then s.modLane b Lane.giveUp
    else s.modLane b (Lane.add p o)

/-! ## Elements of the down-lane (10 R188) -/

/-- The head message has been sent: it leaves the queue, and its place is offered by the rotation (10 R188, R193). -/
def messageSent (b : Branch) (s : State) : State := match (s.lane b).out with
  | [] => s
  | m :: rest =>
    let s := s.modLane b (fun l => { l with out := rest, sent := 0 })
    let s := if m.isReset then { s with cru := { s.cru with phase := .resetDue } } else s
    offerPlace b s

/-- The element that a down-frame sends, with its start flag. -/
def Lane.nextElement (l : Lane) : Option (Octet × Bool) := match l.out with
  | [] => none
  | m :: _ => some ((Fmt.outOctets m).getD l.sent 0, l.sent == 0)

/-- One element has been sent (10 R188). -/
def sendElement (b : Branch) (s : State) : State := match (s.lane b).out with
  | [] => s
  | m :: _ =>
    if Fmt.outLength m ≤ (s.lane b).sent + 1 then messageSent b s
    else s.modLane b (fun l => { l with sent := l.sent + 1 })

/-! ## The CRU takes requests (10 R187) -/

/-- The CRU is idle and holds no waiting answer. -/
def State.cruFree (s : State) : Bool := s.cru.phase == .idle && s.cru.waiting.isNone

/-- The places that hold a request. -/
def State.requests (s : State) : List Place :=
  (s.lane0.places ++ s.lane1.places).filter (fun p => p.use.request?.isSome)

/-- Taking a request frees its place (10 R187). -/
def freeRequest (stamp : Nat) (s : State) : State :=
  let free (l : Lane) : Lane :=
    { l with places := l.places.filterMap (fun p =>
        if p.use.request?.isSome && p.stamp = stamp then p.requested else some p) }
  { s with lane0 := free s.lane0, lane1 := free s.lane1 }

/-- A request that finds the CRU busy waits in a free place of its branch (log entry 4). -/
def keepRequest (h : Head) (i : Instr) (s : State) : State :=
  if (s.lane h.branch).placeFree then
    keepPlace ⟨h.branch, ((bindingOf h.source).map (·.position)).getD 0⟩ [] (.request i) s
  else s

/-- The source is a node of kind CONSOLE on the branch that the request came from (10 R187). -/
def State.fromConsole (s : State) (h : Head) : Bool := match bindingOf h.source with
  | some d => d.branch == h.branch && ((s.entry? d).map (·.kind)) == some .console
  | none => false

/-- What a block returns for a request: an answer, or one that follows a later event (10 R187). -/
inductive Reply where
  | now (c : Code) (data : List Octet)
  | later
  deriving DecidableEq, Repr

/-- The common checks of a request, its block's handling, and its answer (10 R187). The screen director takes the
changes before the answer is made (log entry 12). -/
def handle {α : Type} (h : Head) (i : Instr) (body : Body α) (run : α → State → State × Reply) (s : State) : State :=
  if s.cruFree then
    if s.fromConsole h then
      match body with
      | .badLength => answer h .badLength [] s
      | .unknownForm => answer h .range [] s
      | .fields a => match run a s with
        | (t, .now c data) => answer h c data (refresh t)
        | (t, .later) => refresh t
    else answer h .refused [] s
  else keepRequest h i s

/-- A refusal that changes nothing; it carries no data, that of a query no more-follows octet either (10 R192, log entry
30). -/
def refusal (c : Code) (s : State) : State × Reply := (s, .now c [])

/-- Done, with no data. -/
def done (s : State) : State × Reply := (s, .now .ok [])

end Sys2Proof.Machine
end

