-- ==== Sys2Proof/Machine/Frames.lean ====
section
/-! DEFINITION. The meanings of the frame steps: UP_FRAME and DOWN_FRAME (09 R162, R163, R167, R170, R173 to R176; 12
R206). -/

namespace Sys2Proof.Machine

/-! ## The test sequence (09 R175) -/

/-- The next bit: the exclusive-or of the bits 15 and 14 places before it. -/
def sequenceBit (g : BitVec 15) : Bool := g.getLsbD 14 != g.getLsbD 13

/-- Take `k` bits of the sequence: the last 15 bits, and the bits taken shifted into a sample. -/
def takeBits : Nat → BitVec 15 → Sample → BitVec 15 × Sample
  | 0, g, x => (g, x)
  | k + 1, g, x =>
    let bit := sequenceBit g
    takeBits k ((g <<< 1) ||| (if bit then 1 else 0)) ((x <<< 1) ||| (if bit then 1 else 0))

/-- The next 16 bits. -/
def next16 (g : BitVec 15) : BitVec 15 × Sample := takeBits 16 g 0

/-- The 16 bits that follow a sample's bits in the sequence (09 R176). -/
def predict (x : Sample) : Sample := (next16 (x.setWidth 15)).2

/-! ## The checker (09 R176) -/

/-- The checker while OUT_OF_SYNC. -/
def PathTest.search (slot : Option Sample) (t : PathTest) : PathTest := match slot with
  | none => { t with matchRun := 0, reference := none }
  | some x =>
    let run := if t.reference.map predict == some x then t.matchRun + 1 else 0
    if 32 ≤ run then { t with inSync := true, achieved := true, matchRun := 0, reference := some x, window := [] }
    else { t with matchRun := run, reference := some x }

/-- The mismatches in a window. -/
def mismatchCount (w : List Bool) : Nat := (w.filter (fun ok => !ok)).length

/-- The checker while IN_SYNC. -/
def PathTest.follow (slot : Option Sample) (t : PathTest) : PathTest :=
  let own := predict (t.reference.getD 0)
  let ok := slot == some own
  let w := (t.window ++ [ok]).drop (t.window.length - 63)
  let t := { t with reference := some own, window := w,
                    mismatches := if ok then t.mismatches else min 16777215 (t.mismatches + 1) }
  if 8 ≤ mismatchCount w then { t with inSync := false, matchRun := 0, reference := none, window := [] } else t

/-- The checker takes one up-slot: a good sample, or none for a bad slot. -/
def PathTest.check (slot : Option Sample) (t : PathTest) : PathTest :=
  if t.inSync then t.follow slot else t.search slot

/-! ## Up-slots -/

/-- A slot's mic sample. -/
def slotSample (x : UpSlot) : Sample := Fmt.sampleOf x.sampleHigh x.sampleLow

/-- The slot check is correct (12 R206, R207): over four octets in RUNNING, over the status alone in BEACON. -/
def slotGood (running : Bool) : Option UpSlot → Bool
  | none => false
  | some x =>
    x.check == Fmt.crc8 (if running then [x.sampleHigh, x.sampleLow, x.status, x.wall] else [x.status, x.wall])

/-- A good slot, if the slot is good. -/
def goodSlot (running : Bool) (x : Option UpSlot) : Option UpSlot := if slotGood running x then x else none

/-- The slot that an up-frame carries for a position. -/
def slotAt (f : UpFrame) (p : Nat) : Option UpSlot := f.slots.getD (p - 1) none

/-- The bad and good runs at which an entry is lost and recovers (09 R167). -/
def linkLimits (running : Bool) : Nat × Nat := if running then (800, 1600) else (50, 100)

/-- The link-health step of an entry, without the change of link (09 R167, R168). -/
def NodeEntry.health (good : Bool) (e : NodeEntry) : NodeEntry :=
  let e := if good then e else { e with window := sat16 (e.window + 1) }
  match e.link, good with
  | .lost, true => { e with goodRun := min 1600 (e.goodRun + 1) }
  | .lost, false => { e with goodRun := 0 }
  | _, true => { e with badRun := 0 }
  | _, false => { e with badRun := min 1600 (e.badRun + 1), goodRun := 0 }

/-- The bad-sample hold (09 R170). -/
def NodeEntry.holdSample (slot : Option UpSlot) (e : NodeEntry) : NodeEntry := match slot with
  | some x => { e with current := slotSample x, held := slotSample x, badSamples := 0 }
  | none =>
    let run := min 17 (e.badSamples + 1)
    { e with badSamples := run, current := if run ≤ 16 then e.held else 0 }

/-- The status field of a good slot: kept for the millisecond, with the waiting and fault flags (09 R163). -/
def NodeEntry.takeStatus (slot : Option UpSlot) (e : NodeEntry) : NodeEntry := match slot with
  | some x =>
    { e with status := some (x.status, x.wall), waiting := x.status.getLsbD 4, fault := x.status.getLsbD 2 }
  | none => e

/-- What an up-slot does to its entry. -/
def NodeEntry.takeSlot (running : Bool) (f : UpFrame) (e : NodeEntry) : NodeEntry :=
  let slot := goodSlot running (slotAt f e.position)
  let e := e.health slot.isSome
  (if running then e.holdSample slot else e).takeStatus slot

/-- The bad slots of entries that are not LOST, judged before the link step (09 section 9.5). -/
def slotErrors (running : Bool) (f : UpFrame) (table : List NodeEntry) : Nat :=
  (table.filter (fun e => e.link != .lost && !slotGood running (slotAt f e.position))).length

/-- What the users of a slot at a bound place take from it: the voice detector its sample (04 R68), the calendar its
card-present flag (01 R11). -/
def takeUsers (b : Branch) (running : Bool) (f : UpFrame) (e : NodeEntry) (s : State) : State :=
  match s.outputAt ⟨b, e.position⟩ with
  | none => s
  | some c =>
    let s := if running && s.chanRunning c then
        s.modChan c (fun r => { r with msPeak := max r.msPeak (magnitude e.current) })
      else s
    match goodSlot running (slotAt f e.position) with
    | some x => if c ≤ 48 then s.modSeat c (fun r => { r with cardFlag := x.status.getLsbD 3 }) else s
    | none => s

/-- An entry whose run has reached its limit changes link (09 R167). -/
def judgeLink (running : Bool) (d : Binding) (s : State) : State := match s.entry? d with
  | none => s
  | some e =>
    if e.link != .lost && (linkLimits running).1 ≤ e.badRun then loseNode d true s
    else if e.link == .lost && (linkLimits running).2 ≤ e.goodRun then recoverNode d s
    else s

/-- The path-test checker takes the up-slot of the seat under test (09 R176). -/
def checkPath (b : Branch) (f : UpFrame) (s : State) : State :=
  { s with test := s.test.map (fun t =>
      if t.branch == b then t.check ((goodSlot true (slotAt f t.position)).map slotSample) else t) }

/-- The lane element of an up-frame with its start flag (12 R206). -/
def upElement (f : UpFrame) : Option (Octet × Bool) :=
  if f.flags.getLsbD 6 then some (f.element, f.flags.getLsbD 5) else none

/-- The slots of an up-frame of a RUNNING or BEACON branch, before its lane element (09 R163). -/
def takeStations (b : Branch) (running : Bool) (f : UpFrame) (s : State) : State :=
  let errors := slotErrors running f (s.br b).table
  let s := s.modBr b (fun r =>
    { r with counter := r.counter.count .slotCheck errors, table := r.table.map (NodeEntry.takeSlot running f) })
  let s := forAll (s.br b).table (takeUsers b running f) s
  let s := forAll ((s.br b).table.map (·.position)) (fun p => judgeLink running ⟨b, p⟩) s
  if running then checkPath b f s else s

/-- An up-frame of a RUNNING or BEACON branch (09 R163). -/
def takeSlots (b : Branch) (running : Bool) (f : UpFrame) (s : State) : State :=
  takeElement b (upElement f) (takeStations b running f s)

/-- An up-frame at full rate counts for the wake (11 R200). -/
def countFull (b : Branch) (s : State) : State :=
  s.modBr b (fun r => { r with frameSeen := true, fullCount := min 16 (r.fullCount + 1) })

/-- A DOWN branch comes up (09 R161). -/
def bringUp (b : Branch) (s : State) : State :=
  if s.pwr.state == .sleep then emptyTable b .beacon none s else startEnumeration b s

/-- An up-frame that is received (09 section 9.1). Its kind octet is not read: its slots are those of the branch's own
state (log entry 53). -/
def receiveFrame (b : Branch) (f : UpFrame) (s : State) : State := match (s.br b).state with
  | .down =>
    let s := countFull b (s.modBr b (fun r => { r with upCount := r.upCount + 1 }))
    if 16 ≤ (s.br b).upCount then bringUp b s else s
  | .enumerating => countFull b s
  | .running => takeSlots b true f (countFull b s)
  | .beacon => takeSlots b false f (s.modBr b (fun r => { r with frameSeen := true }))

/-- A frame without its marker is not received: it judges no entry, whose runs and counts stand, and consecutive counts
begin again (09 R161, R167, 11 R200, log entry 36). -/
def missFrame (b : Branch) (s : State) : State :=
  s.modBr b (fun r => { r with upCount := 0, fullCount := if r.fullCount < 16 then 0 else r.fullCount })

/-- UP_FRAME (09 R163). -/
def execUpFrame (b : Branch) (f : UpFrame) (s : State) : Host.Outcome State Fault Refusal :=
  finish s (if f.marker = 0x7E then refresh (receiveFrame b f s) else missFrame b s)

/-! ## Down-frames -/

/-- The control octet of a down-slot (12 R206). -/
def controlOctet (lamp : Lamp) (enable loop : Bool) : Octet :=
  BitVec.ofNat 8 (lamp.ctorIdx * 32 + (if enable then 16 else 0) + (if loop then 8 else 0))

/-- A down-slot with its check (09 R162, 12 R206, R207). -/
def downSlot (x : Sample) (lamp : Lamp) (enable loop : Bool) : DownSlot :=
  { sample := x, lamp := lamp, enable := enable, loop := loop,
    check := Fmt.crc8 (Fmt.sample x ++ [controlOctet lamp enable loop]) }

/-- The four octets of a down-slot (12 R206). -/
def DownSlot.octets (x : DownSlot) : List Octet :=
  Fmt.sample x.sample ++ [controlOctet x.lamp x.enable x.loop, x.check]

/-- The lane flags and the lane element octet of a down-frame (12 R206). -/
def DownFrame.laneOctets (f : DownFrame) : List Octet :=
  let hold := if f.hold then 128 else 0
  match f.element with
  | none => [BitVec.ofNat 8 hold, 0]
  | some (e, start) => [BitVec.ofNat 8 (hold + 64 + if start then 32 else 0), e]

/-- Octet 4 of a down-frame: the lane-turn position, or the roll octet of a ROLL frame (12 R206). -/
def DownFrame.fourth (f : DownFrame) : Octet := match f.roll with
  | none => BitVec.ofNat 8 f.turn
  | some (restart, position) => BitVec.ofNat 8 ((if restart then 128 else 0) + position)

/-- A down-frame as it is sent: marker, kind, lane octets, octet 4, and the down-slots of a RUNNING frame (12 R206). -/
def DownFrame.octets (f : DownFrame) : List Octet :=
  [0x7E, BitVec.ofNat 8 f.kind.ctorIdx] ++ f.laneOctets ++ [f.fourth] ++ f.slots.flatMap DownSlot.octets

/-- The down-slot of a position (09 R162, R174). -/
def State.slotFor (s : State) (d : Binding) : DownSlot := match s.outputAt d with
  | none => downSlot 0 .off false false
  | some c =>
    let lamp : Lamp := if isSeatChan c then s.lamp c else .off
    match s.test with
    | some t =>
      if t.seat = c then downSlot (next16 t.gen).2 lamp false true
      else downSlot (s.output c).1 lamp (s.output c).2 false
    | none => downSlot (s.output c).1 lamp (s.output c).2 false

/-- The slot that TEST_INSERT names carries a check that fails (09 R173). -/
def spoilCheck (x : DownSlot) : DownSlot :=
  { x with check := x.check ^^^ (if Config.checkFlip = 0 then 1 else Config.checkFlip) }

/-- The 24 down-slots of a branch. -/
def State.slotsFor (s : State) (b : Branch) : List DownSlot :=
  (List.range' 1 24).map (fun p =>
    let x := s.slotFor ⟨b, p⟩
    if ((s.br b).insertion.map (·.1)) == some p then spoilCheck x else x)

/-- The lane-turn position of a down-frame, 0 for none (12 R206). -/
def LaneTurn.octet : LaneTurn → Nat
  | .free => 0
  | .offered p _ => p
  | .receiving p _ => p

/-- A frame with the lane items of a branch. -/
def State.laneFrame (s : State) (b : Branch) (kind : FrameKind) (slots : List DownSlot) : DownFrame :=
  { kind := kind, hold := (s.lane b).hold, element := (s.lane b).nextElement, turn := (s.lane b).turn.octet,
    roll := none, slots := slots }

/-- A waiting insertion has been sent: its OK is answered and the CRU is idle (09 R173). -/
def answerInsertion (b : Branch) (s : State) : State := match (s.br b).insertion with
  | none => s
  | some (_, h) =>
    answer h .ok [] { s.modBr b (fun r => { r with insertion := none }) with cru := { s.cru with phase := .idle } }

/-- The contributor sets and open counts as this computation takes them (05 R103). -/
def noteLatest (s : State) : State :=
  { s with latestA := (s.contributors .A, s.openCount .A), latestB := (s.contributors .B, s.openCount .B) }

/-- The channel outputs of a branch, in position order. -/
def State.outputsOf (s : State) (b : Branch) : List Nat :=
  (List.range' 1 24).filterMap (fun p => s.outputAt ⟨b, p⟩)

/-- The generator moves on at each down-frame of the branch under test (09 R175). -/
def advanceTest (b : Branch) (s : State) : State :=
  { s with test := s.test.map (fun t => if t.branch == b then { t with gen := (next16 t.gen).1 } else t) }

/-- The frame that a branch port sends. -/
def sendFrame (b : Branch) (f : DownFrame) (s : State) : State := s.modBr b (fun r => { r with lastDown := some f })

/-- The computation of a branch's frame: the contributors as it takes them, and the clamped outputs of the branch (05
R83, R97, R103). -/
def compute (b : Branch) (s : State) : State := forAll (s.outputsOf b) countClip (noteLatest s)

/-- A RUNNING down-frame (09 R162). -/
def sendRunning (b : Branch) (s : State) : State :=
  let s := offerTurn b s
  let frame := s.laneFrame b .running (s.slotsFor b)
  answerInsertion b (sendElement b (advanceTest b (sendFrame b frame s)))

/-- A ROLL down-frame; the restart mark is on the first one alone (09 R164, 12 R206). -/
def sendRoll (b : Branch) (s : State) : State :=
  let roll := (s.br b).roll.map (fun r => (r.restart, r.position))
  s.modBr b (fun r => { r with
    lastDown := some { kind := .roll, hold := false, element := none, turn := 0, roll := roll, slots := [] }
    roll := r.roll.map (fun x => { x with restart := false }) })

/-- An EMPTY down-frame: its lane octets are clear (12 R206, log entry 53). -/
def emptyFrame : DownFrame := { kind := .empty, hold := false, element := none, turn := 0, roll := none, slots := [] }

/-- A BEACON down-frame (09 R163, 12 R206). -/
def sendBeacon (b : Branch) (s : State) : State :=
  let s := offerTurn b s
  sendElement b (sendFrame b (s.laneFrame b .beacon []) s)

/-- The down-frame of a branch: its computation, whatever the frame then carries (05 R83), and the frame that the branch
state gives (09 section 9.1). -/
def sendDown (b : Branch) (s : State) : State := match (s.br b).state with
  | .down => sendFrame b emptyFrame (compute b s)
  | .enumerating => sendRoll b (compute b s)
  | .running => sendRunning b (compute b s)
  | .beacon => sendBeacon b (compute b s)

/-- DOWN_FRAME (05 R83). -/
def execDownFrame (b : Branch) (s : State) : Host.Outcome State Fault Refusal := finish s (sendDown b s)

end Sys2Proof.Machine
end

