-- ==== Sys2Proof/Machine/Links.lean ====
section
/-! DEFINITION. The meanings of the branch, enumeration and link steps (09 R161 to R169). -/

namespace Sys2Proof.Machine

/-- BRANCH_UP (09 R161): a DOWN branch has received its 16 consecutive up-frames. -/
def execBranchUp (b : Branch) (s : State) : Host.Outcome State Fault Refusal :=
  finish s (if (s.br b).state == .down then refresh (bringUp b s) else s)

/-- BRANCH_DOWN (09 R161, 11 R200). -/
def execBranchDown (b : Branch) (s : State) : Host.Outcome State Fault Refusal :=
  finish s (if (s.br b).state == .down then s else refresh (wakeCheck (takeDown b s)))

/-- A LINK report with event OVERLENGTH (09 R165). -/
def overlengthReport (b : Branch) (s : State) : State := report .link (Fmt.o1 2 ++ Fmt.branch b) s

/-- A LINK report with event ENUM_ERROR (09 R165). -/
def enumErrorReport (b : Branch) (position : Nat) (s : State) : State :=
  report .link (Fmt.o1 3 ++ Fmt.branch b ++ Fmt.o1 position) s

/-- A damaged reply (09 R165): the fourth ends the enumeration, and the report follows. -/
def damagedReply (b : Branch) (roll : Roll) (s : State) : State :=
  if 4 ≤ roll.damaged + 1 then wakeCheck (enumErrorReport b roll.position (finishEnumeration b s))
  else s.modBr b (fun x => { x with roll := some { roll with damaged := roll.damaged + 1, wait := 0 } })

/-- A good reply adds an entry; an end-of-chain flag ends the enumeration (09 R164). -/
def goodReply (b : Branch) (roll : Roll) (r : RollReply) (s : State) : State :=
  let s := s.modBr b (fun x =>
    { x with roll := some { roll with position := roll.position + 1, damaged := 0, wait := 0,
                                      found := roll.found ++ [newEntry roll.position r] } })
  if r.kind.getLsbD 7 then endEnumeration b s else s

/-- A reply to ROLL (09 R164, R165); any reply to position 25 is an overlength chain (log entry 25). -/
def takeReply (b : Branch) (r : RollReply) (s : State) : State := match (s.br b).state, (s.br b).roll with
  | .enumerating, some roll =>
    if 25 ≤ roll.position then endEnumeration b (overlengthReport b s)
    else if RollReply.good r then goodReply b roll r s
    else damagedReply b roll s
  | _, _ => s

/-- ROLL_REPLY (09 R164): the reply alone, not the up-frame that carried it (log entry 69). -/
def execRollReply (b : Branch) (r : RollReply) (s : State) : Host.Outcome State Fault Refusal :=
  finish s (refresh (takeReply b r s))

/-- ROLL_SILENCE (09 R164). -/
def execRollSilence (b : Branch) (s : State) : Host.Outcome State Fault Refusal :=
  finish s (if (s.br b).state == .enumerating then refresh (endEnumeration b s) else s)

/-- NODE_LINK_LOST (09 R167): the bad run of an entry has reached its limit. -/
def execNodeLinkLost (b : Branch) (position : Nat) (s : State) : Host.Outcome State Fault Refusal :=
  finish s (if (s.br b).state.carriesLane && s.linkOf (some ⟨b, position⟩) != .lost then
    let run := (linkLimits ((s.br b).state == .running)).1
    refresh (loseNode ⟨b, position⟩ true (s.modEntry ⟨b, position⟩ (fun e => { e with badRun := run, goodRun := 0 })))
  else s)

/-- NODE_LINK_RECOVERED (09 R167): the good run of a LOST entry has reached its limit. -/
def execNodeLinkRecovered (b : Branch) (position : Nat) (s : State) : Host.Outcome State Fault Refusal :=
  finish s (if (s.br b).state.carriesLane then refresh (recoverNode ⟨b, position⟩ s) else s)

/-- The link after a window that was spent whole (09 R168). -/
def NodeEntry.judged (e : NodeEntry) : Link :=
  if e.whole then
    match e.link with
    | .ok => if 32 ≤ e.window then .degraded else .ok
    | .degraded => if e.window ≤ 4 then .ok else .degraded
    | .lost => .lost
  else e.link

/-- The end of one entry's window (09 R168, R169). -/
def endEntryWindow (running : Bool) (d : Binding) (s : State) : State := match s.entry? d with
  | none => s
  | some e =>
    let new := e.judged
    let s := s.modEntry d (fun e => { e with link := new, window := 0, whole := running && new != .lost })
    if new == e.link then s else nodeReport d e new s

/-- The end of a window on one branch; in BEACON none is judged (09 R168). -/
def endBranchWindow (b : Branch) (s : State) : State :=
  forAll ((s.br b).table.map (·.position)) (fun p => endEntryWindow ((s.br b).state == .running) ⟨b, p⟩) s

/-- LINK_WINDOW_END (09 R168). -/
def execLinkWindowEnd (s : State) : Host.Outcome State Fault Refusal :=
  finish s (deliver (endBranchWindow .b1 (endBranchWindow .b0 { s with windowDue := false })))

end Sys2Proof.Machine
end

