-- ==== Sys2Proof/Machine/Lanes.lean ====
section
/-! DEFINITION. The meanings of the lane steps (10 R180 to R189) and of the station messages (01 R9, R10; 11 R199). -/

namespace Sys2Proof.Machine

/-- A message has come complete from a position: the reception under way there ends with it; while the turn is
elsewhere it needs a free place of its own (10 R180, R182, log entry 2). -/
def completeMessage (d : Binding) (octets : List Octet) (s : State) : State :=
  let l := s.lane d.branch
  match l.turn with
  | .receiving q _ =>
    if q = d.position then completeReception d octets s
    else if l.placeFree then judgeMessage d octets s else s
  | .offered q _ =>
    if !l.placeFree then s
    else if q = d.position then completeReception d octets s else judgeMessage d octets s
  | .free => if l.placeFree then completeReception d octets s else s

/-- LANE_MESSAGE_COMPLETE (10 R180). -/
def execLaneMessageComplete (b : Branch) (position : Nat) (octets : List Octet) (s : State) :
    Host.Outcome State Fault Refusal :=
  finish s (if (s.br b).state.carriesLane then refresh (completeMessage ⟨b, position⟩ octets s) else s)

/-- CARD_IN (01 R9): the station message as the hub takes it (10 R187). -/
def execCardIn (b : Branch) (position : Nat) (card : CardId) (s : State) : Host.Outcome State Fault Refusal :=
  finish s (if (s.br b).state.carriesLane then refresh (stationCardIn ⟨b, position⟩ card s) else s)

/-- CARD_OUT (01 R10). -/
def execCardOut (b : Branch) (position : Nat) (card : CardId) (s : State) : Host.Outcome State Fault Refusal :=
  finish s (if (s.br b).state.carriesLane then refresh (stationCardOut ⟨b, position⟩ card s) else s)

/-- CARD_TO_POWER (11 R199): a CARD_IN from a bound station taken outside ACTIVE. -/
def execCardToPower (b : Branch) (position : Nat) (card : CardId) (s : State) : Host.Outcome State Fault Refusal :=
  finish s (if s.pwr.state == .active || !(s.br b).state.carriesLane then s
    else match s.seatAt? ⟨b, position⟩ with
      | some n => refresh (cardToPower n card s)
      | none => s)

/-- RELAY_PLACED (10 R185). -/
def execRelayPlaced (b : Branch) (s : State) : Host.Outcome State Fault Refusal :=
  finish s (placeWaiting b .relay s)

/-- TURN_OFFER (10 R181). -/
def execTurnOffer (b : Branch) (s : State) : Host.Outcome State Fault Refusal := finish s (offerTurn b s)

/-- TURN_OFFER_LAPSE (10 R181). -/
def execTurnOfferLapse (b : Branch) (s : State) : Host.Outcome State Fault Refusal :=
  finish s (s.modLane b Lane.lapse)

/-- RECEPTION_GAP_TIMEOUT (10 R182). -/
def execReceptionGapTimeout (b : Branch) (s : State) : Host.Outcome State Fault Refusal :=
  finish s (s.modLane b Lane.giveUp)

/-- OUTBOUND_MESSAGE_SENT (10 R188). -/
def execOutboundMessageSent (b : Branch) (s : State) : Host.Outcome State Fault Refusal :=
  finish s (messageSent b s)

/-- ANSWER_PLACED (10 R187). -/
def execAnswerPlaced (s : State) : Host.Outcome State Fault Refusal :=
  finish s (match s.cru.waiting with
    | some (b, _) => placeWaiting b .answer s
    | none => s)

/-- REPORT_PLACED (10 R189). -/
def execReportPlaced (s : State) : Host.Outcome State Fault Refusal :=
  finish s (match s.cru.address with
    | some d => placeWaiting d.branch .report s
    | none => s)

/-- A source can be placed on a branch now. -/
def State.canPlace (s : State) (b : Branch) (src : Source) : Bool := (s.lane b).roomOut && s.waitsFor b src

/-- DIRECTIVE_HANDED_ON (08 R151). -/
def execDirectiveHandedOn (s : State) : Host.Outcome State Fault Refusal :=
  finish s (if s.canPlace .b0 .directive then placeWaiting .b0 .directive s else placeWaiting .b1 .directive s)

/-- REQUEST_UNKNOWN_KIND (10 R187). -/
def execRequestUnknownKind (h : Head) (kind : Octet) (s : State) : Host.Outcome State Fault Refusal :=
  finish s (if s.cruFree then answer h (if s.fromConsole h then .badKind else .refused) [] s
    else keepRequest h (.requestUnknownKind h kind) s)

end Sys2Proof.Machine
end

