-- ==== Sys2Proof/Machine/Seats.lean ====
section
/-! DEFINITION. The meanings of the requests of 01: SEAT_MAP, CHECK_IN and ROSTER_EDIT. -/

namespace Sys2Proof.Machine

/-! ## SEAT_MAP (01 R4, R5) -/

/-- The serial that an entry gives its seat. -/
def mapSerial (e : SeatMapEntry) : Option Serial := e.serial.toOption

/-- An entry that fails the RANGE check (01 R4, 12 R205). -/
def mapEntryBad (e : SeatMapEntry) : Bool :=
  badSeat e.seat || (floorOfCode e.side).isNone || 4 < e.neighbours.length || e.serial.isBad

/-- The side of an entry that has passed the RANGE check. -/
def mapSide (e : SeatMapEntry) : Floor := (floorOfCode e.side).getD .A

/-- A meeting holds the seat: its floor, or the floor it would have, is not VACANT (01 R4). -/
def State.mapLocked (s : State) (e : SeatMapEntry) : Bool :=
  (s.meeting (s.seatFloor e.seat)).state != .vacant ||
  (s.meeting (s.part.partition.floorOf (mapSide e))).state != .vacant

/-- The kept neighbours, in the order given (01 R5). -/
def keptNeighbours (own : Nat) : List Nat → List Nat → List Nat
  | kept, [] => kept
  | kept, n :: ns =>
    keptNeighbours own (if badSeat n || n = own || kept.contains n then kept else kept ++ [n]) ns

/-- The four map fields of a seat (01 R5). -/
def SeatRec.writeMap (e : SeatMapEntry) (r : SeatRec) : SeatRec :=
  { r with serial := mapSerial e, side := mapSide e, trim := clampInt (-24) 24 e.trim,
           neighbours := keptNeighbours e.seat [] e.neighbours }

/-- Every entry is written to its seat. -/
def writeMap (es : List SeatMapEntry) (s : State) : State :=
  forAll es (fun e => State.modSeat e.seat (SeatRec.writeMap e)) s

/-- A list of numbers with a repeat. -/
def hasRepeat : List Nat → Bool
  | [] => false
  | n :: ns => ns.contains n || hasRepeat ns

/-- A serial at two seats. -/
def serialRepeat : List (Option Serial) → Bool
  | [] => false
  | none :: xs => serialRepeat xs
  | some x :: xs => xs.contains (some x) || serialRepeat xs

/-- The map would hold a serial twice, or the request names a seat twice (01 R4). -/
def State.mapDuplicate (s : State) (es : List SeatMapEntry) : Bool :=
  hasRepeat (es.map (·.seat)) || serialRepeat ((writeMap es s).seats.map (·.serial))

/-- A station that is bound to no seat any more is sent a cleared nameplate, through the position that it still
occupies and whatever its link (01 R5, 08 R152; log entry 54). -/
def clearStation (d : Binding) (s : State) : State :=
  if (s.seatAt? d).isNone && (s.entry? d).isSome then
    handOn ⟨.plate d, Fmt.nameplate (Fmt.clearedPlate (s.pwr.state == .active))⟩ s
  else s

/-- Two seats with the same map fields. -/
def sameMap (a b : SeatRec) : Bool :=
  a.serial == b.serial && a.side == b.side && a.trim == b.trim && a.neighbours == b.neighbours

/-- The fields of an entry without its side. -/
def SeatRec.writeRest (e : SeatMapEntry) (r : SeatRec) : SeatRec := { r.writeMap e with side := r.side }

/-- The side of an entry. -/
def SeatRec.writeSide (e : SeatMapEntry) (r : SeatRec) : SeatRec := { r with side := mapSide e }

/-- An accepted SEAT_MAP: the seats whose serials changed bind again before the sides are taken (01 R5). -/
def applyMap (es : List SeatMapEntry) (s : State) : State :=
  let t := writeMap es s
  let moved := (es.map (·.seat)).filter (fun n => (s.seat n).serial != (t.seat n).serial)
  let changed := (es.map (·.seat)).filter (fun n => !sameMap (s.seat n) (t.seat n))
  let s' := forAll es (fun e => State.modSeat e.seat (SeatRec.writeRest e)) s
  let s' := forAll moved bindSeat s'
  let s' := forAll (moved.filterMap (fun n => (s.seat n).binding)) clearStation s'
  forAll changed seatMapReport (forAll es (fun e => State.modSeat e.seat (SeatRec.writeSide e)) s')

/-- SEAT_MAP at the calendar (01 R4). -/
def seatMap (es : List SeatMapEntry) (s : State) : State × Reply :=
  if es.isEmpty || 4 < es.length || es.any mapEntryBad then refusal .range s
  else if es.any s.mapLocked then refusal .locked s
  else if s.mapDuplicate es then refusal .duplicate s
  else done (applyMap es s)

/-- SEAT_MAP (01 R4). -/
def execSeatMap (h : Head) (body : Body (List SeatMapEntry)) (s : State) : Host.Outcome State Fault Refusal :=
  finish s (handle h (.seatMap h body) body seatMap s)

/-! ## CHECK_IN (01 R13) -/

/-- An accepted CHECK_IN (01 R13, R14). -/
def checkInSeat (n : Nat) (s : State) : State :=
  cardReport n 0 .present none .console true (becomePresent n .console s)

/-- CHECK_IN at the calendar. -/
def checkIn (n : Nat) (s : State) : State × Reply :=
  if badSeat n then refusal .range s
  else if !(s.meeting (s.seatFloor n)).state.takesCards then refusal .state s
  else if (s.seat n).role == .none then refusal .notFound s
  else if (s.seat n).presence != .absent then refusal .already s
  else done (checkInSeat n s)

/-- CHECK_IN (01 R13). -/
def execCheckIn (h : Head) (body : Body Nat) (s : State) : Host.Outcome State Fault Refusal :=
  finish s (handle h (.checkIn h body) body checkIn s)

/-! ## ROSTER_EDIT (01 R7, R8) -/

/-- The role that an edit gives, if its code is listed. -/
def editRole (a : RosterArg) : Option Role := roleOfCode a.role

/-- The RANGE check of an edit (01 R7, 12 R205). -/
def editBad (a : RosterArg) : Bool :=
  badSeat a.seat || (editRole a).isNone || a.delegate.fails DelegateArg.bad ||
  (editRole a == some .none && a.delegate.present)

/-- The LOCKED check (01 R7). -/
def State.editLocked (s : State) (n : Nat) (role : Role) : Bool :=
  match (s.meeting (s.seatFloor n)).state with
  | .checkIn | .inSession | .overrun => role == .none || (s.seat n).role != .none
  | .walkIn | .vacant | .preparing => false

/-- The ROSTER check (01 R7). -/
def State.editClashes (s : State) (n : Nat) (role : Role) (card : Option CardId) : Bool :=
  ((s.floorSeats (s.seatFloor n)).filter (· != n)).any (fun m =>
    (role.isChair && (s.seat m).role == role) ||
    (card.isSome && ((s.seat m).delegate.map (·.card)) == card))

/-- A chair role was lost or exchanged while the seat holds an entry; or a queued seat has become a chair seat (01
R8; the KEY cause: log entry 20). -/
def editHold (n : Nat) (old new : Role) (s : State) : State :=
  match (s.seat n).floorState with
  | .priority | .priorityWait => if old.isChair && old != new then endEntry n .role (s.seatFloor n) s else s
  | .queued => if new.isChair then dequeue n .release (some .role) s else s
  | .idle | .speaking | .suspended => s

/-- A speaking seat whose allowance has changed to one that is used up is closed (01 R8, 03 R64). -/
def editAllowance (n : Nat) (old : Option Nat) (s : State) : State :=
  if (s.seat n).delegate.bind (·.allowance) != old && (s.seat n).floorState == .speaking && (s.seat n).exhausted then closeTurn n .allowance .allowance s else s

/-- The consequences of an edit in the seat's floor controller (01 R8). -/
def editConsequences (n : Nat) (old : SeatRec) (role : Role) (s : State) : State :=
  if role == .none then forcedRelease n .role s
  else editAllowance n (old.delegate.bind (·.allowance)) (editHold n old.role role s)

/-- An accepted ROSTER_EDIT: the fields are written, the floor controller applies its consequences, and the change
becomes a SEAT report (01 R6 to R8). -/
def applyEdit (n : Nat) (role : Role) (d : Option Delegate) (s : State) : State :=
  let old := s.seat n
  let s := editConsequences n old role (s.modSeat n (fun r => { r with role := role, delegate := d }))
  if old.role == role && old.delegate == d then s else rosterReport n s

/-- ROSTER_EDIT at the calendar (01 R7). -/
def rosterEdit (a : RosterArg) (s : State) : State × Reply := match editRole a with
  | none => refusal .range s
  | some role =>
    if editBad a then refusal .range s
    else if !s.runs (s.seatFloor a.seat) then refusal .state s
    else if s.editLocked a.seat role then refusal .locked s
    else if s.editClashes a.seat role (a.record.map (·.card)) then refusal .roster s
    else done (applyEdit a.seat role a.record s)

/-- ROSTER_EDIT (01 R7). -/
def execRosterEdit (h : Head) (body : Body RosterArg) (s : State) : Host.Outcome State Fault Refusal :=
  finish s (handle h (.rosterEdit h body) body rosterEdit s)

end Sys2Proof.Machine
end

