-- ==== Sys2Proof/Machine/Floors.lean ====
section
/-! DEFINITION. The meanings of the requests about a running floor: FLOOR_SET, GRANT, CLOSE_SEAT, CLEAR_QUEUE (02),
PRIORITY_END (03), GATE_SET (04), MIX_SET and LINE_SET (05). -/

namespace Sys2Proof.Machine

/-! ## FLOOR_SET (02 R21, R41, R42) -/

/-- Every queue entry becomes IDLE, from the head. -/
def emptyQueue (f : Floor) (c : KeyCause) (s : State) : State :=
  forAll (s.floor f).queue (fun n => dequeue n c none) s

/-- The release counts of a floor's speakers begin or are cancelled (02 R35, R41). -/
def setReleases (f : Floor) (x : Option Nat) (s : State) : State :=
  forAll (s.floor f).grantOrder (fun n => State.modSeat n (fun r => { r with release := x })) s

/-- To VOICE (02 R41). -/
def changeToVoice (f : Floor) (s : State) : State := setReleases f (some 0) (emptyQueue f .mode s)

/-- To CHAIR_ONLY (02 R41). The suspended seats leave from the head of the suspension list (log entry 57). -/
def changeToChairOnly (f : Floor) (s : State) : State :=
  let speakers := (s.floor f).grantOrder.filter (fun n => !(s.seat n).role.isChair)
  let suspended := ((s.floor f).susp.map (·.seat)).filter (fun n => !(s.seat n).role.isChair)
  forAll suspended (fun n => endSuspended n .mode none) (forAll speakers (fun n => close n .mode none) s)

/-- To OPEN (02 R41). -/
def changeToOpen (f : Floor) (s : State) : State := emptyQueue f .mode (grantQueue f .mode 8 s)

/-- The effects of a mode change, with the grant pass that ends them (02 R41). The new mode has been written. -/
def changeMode (f : Floor) (old new : Mode) (s : State) : State :=
  if old == new then s
  else
    let s := if old == .voice then setReleases f none s else s
    let s := match new with
      | .voice => changeToVoice f s
      | .chairOnly => changeToChairOnly f s
      | .openMic => changeToOpen f s
      | .request => s
    grantPass f s

/-- The latest-granted speakers over the limit are closed, from the tail (02 R42). -/
def closeOverLimit (f : Floor) (s : State) : State :=
  let r := s.floor f
  forAll (r.grantOrder.drop r.settings.openMicLimit).reverse (fun n => close n .limit none) s

/-- Running release counts are judged against a new voice release time (02 R21). -/
def judgeReleases (f : Floor) (old new : FloorSettings) (s : State) : State :=
  if new.mode == .voice && old.voiceRelease != new.voiceRelease then releaseVoices f s else s

/-- An accepted FLOOR_SET (02 R21). -/
def applyFloorSet (f : Floor) (a : FloorSettingsArg) (s : State) : State :=
  let old := (s.floor f).settings
  let new := a.write old
  let s := s.modFloor f (fun r => { r with settings := new })
  grantPass f (judgeReleases f old new (closeOverLimit f (changeMode f old.mode new.mode s)))

/-- FLOOR_SET at the floor controller (02 R21). -/
def floorSet (a : FloorSetArg) (s : State) : State × Reply := match floorOfCode a.floor with
  | none => refusal .range s
  | some f =>
    if a.settings.nonePresent || a.settings.bad then refusal .range s
    else if !s.runs f then refusal .state s
    else done (applyFloorSet f a.settings s)

/-- FLOOR_SET (02 R21). -/
def execFloorSet (h : Head) (body : Body FloorSetArg) (s : State) : Host.Outcome State Fault Refusal :=
  finish s (handle h (.floorSet h body) body floorSet s)

/-! ## GRANT, CLOSE_SEAT, CLEAR_QUEUE (02 R37 to R39) -/

/-- The seat that GRANT means: the head of the queue for 0. -/
def State.grantTarget (s : State) (f : Floor) (n : Nat) : Option Nat :=
  if n = 0 then (s.floor f).queue.head? else if (s.floor f).queue.contains n then some n else none

/-- The STATE check of GRANT (02 R37). -/
def State.grantBarred (s : State) (f : Floor) (n : Nat) : Bool :=
  !s.live f || (s.floor f).settings.mode != .request || s.holdActive f || (n != 0 && s.seatLink n == .lost)

/-- GRANT at the floor controller (02 R37). -/
def grantRequest (a : GrantArg) (s : State) : State × Reply := match floorOfCode a.floor with
  | none => refusal .range s
  | some f =>
    if 48 < a.seat then refusal .range s
    else if s.grantBarred f a.seat then refusal .state s
    else match s.grantTarget f a.seat with
      | none => refusal .notQueued s
      | some n => if !s.slotFree f then refusal .full s else done (grantPass f (grant n .console s))

/-- GRANT (02 R37). -/
def execGrant (h : Head) (body : Body GrantArg) (s : State) : Host.Outcome State Fault Refusal :=
  finish s (handle h (.grant h body) body grantRequest s)

/-- CLOSE_SEAT at the floor controller (02 R38). -/
def closeSeat (n : Nat) (s : State) : State × Reply :=
  let f := s.seatFloor n
  if badSeat n then refusal .range s
  else if !s.live f || s.seatLink n == .lost then refusal .state s
  else match (s.seat n).floorState with
    | .priority | .priorityWait => refusal .state s
    | .idle => refusal .already s
    | .speaking => done (grantPass f (close n .console none s))
    | .queued => done (grantPass f (dequeue n .console none s))
    | .suspended => done (grantPass f (endSuspended n .console none s))

/-- CLOSE_SEAT (02 R38). -/
def execCloseSeat (h : Head) (body : Body Nat) (s : State) : Host.Outcome State Fault Refusal :=
  finish s (handle h (.closeSeat h body) body closeSeat s)

/-- CLEAR_QUEUE at the floor controller (02 R39). -/
def clearQueue (k : Nat) (s : State) : State × Reply := match floorOfCode k with
  | none => refusal .range s
  | some f => if !s.live f then refusal .state s else done (emptyQueue f .console s)

/-- CLEAR_QUEUE (02 R39). -/
def execClearQueue (h : Head) (body : Body Nat) (s : State) : Host.Outcome State Fault Refusal :=
  finish s (handle h (.clearQueue h body) body clearQueue s)

/-! ## PRIORITY_END (03 R58) -/

/-- PRIORITY_END at the floor controller (03 R58). -/
def priorityEnd (k : Nat) (s : State) : State × Reply := match floorOfCode k with
  | none => refusal .range s
  | some f =>
    if !s.live f then refusal .state s
    else if !s.holdActive f then refusal .already s
    else done (endAllEntries .console f s)

/-- PRIORITY_END (03 R58). -/
def execPriorityEnd (h : Head) (body : Body Nat) (s : State) : Host.Outcome State Fault Refusal :=
  finish s (handle h (.priorityEnd h body) body priorityEnd s)

/-! ## GATE_SET (04 R72), MIX_SET (05 R99) -/

/-- GATE_SET at the voice detector (04 R71, R72). -/
def gateSet (a : GateSetArg) (s : State) : State × Reply := match floorOfCode a.floor with
  | none => refusal .range s
  | some f =>
    if a.settings.nonePresent || a.settings.bad then refusal .range s
    else if !s.runs f then refusal .state s
    else done (s.modFloor f (fun r => { r with gate := a.settings.write r.gate }))

/-- GATE_SET (04 R72). -/
def execGateSet (h : Head) (body : Body GateSetArg) (s : State) : Host.Outcome State Fault Refusal :=
  finish s (handle h (.gateSet h body) body gateSet s)

/-- MIX_SET at the mix engine (05 R99). -/
def mixSet (a : MixSetArg) (s : State) : State × Reply := match floorOfCode a.floor with
  | none => refusal .range s
  | some f =>
    if a.settings.nonePresent || a.settings.bad then refusal .range s
    else if !s.runs f then refusal .state s
    else done (s.modFloor f (fun r => { r with mix := a.settings.write r.mix }))

/-- MIX_SET (05 R99). -/
def execMixSet (h : Head) (body : Body MixSetArg) (s : State) : Host.Outcome State Fault Refusal :=
  finish s (handle h (.mixSet h body) body mixSet s)

/-! ## LINE_SET (05 R101) -/

/-- The RANGE check of LINE_SET. -/
def lineSetBad (a : LineSetArg) : Bool :=
  a.line = 0 || 2 < a.line ||
  !(a.serial.present || a.assignment.present || a.trim.present || a.level.present) ||
  serialFails a.serial || a.assignment.unlisted floorOfCode || a.trim.isBad || a.level.isBad

/-- The serial that a request gives to a record, if it gives one. -/
def givenSerial (m : Mark (Mark Serial)) : Option Serial := m.toOption.bind (·.toOption)

/-- The written fields of a line record (05 R101). -/
def LineRec.write (a : LineSetArg) (r : LineRec) : LineRec :=
  { r with serial := writeSerial a.serial r.serial, assignment := a.assignment.writeNamed floorOfCode r.assignment,
           trim := a.trim.write (clampInt (-24) 24) r.trim, level := a.level.write (clampInt (-80) 0) r.level }

/-- An accepted LINE_SET; a changed serial binds at once (05 R100, R102). -/
def applyLineSet (a : LineSetArg) (s : State) : State :=
  let t := s.modLine a.line (LineRec.write a)
  if (t.line a.line).serial == (s.line a.line).serial then t else bindLine a.line t

/-- LINE_SET at the mix engine (05 R101). -/
def lineSet (a : LineSetArg) (s : State) : State × Reply :=
  if lineSetBad a then refusal .range s
  else if (givenSerial a.serial).isSome && givenSerial a.serial == (s.line (3 - a.line)).serial then
    refusal .duplicate s
  else done (applyLineSet a s)

/-- LINE_SET (05 R101). -/
def execLineSet (h : Head) (body : Body LineSetArg) (s : State) : Host.Outcome State Fault Refusal :=
  finish s (handle h (.lineSet h body) body lineSet s)

end Sys2Proof.Machine
end

