-- ==== Sys2Proof/Machine/Calendar.lean ====
section
/-! DEFINITION. The meanings of the requests of the partition monitor (06) and the calendar (07), and of the staging's
part timeout. -/

namespace Sys2Proof.Machine

/-! ## WALL_MODE (06 R108) -/

/-- The target that a FORCE mode gives. -/
def WallMode.forced : WallMode → Option Partition
  | .follow => none
  | .forceCombined => some .combined
  | .forceSplit => some .split

/-- A settle value: OPEN or CLOSED with count 0, or none (06 R107, R108). -/
def settleFrom (r : WallReading) : Option (WallReading × Nat) := match r with
  | .opened | .closed => some (r, 0)
  | .moving | .absent => none

/-- A mode other than the one in force (06 R108). -/
def applyWallMode (m : WallMode) (s : State) : State := match m.forced with
  | some t => setTarget t .console { s with part := { s.part with mode := m, settle := none, settled := false } }
  | none => { s with part := { s.part with mode := m, settle := settleFrom s.part.reading, settled := false } }

/-- WALL_MODE at the partition monitor. -/
def wallMode (k : Nat) (s : State) : State × Reply := match wallModeOfCode k with
  | none => refusal .range s
  | some m => if s.part.mode == m then done s else done (applyWallMode m s)

/-- WALL_MODE (06 R108). -/
def execWallMode (h : Head) (body : Body Nat) (s : State) : Host.Outcome State Fault Refusal :=
  finish s (handle h (.wallMode h body) body wallMode s)

/-! ## CLOCK_SET (07 R118), PROFILE_SET (07 R119) -/

/-- CLOCK_SET at the calendar. -/
def clockSet (a : ClockSetArg) (s : State) : State × Reply :=
  if 59 < a.second || 16777215 < a.minute then refusal .range s
  else done (evaluationPass { s with clock := some { minute := a.minute, second := a.second, ms := 0 } })

/-- CLOCK_SET (07 R118). -/
def execClockSet (h : Head) (body : Body ClockSetArg) (s : State) : Host.Outcome State Fault Refusal :=
  finish s (handle h (.clockSet h body) body clockSet s)

/-- The present settings, clamped, written over a profile's (07 R119). -/
def Profile.write (a : ProfileSetArg) (p : Profile) : Profile :=
  { floor := a.floor.write p.floor, gate := a.gate.write p.gate, mix := a.mix.write p.mix,
    lead := a.lead.write (clampNat 0 30) p.lead }

/-- The RANGE check of PROFILE_SET. -/
def profileSetBad (a : ProfileSetArg) : Bool :=
  7 < a.profile || (a.floor.nonePresent && a.gate.nonePresent && a.mix.nonePresent && !a.lead.present) ||
  a.floor.bad || a.gate.bad || a.mix.bad || a.lead.isBad

/-- PROFILE_SET at the calendar. -/
def profileSet (a : ProfileSetArg) (s : State) : State × Reply :=
  if profileSetBad a then refusal .range s
  else done { s with profiles := s.profiles.modify a.profile (Profile.write a) }

/-- PROFILE_SET (07 R119). -/
def execProfileSet (h : Head) (body : Body ProfileSetArg) (s : State) : Host.Outcome State Fault Refusal :=
  finish s (handle h (.profileSet h body) body profileSet s)

/-! ## Staging (07 R123 to R126) -/

/-- The source that a staging belongs to. -/
def Staging.source? : Staging → Option Octet
  | .idle => none
  | .staging src _ _ _ => some src
  | .failed src _ _ _ => some src

/-- More than one of a chair role. -/
def rosterChairs (role : Role) (r : List RosterEntry) : Bool := 1 < (r.filter (·.role == role)).length

/-- Two delegate records with one card id. -/
def cardRepeat : List RosterEntry → Bool
  | [] => false
  | e :: es => (e.delegate.isSome && es.any (fun x => (x.delegate.map (·.card)) == (e.delegate.map (·.card)))) ||
      cardRepeat es

/-- The ROSTER check of the commit (07 R125). -/
def rosterFails (r : List RosterEntry) : Bool :=
  rosterChairs .chair r || rosterChairs .viceChair r || r.any (fun e => badSeat e.seat) ||
  hasRepeat (r.map (·.seat)) || cardRepeat r

/-- The commit of a whole booking: its answer, its report and the pass (07 R125). -/
def commit (h : Head) (b : Booking) (s : State) : State × Reply :=
  let fail (c : Code) : State × Reply :=
    ({ s with staging := .failed h.source { b with roster := [] } c 0 }, .now c [])
  if rosterFails b.roster then fail .roster
  else if s.conflicts 0 b.scope b.start b.stop then fail .conflict
  else
    let s := answer h .booked [] { s with bookings := insertBooking b s.bookings, staging := .idle }
    (evaluationPass (bookingReport .booked b.id (s.servingFloor b) [] s), .later)

/-- The RANGE check of BOOK_BEGIN (07 R123, 12 R205). -/
def bookBeginBad (a : BookBeginArg) : Bool :=
  a.id = 0 || a.title.fails (badText 32) || a.stop < a.start + 15 || a.start + 720 < a.stop ||
  (scopeOfCode a.scope).isNone || 7 < a.profile || 60 < a.window || 60 < a.overrun || 48 < a.n

/-- The booking of a BOOK_BEGIN, with the lead of its profile (07 R120). -/
def State.newBooking (s : State) (a : BookBeginArg) : Booking :=
  { id := a.id, title := a.title.toOption, start := a.start, stop := a.stop,
    scope := (scopeOfCode a.scope).getD .A, profile := a.profile, lead := (s.profile a.profile).lead,
    window := a.window, overrun := a.overrun, roster := [], state := .scheduled, runtime := none, extended := false }

/-- The checks after a restart, and the new staging (07 R123). -/
def beginStaging (h : Head) (a : BookBeginArg) (s : State) : State × Reply :=
  let b := s.newBooking a
  if s.clock.isNone then refusal .state s
  else if bookBeginBad a then refusal .range s
  else if a.start < s.minute then refusal .past s
  else if (s.booking? a.id).isSome then refusal .duplicate s
  else if s.conflicts 0 b.scope b.start b.stop then refusal .conflict s
  else if 64 ≤ s.bookings.length then refusal .full s
  else if 768 < s.poolInUse + a.n then refusal .noRoom s
  else if a.n = 0 then commit h b s
  else ({ s with staging := .staging h.source b a.n 0 }, .now .staged [])

/-- BOOK_BEGIN at the calendar (07 R123). -/
def bookBegin (h : Head) (a : BookBeginArg) (s : State) : State × Reply := match s.staging.source? with
  | some src => if src = h.source then beginStaging h a { s with staging := .idle } else refusal .busy s
  | none => beginStaging h a s

/-- BOOK_BEGIN (07 R123). -/
def execBookBegin (h : Head) (body : Body BookBeginArg) (s : State) : Host.Outcome State Fault Refusal :=
  finish s (handle h (.bookBegin h body) body (bookBegin h) s)

/-- An entry that fails its part (07 R124). -/
def partEntryBad (e : RosterArg) : Bool :=
  (roleOfCode e.role).isNone || e.role = 0 || e.delegate.fails DelegateArg.bad

/-- The roster entry of a part's entry, its allowance clamped (07 R122, R124). -/
def partEntry (e : RosterArg) : RosterEntry :=
  { seat := e.seat, role := (roleOfCode e.role).getD .none, delegate := e.record }

/-- A part for a staging of `n` entries from its own source (07 R124). -/
def takePart (h : Head) (es : List RosterArg) (b : Booking) (n timer : Nat) (s : State) : State × Reply :=
  if es.isEmpty || 8 < es.length || n < b.roster.length + es.length || es.any partEntryBad then
    ({ s with staging := .failed h.source { b with roster := [] } .range timer }, .now .range [])
  else
    let b := { b with roster := b.roster ++ es.map partEntry }
    if b.roster.length < n then
      ({ s with staging := .staging h.source b n 0 }, .now .partOk (Fmt.o1 (n - b.roster.length)))
    else commit h b s

/-- ROSTER_PART at the calendar (07 R124). -/
def rosterPart (h : Head) (es : List RosterArg) (s : State) : State × Reply := match s.staging with
  | .idle => refusal .state s
  | .staging src b n timer => if src = h.source then takePart h es b n timer s else refusal .busy s
  | .failed src b code _ =>
    if src = h.source then ({ s with staging := .failed src b code 0 }, .now code []) else refusal .busy s

/-- ROSTER_PART (07 R124). -/
def execRosterPart (h : Head) (body : Body (List RosterArg)) (s : State) : Host.Outcome State Fault Refusal :=
  finish s (handle h (.rosterPart h body) body (rosterPart h) s)

/-- BOOK_ABORT at the calendar (07 R126). -/
def bookAbort (h : Head) (_ : Unit) (s : State) : State × Reply := match s.staging.source? with
  | none => refusal .already s
  | some src => if src = h.source then done { s with staging := .idle } else refusal .busy s

/-- BOOK_ABORT (07 R126). -/
def execBookAbort (h : Head) (body : Body Unit) (s : State) : Host.Outcome State Fault Refusal :=
  finish s (handle h (.bookAbort h body) body (bookAbort h) s)

/-- STAGING_PART_TIMEOUT (07 R126): the part timer has reached 2,000 ms. -/
def execStagingPartTimeout (s : State) : Host.Outcome State Fault Refusal := finish s { s with staging := .idle }

/-! ## CANCEL (07 R134), EXTEND (07 R133) -/

/-- The floor that prepares or runs a booking. -/
def State.floorServing (s : State) (id : Nat) : Option Floor :=
  [Floor.A, .B].find? (fun f => (s.meeting f).served == some id)

/-- CANCEL at the calendar (07 R134). -/
def cancel (id : Nat) (s : State) : State × Reply :=
  if id = 0 then refusal .range s
  else match s.booking? id with
    | none => refusal .notFound s
    | some b => match s.floorServing id with
      | some f => done (endMeetingNow f .cancelled s)
      | none => done (evaluationPass (releaseBooking b .cancelled s))

/-- CANCEL (07 R134). -/
def execCancel (h : Head) (body : Body Nat) (s : State) : Host.Outcome State Fault Refusal :=
  finish s (handle h (.cancel h body) body cancel s)

/-- The booking that a floor serves. -/
def State.servedBooking (s : State) (f : Floor) : Option Booking := (s.meeting f).served.bind s.booking?

/-- The states in which a booked meeting may be extended (07 R133). -/
def MeetingState.extendable : MeetingState → Bool
  | .inSession | .overrun => true
  | .vacant | .walkIn | .preparing | .checkIn => false

/-- An accepted extension (07 R133). -/
def applyExtend (f : Floor) (b : Booking) (stop : Nat) (s : State) : State :=
  let warn := !(s.minute + 5 < stop)
  let s := s.modBooking b.id (fun x => { x with stop := stop, extended := true })
  let s := s.modMeeting f (fun m =>
    { m with state := .inSession, deadline := none, endWarning := m.endWarning && warn })
  bookingReport .extended b.id (some f) (Fmt.o3 stop) s

/-- EXTEND at the calendar (07 R133). -/
def extend (a : ExtendArg) (s : State) : State × Reply := match floorOfCode a.floor with
  | none => refusal .range s
  | some f =>
    if a.minutes < 15 || 120 < a.minutes then refusal .range s
    else match s.servedBooking f with
      | none => refusal .state s
      | some b =>
        let stop := b.stop + a.minutes
        if 16777215 < stop then refusal .range s
        else if !(s.meeting f).state.extendable then refusal .state s
        else if b.extended then refusal .already s
        else if stop ≤ s.minute then refusal .past s
        else if s.conflicts b.id b.scope b.stop stop then refusal .conflict s
        else done (applyExtend f b stop s)

/-- EXTEND (07 R133). -/
def execExtend (h : Head) (body : Body ExtendArg) (s : State) : Host.Outcome State Fault Refusal :=
  finish s (handle h (.extend h body) body extend s)

/-! ## WALKIN_START (07 R135), SESSION_END (07 R136) -/

/-- WALKIN_START at the calendar (07 R135). -/
def walkinStart (k : Nat) (s : State) : State × Reply := match floorOfCode k with
  | none => refusal .range s
  | some f =>
    if s.dormant f || (s.meeting f).state != .vacant then refusal .state s
    else done (startWalkin f (calendarWake s))

/-- WALKIN_START (07 R135). -/
def execWalkinStart (h : Head) (body : Body Nat) (s : State) : Host.Outcome State Fault Refusal :=
  finish s (handle h (.walkinStart h body) body walkinStart s)

/-- SESSION_END at the calendar (07 R136). -/
def sessionEnd (k : Nat) (s : State) : State × Reply := match floorOfCode k with
  | none => refusal .range s
  | some f => if !s.runs f then refusal .state s else done (endMeetingNow f .ended s)

/-- SESSION_END (07 R136). -/
def execSessionEnd (h : Head) (body : Body Nat) (s : State) : Host.Outcome State Fault Refusal :=
  finish s (handle h (.sessionEnd h body) body sessionEnd s)

end Sys2Proof.Machine
end

