-- ==== Sys2Proof/Machine/Screens.lean ====
section
/-! DEFINITION. The meanings of the requests of the screen director: SCREEN_SET, LAYOUT_SET and CAMERA_SET (08). -/

namespace Sys2Proof.Machine

/-! ## SCREEN_SET (08 R143) -/

/-- The RANGE check of SCREEN_SET. -/
def screenSetBad (a : ScreenSetArg) : Bool :=
  a.screen = 0 || 8 < a.screen || !(a.serial.present || a.floor.present || a.warmup.present) ||
  serialFails a.serial || a.floor.unlisted floorOfCode || a.warmup.isBad

/-- Another screen has the serial. -/
def State.screenDuplicate (s : State) (k : Nat) (x : Option Serial) : Bool :=
  x.isSome && ((List.range' 1 8).filter (· != k)).any (fun j => (s.screen j).serial == x)

/-- The written fields of a screen record. -/
def ScreenRec.write (a : ScreenSetArg) (r : ScreenRec) : ScreenRec :=
  { r with serial := writeSerial a.serial r.serial, floor := a.floor.writeNamed floorOfCode r.floor,
           warmup := a.warmup.write (clampNat 0 120) r.warmup }

/-- Waiting directives for a target are discarded (08 R151). -/
def dropTarget (t : Target) (s : State) : State :=
  { s with sd := { s.sd with waiting := s.sd.waiting.filter (fun d => d.target != t) } }

/-- A screen with a changed serial becomes OFF and binds again; nothing is sent to the node before (08 R143). -/
def rebindScreen (k : Nat) (s : State) : State := bindScreen k (dropTarget (.screenPower k) (restScreen k .off s))

/-- An accepted SCREEN_SET. -/
def applyScreenSet (a : ScreenSetArg) (s : State) : State :=
  let t := s.modScreen a.screen (ScreenRec.write a)
  if (t.screen a.screen).serial == (s.screen a.screen).serial then t else rebindScreen a.screen t

/-- SCREEN_SET at the screen director. -/
def screenSet (a : ScreenSetArg) (s : State) : State × Reply :=
  if screenSetBad a then refusal .range s
  else if s.screenDuplicate a.screen (givenSerial a.serial) then refusal .duplicate s
  else done (applyScreenSet a s)

/-- SCREEN_SET (08 R143). -/
def execScreenSet (h : Head) (body : Body ScreenSetArg) (s : State) : Host.Outcome State Fault Refusal :=
  finish s (handle h (.screenSet h body) body screenSet s)

/-! ## LAYOUT_SET (08 R147) -/

/-- Conditions that pass the RANGE check. The meeting states are a set: they are held in the order of their codes, each
once (log entry 59). -/
def readLayout (a : LayoutArg) : Option LayoutConds :=
  match speakersCondOfCode a.speakers, holdCondOfCode a.hold, queueCondOfCode a.queue, warnCondOfCode a.warning with
  | some sp, some h, some q, some w =>
    if a.states.isEmpty || a.states.any (fun n => (meetingStateOfCode n).isNone) || a.layout = 0 || 15 < a.layout then
      none
    else some { states := meetingStates.filter (a.states.filterMap meetingStateOfCode).contains, speakers := sp,
                hold := h, queue := q, warning := w, layout := a.layout }
  | _, _, _, _ => none

/-- The rule that a request gives: EMPTY for absent conditions (12 R209). -/
def givenRule (m : Mark LayoutArg) : Option (Option LayoutConds) := match m with
  | .bad => none
  | .absent => some none
  | .given a => (readLayout a).map some

/-- LAYOUT_SET at the screen director. -/
def layoutSet (a : LayoutSetArg) (s : State) : State × Reply :=
  if a.rule = 0 || 16 < a.rule then refusal .range s
  else match givenRule a.conditions with
    | none => refusal .range s
    | some r => done { s with sd := { s.sd with layouts := s.sd.layouts.set (a.rule - 1) r } }

/-- LAYOUT_SET (08 R147). -/
def execLayoutSet (h : Head) (body : Body LayoutSetArg) (s : State) : Host.Outcome State Fault Refusal :=
  finish s (handle h (.layoutSet h body) body layoutSet s)

/-! ## CAMERA_SET (08 R154) -/

/-- A camera outside 1..4. -/
def badCamera (k : Nat) : Bool := k = 0 || 4 < k

/-- The RANGE check of the camera form. -/
def cameraSetBad (a : CameraSetArg) : Bool :=
  badCamera a.camera ||
  !(a.serial.present || a.floor.present || a.overview.present || a.cutDelay.present || a.minimumHold.present ||
    a.returnDelay.present) ||
  serialFails a.serial || a.floor.unlisted floorOfCode || a.overview.fails (fun n => n = 0 || 31 < n) ||
  a.cutDelay.isBad || a.minimumHold.isBad || a.returnDelay.isBad

/-- Another camera has the serial. -/
def State.cameraDuplicate (s : State) (k : Nat) (x : Option Serial) : Bool :=
  x.isSome && ((List.range' 1 4).filter (· != k)).any (fun j => (s.camera j).serial == x)

/-- The written fields of a camera record. -/
def CameraRec.write (a : CameraSetArg) (c : CameraRec) : CameraRec :=
  { c with serial := writeSerial a.serial c.serial, floor := a.floor.writeNamed floorOfCode c.floor,
           overview := a.overview.write id c.overview, cutDelay := a.cutDelay.write (clampNat 500 5000) c.cutDelay,
           minimumHold := a.minimumHold.write (clampNat 2 30) c.minimumHold,
           returnDelay := a.returnDelay.write (clampNat 1 30) c.returnDelay }

/-- A camera with a changed serial binds again, and is aimed when it is found (08 R142, R154, R158). -/
def rebindCamera (k : Nat) (s : State) : State :=
  bindCamera k (dropTarget (.camera k) (s.modCamera k CameraRec.unreached))

/-- The effects of the other fields on a reachable camera (08 R154, R157). A move of the followed floor removes the
candidate and the quiet count, which were of the other floor (log entry 55). -/
def cameraEffects (k : Nat) (old : CameraRec) (s : State) : State :=
  let c := s.camera k
  if !s.reachable c.binding then s
  else
    let s := if s.followed c.floor == s.followed old.floor then s else restCamera k s
    if c.overview != old.overview && c.shot.isNone then aim k c.overview s else s

/-- An accepted CAMERA_SET in camera form. -/
def applyCameraSet (a : CameraSetArg) (s : State) : State :=
  let t := s.modCamera a.camera (CameraRec.write a)
  if (t.camera a.camera).serial == (s.camera a.camera).serial then cameraEffects a.camera (s.camera a.camera) t
  else rebindCamera a.camera t

/-- CAMERA_SET in camera form at the screen director. -/
def cameraSetCamera (a : CameraSetArg) (s : State) : State × Reply :=
  if cameraSetBad a then refusal .range s
  else if s.cameraDuplicate a.camera (givenSerial a.serial) then refusal .duplicate s
  else done (applyCameraSet a s)

/-- CAMERA_SET in camera form (08 R154). -/
def execCameraSetCamera (h : Head) (body : Body CameraSetArg) (s : State) : Host.Outcome State Fault Refusal :=
  finish s (handle h (.cameraSetCamera h body) body cameraSetCamera s)

/-- The RANGE check of the preset form. -/
def presetSetBad (a : PresetSetArg) : Bool :=
  badCamera a.camera || a.entries.isEmpty || 8 < a.entries.length ||
  a.entries.any (fun e => badSeat e.1 || 31 < e.2)

/-- The presets are written, in order. -/
def writePresets (k : Nat) (es : List (Nat × Nat)) (s : State) : State :=
  forAll es (fun e => State.modSeat e.1 (fun r => { r with presets := r.presets.set (k - 1) e.2 })) s

/-- The seat on shot has another preset (08 R154): the shot start is kept. -/
def presetEffects (k : Nat) (old : State) (s : State) : State :=
  let c := s.camera k
  match c.shot with
  | none => s
  | some n =>
    if !s.reachable c.binding || s.preset n k = old.preset n k then s
    else if s.preset n k = 0 then aim k c.overview (s.modCamera k (fun c => { c with shot := none }))
    else aim k (s.preset n k) s

/-- CAMERA_SET in preset form at the screen director. -/
def cameraSetPreset (a : PresetSetArg) (s : State) : State × Reply :=
  if presetSetBad a then refusal .range s
  else done (presetEffects a.camera s (writePresets a.camera a.entries s))

/-- CAMERA_SET in preset form (08 R154). -/
def execCameraSetPreset (h : Head) (body : Body PresetSetArg) (s : State) : Host.Outcome State Fault Refusal :=
  finish s (handle h (.cameraSetPreset h body) body cameraSetPreset s)

end Sys2Proof.Machine
end

