-- ==== Sys2Proof/Machine/Service.lean ====
section
/-! DEFINITION. The meanings of the requests of the trunk interface (09 R172 to R174), of the lanes and reports (10
R186, R190, R191, R193) and of the power manager (11 R198, R199, R202). -/

namespace Sys2Proof.Machine

/-! ## PATH_TEST (09 R174) -/

/-- The test state at its start (09 R174, R175). -/
def newTest (n : Nat) (d : Binding) (duration : Nat) : PathTest :=
  { seat := n, branch := d.branch, position := d.position, duration := duration, elapsed := 0,
    gen := BitVec.allOnes 15, inSync := false, matchRun := 0, reference := none, window := [], achieved := false,
    mismatches := 0 }

/-- PATH_TEST at the trunk interface. -/
def pathTest (a : PathTestArg) (s : State) : State × Reply :=
  if badSeat a.seat then refusal .range s
  else if s.test.isSome then refusal .busy s
  else match (s.seat a.seat).binding with
    | none => refusal .state s
    | some d =>
      if (s.seat a.seat).floorState != .idle || s.seatLink a.seat == .lost || (s.br d.branch).state != .running then
        refusal .state s
      else done { s with test := some (newTest a.seat d (clampNat 1 60 a.duration)) }

/-- PATH_TEST (09 R174). -/
def execPathTest (h : Head) (body : Body PathTestArg) (s : State) : Host.Outcome State Fault Refusal :=
  finish s (handle h (.pathTest h body) body pathTest s)

/-! ## TEST_INSERT (09 R173) -/

/-- TEST_INSERT at the trunk interface: the answer follows the frame, and the CRU waits for it. -/
def testInsert (h : Head) (a : TestInsertArg) (s : State) : State × Reply := match branchOfCode a.branch with
  | none => refusal .range s
  | some b =>
    if a.position = 0 || 24 < a.position then refusal .range s
    else if (s.br b).state != .running then refusal .state s
    else if (s.entry? ⟨b, a.position⟩).isNone then refusal .notFound s
    else ({ s.modBr b (fun r => { r with insertion := some (a.position, h) }) with
              cru := { s.cru with phase := .testFrame b } }, .later)

/-- TEST_INSERT (09 R173). -/
def execTestInsert (h : Head) (body : Body TestInsertArg) (s : State) : Host.Outcome State Fault Refusal :=
  finish s (handle h (.testInsert h body) body (testInsert h) s)

/-! ## COUNTER_SET (09 R172) -/

/-- The RANGE check of COUNTER_SET. -/
def counterSetBad (a : CounterSetArg) : Bool :=
  !(a.kinds.present || a.mode.present || a.run.present) || a.kinds.fails (·.any (2 < ·)) || a.mode.fails (1 < ·) ||
  a.run.fails (1 < ·)

/-- The present items are written together, and the value is kept. Kinds, mode and run state are named values: MANUAL
0, AUTO 1; RUNNING 0, STOPPED 1. -/
def Counter.write (a : CounterSetArg) (c : Counter) : Counter :=
  { c with slotCheck := a.kinds.write (·.contains 0) c.slotCheck, laneCrc := a.kinds.write (·.contains 1) c.laneCrc,
           lostEntry := a.kinds.write (·.contains 2) c.lostEntry, auto := a.mode.write (· == 1) c.auto,
           running := a.run.write (· == 0) c.running }

/-- COUNTER_SET at the trunk interface. -/
def counterSet (a : CounterSetArg) (s : State) : State × Reply := match branchOfCode a.branch with
  | none => refusal .range s
  | some b =>
    if counterSetBad a then refusal .range s
    else done (s.modBr b (fun r => { r with counter := r.counter.write a }))

/-- COUNTER_SET (09 R172). -/
def execCounterSet (h : Head) (body : Body CounterSetArg) (s : State) : Host.Outcome State Fault Refusal :=
  finish s (handle h (.counterSet h body) body counterSet s)

/-! ## FILTER_SET (10 R186) -/

/-- FILTER_SET at the lane controller. -/
def filterSet (a : FilterSetArg) (s : State) : State × Reply :=
  if a.entry = 0 || 3 < a.entry || a.value.isBad then refusal .range s
  else done { s with filter := s.filter.set a.entry a.value.toOption }

/-- FILTER_SET (10 R186). -/
def execFilterSet (h : Head) (body : Body FilterSetArg) (s : State) : Host.Outcome State Fault Refusal :=
  finish s (handle h (.filterSet h body) body filterSet s)

/-! ## REPORT_TO (10 R190), REPORT_SET (10 R191) -/

/-- The report address is written, without a HELLO (10 R190). -/
def setAddress (set : Bool) (d : Option Binding) (s : State) : State :=
  { s with cru := { s.cru with addressSet := set, address := d } }

/-- REPORT_TO at the CRU: 0x00 is DEFAULT (12 R209). -/
def reportTo (a : Octet) (s : State) : State × Reply :=
  if a = 0 then done (setAddress false (s.lowest .console) s)
  else match bindingOf a with
    | none => refusal .range s
    | some d =>
      if ((s.entry? d).map (·.kind)) == some .console then done (setAddress true (some d) s) else refusal .notFound s

/-- REPORT_TO (10 R190). -/
def execReportTo (h : Head) (body : Body Octet) (s : State) : Host.Outcome State Fault Refusal :=
  finish s (handle h (.reportTo h body) body reportTo s)

/-- A kind with an edge select: CARD 2, GATE 5, LINK 8. -/
def hasEdge (k : Nat) : Bool := k = 2 || k = 5 || k = 8

/-- An item that fails the RANGE check of REPORT_SET. -/
def reportItemBad (i : ReportItem) : Bool :=
  11 < i.kind || i.enable.isBad || i.edge.fails (fun n => !hasEdge i.kind || 1 < n)

/-- One item is written. -/
def Cru.writeItem (c : Cru) (i : ReportItem) : Cru :=
  let c := { c with enables := i.enable.write (fun n => c.enables.set i.kind (flagOf n)) c.enables }
  match i.edge with
  | .given n =>
    if i.kind = 2 then { c with cardEvery := n == 1 }
    else if i.kind = 5 then { c with gateAll := n == 1 }
    else if i.kind = 8 then { c with linkAll := n == 1 }
    else c
  | .absent | .bad => c

/-- REPORT_SET at the CRU. -/
def reportSet (is : List ReportItem) (s : State) : State × Reply :=
  if !is.any (fun i => i.enable.present || i.edge.present) || is.any reportItemBad then refusal .range s
  else done { s with cru := is.foldl Cru.writeItem s.cru }

/-- REPORT_SET (10 R191). -/
def execReportSet (h : Head) (body : Body (List ReportItem)) (s : State) : Host.Outcome State Fault Refusal :=
  finish s (handle h (.reportSet h body) body reportSet s)

/-! ## RESET (10 R193) -/

/-- RESET at the CRU: answered OK, and busy until that answer has been sent or discarded. -/
def resetRequest (h : Head) (_ : Unit) (s : State) : State × Reply :=
  (placeAnswer h.branch (answerMessage h .ok [] .resetAnswer) { s with cru := { s.cru with phase := .resetAnswer } },
    .later)

/-- RESET (10 R193). -/
def execReset (h : Head) (body : Body Unit) (s : State) : Host.Outcome State Fault Refusal :=
  finish s (handle h (.reset h body) body (resetRequest h) s)

/-! ## POWER_SET (11 R202), SLEEP (11 R198), WAKE (11 R199) -/

/-- An enable that is neither on nor off. -/
def badEnable (m : Mark Nat) : Bool := m.fails (1 < ·)

/-- The RANGE check of POWER_SET. -/
def powerSetBad (a : PowerSetArg) : Bool :=
  !(a.delay.present || a.key.present || a.card.present || a.wall.present || a.console.present) || a.delay.isBad ||
  badEnable a.key || badEnable a.card || badEnable a.wall || badEnable a.console

/-- The present items are written together, the idle delay clamped. -/
def Power.write (a : PowerSetArg) (p : Power) : Power :=
  { p with delay := a.delay.write (clampNat 1 120) p.delay, maskKey := a.key.write (· == 1) p.maskKey,
           maskCard := a.card.write (· == 1) p.maskCard, maskWall := a.wall.write (· == 1) p.maskWall,
           maskConsole := a.console.write (· == 1) p.maskConsole }

/-- POWER_SET at the power manager. -/
def powerSet (a : PowerSetArg) (s : State) : State × Reply :=
  if powerSetBad a then refusal .range s else done { s with pwr := s.pwr.write a }

/-- POWER_SET (11 R202). -/
def execPowerSet (h : Head) (body : Body PowerSetArg) (s : State) : Host.Outcome State Fault Refusal :=
  finish s (handle h (.powerSet h body) body powerSet s)

/-- An accepted SLEEP (11 R198). -/
def enterSleep (s : State) : State := toBeacon .b1 (toBeacon .b0 (leaveActive .sleep .sleepRequest (restPower s)))

/-- SLEEP at the power manager. -/
def sleep (_ : Unit) (s : State) : State × Reply := match s.pwr.state with
  | .sleep => refusal .already s
  | .waking => refusal .state s
  | .active | .dim => if s.bothVacant then done (enterSleep s) else refusal .state s

/-- SLEEP (11 R198). -/
def execSleep (h : Head) (body : Body Unit) (s : State) : Host.Outcome State Fault Refusal :=
  finish s (handle h (.sleep h body) body sleep s)

/-- WAKE at the power manager. The OK of a wake from SLEEP is placed once the lanes have stopped (log entry 43). -/
def wake (_ : Unit) (s : State) : State × Reply := match s.pwr.state with
  | .active => done (restPower s)
  | .waking => refusal .already s
  | .dim => if s.pwr.maskConsole then done (becomeActive .console 0 s) else refusal .state s
  | .sleep => if s.pwr.maskConsole then done (beginWaking .console 0 none s) else refusal .state s

/-- WAKE (11 R199). -/
def execWake (h : Head) (body : Body Unit) (s : State) : Host.Outcome State Fault Refusal :=
  finish s (handle h (.wake h body) body wake s)

end Sys2Proof.Machine
end

