-- ==== Sys2Proof/Machine/Status.lean ====
section
/-! DEFINITION. The meanings of STATUS_QUERY (10 R192), with the contents of 01 R15, 02 section 2.1, 04 R70, 05 R103,
06 R115, 07 R140, 08 R159, 09 R178, 11 R203. The layouts follow 12 R209 (log entry 30). -/

namespace Sys2Proof.Machine

/-! ## Items and parts (12 R209) -/

/-- A piece of a status answer: a field outside a list, or a list with its entries. -/
inductive Piece where
  | field (octets : List Octet)
  | entries (l : List (List Octet))
  deriving DecidableEq, Repr

/-- A piece outside any cutting: a list stands behind its count. -/
def Piece.octets : Piece → List Octet
  | .field os => os
  | .entries l => Fmt.list id l

/-- How many items a piece holds; an empty list is its count octet. -/
def Piece.items : Piece → Nat
  | .field _ => 1
  | .entries l => max 1 l.length

/-- The pieces without their first items, which have been returned already. -/
def dropItems : Nat → List Piece → List Piece
  | 0, ps => ps
  | _ + 1, [] => []
  | k + 1, .entries (_ :: e :: es) :: ps => dropItems k (.entries (e :: es) :: ps)
  | k + 1, _ :: ps => dropItems k ps

/-- A part: its octets, and how many items it holds. -/
structure Part where
  items : Nat
  octets : List Octet
  deriving DecidableEq, Repr

/-- A part as it is filled: the parts already full, the octets closed in this one and the items held by it, and the list
it is in, as the number and octets of the entries that this part holds. -/
structure Filling where
  full : List Part
  items : Nat
  closed : List Octet
  inList : Option (Nat × List Octet)
  deriving DecidableEq, Repr

/-- The octets of the part being filled. -/
def Filling.octets (x : Filling) : List Octet := match x.inList with
  | none => x.closed
  | some (k, os) => x.closed ++ Fmt.o1 k ++ os

/-- The room of a part: 60 octets of payload less tag, code and mark. -/
def partRoom : Nat := 57

/-- The part is closed and the next one begins. -/
def Filling.turn (x : Filling) : Filling := { full := x.full ++ [⟨x.items, x.octets⟩], items := 0, closed := [], inList := none }

/-- The list that is being filled ends. -/
def Filling.endList (x : Filling) : Filling := { x with closed := x.octets, inList := none }

/-- A field goes into this part if it fits, else into the next. -/
def Filling.field (os : List Octet) (x : Filling) : Filling :=
  let x := x.endList
  let x := if x.octets.length + os.length ≤ partRoom then x else x.turn
  { x with items := x.items + 1, closed := x.closed ++ os }

/-- An entry joins the list in this part if it fits, else it begins the list in the next part. -/
def Filling.entry (os : List Octet) (x : Filling) : Filling :=
  let own := if x.inList.isSome then 0 else 1
  let x := if x.octets.length + own + os.length ≤ partRoom then x else x.turn
  { x with items := x.items + 1, inList := some (match x.inList with
      | none => (1, os)
      | some (k, o) => (k + 1, o ++ os)) }

/-- A piece is filled in; an empty list is its count octet. -/
def Filling.add (x : Filling) : Piece → Filling
  | .field os => x.field os
  | .entries [] => x.field (Fmt.o1 0)
  | .entries (e :: es) => ((e :: es).foldl (fun x os => x.entry os) x.endList).endList

/-- The parts of an answer: each holds as many whole items as fit (12 R209). -/
def cutParts (ps : List Piece) : List Part :=
  let x := ps.foldl Filling.add { full := [], items := 0, closed := [], inList := none }
  x.full ++ [⟨x.items, x.octets⟩]

/-- The octets of the parts of an answer. -/
def partsOf (ps : List Piece) : List (List Octet) := (cutParts ps).map (·.octets)

/-- The data of part `k`, with the more-follows mark, or NOT_FOUND beyond the last part (10 R192). -/
def partReply (parts : List (List Octet)) (k : Nat) : Reply := match parts[k - 1]? with
  | some os => .now .ok (Fmt.flag (k < parts.length) ++ os)
  | none => .now .notFound []

/-- A query that reads the state as it stands (10 R192). -/
def readPart (k : Nat) (ps : List Piece) (s : State) : State × Reply :=
  if k = 0 then refusal .range s else (s, partReply (partsOf ps) k)

/-! ## SEAT -/

/-- The source of a presence: absent, or CARD 0, CONSOLE 1. -/
def presenceSource : Presence → Option Nat
  | .absent => none
  | .card => some 0
  | .console => some 1

/-- A delegate record. -/
def fmtDelegate (d : Delegate) : List Octet := Fmt.card d.card ++ Fmt.text d.name ++ Fmt.opt Fmt.o2 d.allowance

/-- The seat record with presets and nameplate (01 section 1.1, 08 section 8.2). The presets of the four cameras stand
plain, without a count (log entry 67). -/
def State.seatPieces (s : State) (n : Nat) : List Piece :=
  let r := s.seat n
  let c := s.chan n
  let p := s.plate n
  [.field (Fmt.opt Fmt.serial r.serial), .field (Fmt.floor r.side), .field (Fmt.lev r.trim),
    .entries (r.neighbours.map Fmt.o1), .field (Fmt.opt Fmt.binding r.binding), .field (Fmt.o1 r.role.ctorIdx),
    .field (Fmt.opt fmtDelegate r.delegate), .field (Fmt.opt Fmt.o1 (presenceSource r.presence)),
    .field (Fmt.o1 r.floorState.ctorIdx), .field (Fmt.o1 c.gate.ctorIdx), .field (Fmt.o1 c.band),
    .field (Fmt.o1 c.peak), .field (Fmt.o1 (s.seatLink n).ctorIdx), .field (Fmt.flag (s.underTest n)),
    .field (Fmt.o2 r.accSeconds), .field (Fmt.o1 r.accTurns)] ++
  r.presets.map (fun k => Piece.field (Fmt.o1 k)) ++
  [.field (Fmt.flag p.lit), .field (Fmt.o1 p.role.ctorIdx), .field (Fmt.opt Fmt.text p.name),
    .field (Fmt.flag p.present), .field (Fmt.opt Fmt.o1 p.see), .field (Fmt.opt Fmt.o2 (p.see.map (fun _ => p.count)))]

/-- STATUS_QUERY SEAT. -/
def querySeat (a : SeatQueryArg) (s : State) : State × Reply :=
  if a.part = 0 || badSeat a.seat then refusal .range s else readPart a.part (s.seatPieces a.seat) s

/-- STATUS_QUERY_SEAT (10 R192). -/
def execStatusQuerySeat (h : Head) (body : Body SeatQueryArg) (s : State) : Host.Outcome State Fault Refusal :=
  finish s (handle h (.statusQuerySeat h body) body querySeat s)

/-! ## FLOOR -/

/-- A turn timer. -/
def fmtTurn (t : Turn) : List Octet :=
  Fmt.opt Fmt.o3 t.remaining ++ Fmt.flag t.warned ++ Fmt.flag t.expired ++ Fmt.o2 t.overtime ++ Fmt.o2 t.overtimeRem

/-- The floor settings, in table order (02 section 2.2). -/
def settingsPieces (a : FloorSettings) : List Piece :=
  [.field (Fmt.o1 a.mode.ctorIdx), .field (Fmt.o1 a.openMicLimit), .field (Fmt.o1 a.fullPolicy.ctorIdx),
    .field (Fmt.flag a.autoGrant), .field (Fmt.o2 a.turnLimit), .field (Fmt.o1 a.warnLead),
    .field (Fmt.o1 a.expiryAction.ctorIdx), .field (Fmt.o1 a.priorityStyle.ctorIdx),
    .field (Fmt.o1 a.resumePolicy.ctorIdx), .field (Fmt.o1 a.voiceRelease), .field (Fmt.flag a.presenceRequired),
    .field (Fmt.o1 a.walkinIdle)]

/-- The gate settings, in table order (04 section 4.3, R71). -/
def gatePieces (a : GateSettings) : List Piece :=
  [.field (Fmt.o1 a.openBand), .field (Fmt.o1 a.closeBand), .field (Fmt.o2 a.hangTime)]

/-- A floor record (02 section 2.1, 03, 04 R71): floor and gate settings, queue, grant order, stack, suspension list, the
speakers' turns and release counts, and the refusal displays, as a list of the seats whose display runs (log entry 67). -/
def State.floorPieces (s : State) (f : Floor) : List Piece :=
  let r := s.floor f
  settingsPieces r.settings ++ gatePieces r.gate ++
  [.entries (r.queue.map Fmt.o1), .entries (r.grantOrder.map Fmt.o1),
    .entries (r.stack.map (fun e => Fmt.o1 e.level.ctorIdx ++ Fmt.o1 e.holder ++ Fmt.flag e.latched)),
    .entries (r.susp.map (fun e => Fmt.o1 e.seat ++ fmtTurn e.turn)),
    .entries (r.grantOrder.map (fun n =>
      Fmt.o1 n ++ fmtTurn ((s.seat n).turn.getD (startTurn 0)) ++ Fmt.opt Fmt.o2 (s.seat n).release)),
    .entries ((s.floorSeats f).filterMap (fun n =>
      (s.seat n).refusal.map (fun ms => Fmt.o1 n ++ Fmt.o2 ms)))]

/-- The partition record with its pending mark (06 R115). The settle value and the settle count, two items of 06 section
6.1, are two optional fields, absent together (log entry 67). -/
def State.partPieces (s : State) : List Piece :=
  let p := s.part
  [.field (Fmt.opt Fmt.binding p.source), .field (Fmt.o1 p.reading.ctorIdx),
    .field (Fmt.opt (fun x : WallReading × Nat => Fmt.o1 x.1.ctorIdx) p.settle),
    .field (Fmt.opt (fun x : WallReading × Nat => Fmt.o2 x.2) p.settle),
    .field (Fmt.o1 p.mode.ctorIdx), .field (Fmt.o1 p.target.ctorIdx), .field (Fmt.o1 p.partition.ctorIdx),
    .field (Fmt.flag (p.target != p.partition))]

/-- A screen record with its followed floor (08 R159). -/
def State.fmtScreen (s : State) (r : ScreenRec) : List Octet :=
  Fmt.opt Fmt.serial r.serial ++ Fmt.floor r.floor ++ Fmt.o1 r.warmup ++ Fmt.opt Fmt.binding r.binding ++
  Fmt.floor (s.followed r.floor) ++ Fmt.o1 r.power.ctorIdx ++ Fmt.o1 r.content.layout ++ Fmt.opt Fmt.o4 r.lastShow

/-- A layout rule. -/
def fmtLayout (c : LayoutConds) : List Octet :=
  Fmt.list (fun x : MeetingState => Fmt.o1 x.ctorIdx) c.states ++ Fmt.o1 c.speakers.ctorIdx ++
  Fmt.o1 c.hold.ctorIdx ++ Fmt.o1 c.queue.ctorIdx ++ Fmt.o1 c.warning.ctorIdx ++ Fmt.o1 c.layout

/-- A camera record with its followed floor (08 R159). -/
def State.fmtCamera (s : State) (c : CameraRec) : List Octet :=
  Fmt.opt Fmt.serial c.serial ++ Fmt.floor c.floor ++ Fmt.o1 c.overview ++ Fmt.o2 c.cutDelay ++
  Fmt.o1 c.minimumHold ++ Fmt.o1 c.returnDelay ++ Fmt.opt Fmt.binding c.binding ++ Fmt.floor (s.followed c.floor) ++
  Fmt.opt Fmt.o1 c.shot ++ Fmt.opt Fmt.o4 c.shotStart ++
  Fmt.opt (fun x : Nat × Nat => Fmt.o1 x.1 ++ Fmt.o4 x.2) c.candidate

/-- The answer of STATUS_QUERY FLOOR. -/
def State.roomPieces (s : State) : List Piece :=
  s.floorPieces .A ++ s.floorPieces .B ++ s.partPieces ++
  [.entries (s.sd.screens.map s.fmtScreen), .entries (s.sd.layouts.map (Fmt.opt fmtLayout)),
    .entries (s.sd.cameras.map s.fmtCamera)]

/-- STATUS_QUERY FLOOR. -/
def queryFloor (k : Nat) (s : State) : State × Reply := readPart k s.roomPieces s

/-- STATUS_QUERY_FLOOR (06 R115, 08 R159). -/
def execStatusQueryFloor (h : Head) (body : Body Nat) (s : State) : Host.Outcome State Fault Refusal :=
  finish s (handle h (.statusQueryFloor h body) body queryFloor s)

/-! ## BOOKINGS (07 R140) -/

/-- The state, source and remaining count of the staging. -/
def stagingPieces : Staging → List Piece
  | .idle => [.field (Fmt.o1 0), .field [0], .field [0]]
  | .staging src b n _ => [.field (Fmt.o1 1), .field [1, src], .field (1 :: Fmt.o1 (n - b.roster.length))]
  | .failed src _ _ _ => [.field (Fmt.o1 2), .field [1, src], .field [0]]

/-- A meeting record (07 R127). The idle count stands plain in every meeting state (log entry 66); the checked-in seats
stand in the order of their first check-in (DESIGN CHOICE, log entry 72). -/
def meetingPieces (m : Meeting) : List Piece :=
  [.field (Fmt.o1 m.state.ctorIdx), .field (Fmt.opt Fmt.o2 m.served), .field (Fmt.opt Fmt.o2 m.due),
    .field (Fmt.flag m.endWarning), .field (Fmt.opt Fmt.o3 m.deadline), .field (Fmt.o2 m.idle),
    .entries (m.checkedIn.map Fmt.o1)]

/-- A booking record without its roster. -/
def State.fmtBooking (s : State) (b : Booking) : List Octet :=
  Fmt.o2 b.id ++ Fmt.opt Fmt.text b.title ++ Fmt.o3 b.start ++ Fmt.o3 b.stop ++ Fmt.o1 b.scope.ctorIdx ++
  Fmt.o1 b.profile ++ Fmt.o1 b.lead ++ Fmt.o1 b.window ++ Fmt.o1 b.overrun ++ Fmt.o1 b.state.ctorIdx ++
  Fmt.opt (fun r : Runtime =>
    Fmt.opt Fmt.o3 r.start ++ Fmt.floor r.floor ++ Fmt.o1 (s.meeting r.floor).checkedIn.length) b.runtime ++
  Fmt.flag b.extended

/-- What an answer of STATUS_QUERY BOOKINGS holds before the bookings: clock, staging, pool and both meeting records. -/
def State.calendarPieces (s : State) : List Piece :=
  [.field (Fmt.opt (fun c : Clock => Fmt.o3 c.minute ++ Fmt.o1 c.second) s.clock)] ++ stagingPieces s.staging ++
  [.field (Fmt.o2 s.poolInUse)] ++ meetingPieces (s.meeting .A) ++ meetingPieces (s.meeting .B)

/-- How many of the items before the bookings a console has been returned, when it asks from a place: those of the answer
that it is reading, if it asks for that answer's next part, else none (10 section 10.8, 12 R209; log entry 61). -/
def State.itemsReturned (s : State) (source : Octet) (place : Nat) : Nat := match s.cru.reading with
  | some r => if r.source = source ∧ r.place = place then r.items else 0
  | none => 0

/-- The items of an answer that are still to be returned: the calendar's, less the first `done` of them, then the bookings
from a place onward as a list (07 R140). -/
def State.bookingPieces (s : State) (done place : Nat) : List Piece :=
  dropItems done s.calendarPieces ++ [.entries ((s.bookings.drop (place - 1)).map s.fmtBooking)]

/-- The answer's data: what one part holds of these items, with the mark telling whether more follow (07 R140, 12 R209). -/
def State.bookingData (s : State) (done place : Nat) : List Octet :=
  let parts := partsOf (s.bookingPieces done place)
  Fmt.flag (1 < parts.length) ++ parts.headD []

/-- How far the answer has come after this part, while more follow (10 section 10.8; log entry 61). -/
def State.readingAfter (s : State) (source : Octet) (done place : Nat) : Option BookingReading :=
  match cutParts (s.bookingPieces done place) with
  | p :: _ :: _ =>
    let left := ((dropItems done s.calendarPieces).map Piece.items).sum
    some { source := source, place := place + (p.items - left), items := done + min p.items left }
  | _ => none

/-- STATUS_QUERY BOOKINGS: the part that goes on from the first item not yet returned (07 R140, 12 R209). Reading changes
nothing but how far this answer has come (log entry 61). -/
def queryBookings (source : Octet) (place : Nat) (s : State) : State × Reply :=
  if place = 0 then refusal .range s
  else if place ≠ 1 ∧ s.bookings.length < place then refusal .notFound s
  else
    let done := s.itemsReturned source place
    ({ s with cru := { s.cru with reading := s.readingAfter source done place } }, .now .ok (s.bookingData done place))

/-- STATUS_QUERY_BOOKINGS (07 R140). -/
def execStatusQueryBookings (h : Head) (body : Body Nat) (s : State) : Host.Outcome State Fault Refusal :=
  finish s (handle h (.statusQueryBookings h body) body (queryBookings h.source) s)

/-! ## The clearing queries (10 R192) -/

/-- A later part, from the snapshot. -/
def laterPart (snap : Option (List (List Octet))) (k : Nat) : Reply := match snap with
  | none => .now .state []
  | some parts => partReply parts k

/-- The answer of STATUS_QUERY LEVELS (04 R70). -/
def State.levelPieces (s : State) : List Piece :=
  [.entries (allChans.map (fun c =>
    Fmt.flag (s.chanRunning c) ++ Fmt.o1 (s.chan c).band ++ Fmt.o1 (s.chan c).peak ++ Fmt.o1 (s.chan c).gate.ctorIdx))]

/-- Every peak band is set to 23 (04 R70). -/
def clearPeaks (s : State) : State := { s with chans := s.chans.map (fun c => { c with peak := 23 }) }

/-- STATUS_QUERY LEVELS (04 R70). -/
def queryLevels (k : Nat) (s : State) : State × Reply :=
  if k = 0 then refusal .range s
  else if k = 1 then
    let parts := partsOf s.levelPieces
    ({ clearPeaks s with cru := { s.cru with snapLevels := some parts } }, partReply parts 1)
  else (s, laterPart s.cru.snapLevels k)

/-- STATUS_QUERY_LEVELS (04 R70). -/
def execStatusQueryLevels (h : Head) (body : Body Nat) (s : State) : Host.Outcome State Fault Refusal :=
  finish s (handle h (.statusQueryLevels h body) body queryLevels s)

/-- The mix settings, contributor set and open count of a floor, the last two as at the latest computation (05
R103). The set is a list of channels: the seats in ascending order, then the lines as 49 and 50 (log entry 30). -/
def mixPieces (m : MixSettings) (latest : List Nat × Nat) : List Piece :=
  [.field (Fmt.gain m.closedGate), .field (Fmt.gain m.priorityDuck), .field (Fmt.gain m.proximityDuck),
    .field (Fmt.gain m.talkerDuck), .field (Fmt.lev m.level), .entries (latest.1.map Fmt.o1), .field (Fmt.o1 latest.2)]

/-- A line record with its binding and effective floor (05 R103). -/
def State.linePieces (s : State) (l : Nat) : List Piece :=
  let r := s.line l
  [.field (Fmt.opt Fmt.serial r.serial), .field (Fmt.floor r.assignment), .field (Fmt.lev r.trim),
    .field (Fmt.lev r.level), .field (Fmt.opt Fmt.binding r.binding), .field (Fmt.floor (s.lineFloor l))]

/-- The answer of STATUS_QUERY MIX. -/
def State.allMixPieces (s : State) : List Piece :=
  mixPieces s.floorA.mix s.latestA ++ mixPieces s.floorB.mix s.latestB ++ s.linePieces 1 ++ s.linePieces 2 ++
  [.entries (s.satur.map Fmt.o2)]

/-- STATUS_QUERY MIX: part 1 sets every saturation counter to 0 (05 R103). -/
def queryMix (k : Nat) (s : State) : State × Reply :=
  if k = 0 then refusal .range s
  else if k = 1 then
    let parts := partsOf s.allMixPieces
    ({ s with satur := List.replicate 50 0, cru := { s.cru with snapMix := some parts } }, partReply parts 1)
  else (s, laterPart s.cru.snapMix k)

/-- STATUS_QUERY_MIX (05 R103). -/
def execStatusQueryMix (h : Head) (body : Body Nat) (s : State) : Host.Outcome State Fault Refusal :=
  finish s (handle h (.statusQueryMix h body) body queryMix s)

/-- The selected kinds of a counter, as codes. -/
def Counter.kinds (c : Counter) : List Nat :=
  (if c.slotCheck then [0] else []) ++ (if c.laneCrc then [1] else []) ++ (if c.lostEntry then [2] else [])

/-- An entry of STATUS_QUERY LINK (09 R178). -/
def fmtEntry (e : NodeEntry) : List Octet :=
  Fmt.o1 e.position ++ Fmt.o1 e.kind.ctorIdx ++ Fmt.serial e.serial ++ Fmt.o1 e.link.ctorIdx ++ Fmt.o2 e.window

/-- A branch (09 R178), with its six lane counts (10 R194) after its error counter: no rule places them (DESIGN CHOICE, log
entry 75). -/
def branchPieces (r : BranchRec) (n : LaneCounts) : List Piece :=
  [.field (Fmt.o1 r.state.ctorIdx), .entries (r.table.map fmtEntry), .field (Fmt.o2 r.counter.value),
    .entries (r.counter.kinds.map Fmt.o1), .field (Fmt.o1 (if r.counter.auto then 1 else 0)),
    .field (Fmt.o1 (if r.counter.running then 0 else 1)), .field (Fmt.o2 n.crc), .field (Fmt.o2 n.source),
    .field (Fmt.o2 n.framing), .field (Fmt.o2 n.holdViolation), .field (Fmt.o2 n.relayDrop), .field (Fmt.o2 n.kind)]

/-- The test state, if a test runs: the presence octet with the seat, the other items, the window as a list of flags. The
sequence position of the generator, and that of the checker while IN_SYNC, is given as its last bits: 15 of the
generator, the last sample of the checker (09 section 9.6, R178; log entry 30). The match run stands plain in either state
(log entry 66). -/
def testPieces : Option PathTest → List Piece
  | none => [.field [0]]
  | some t =>
    [.field (1 :: Fmt.o1 t.seat), .field (Fmt.branch t.branch), .field (Fmt.o1 t.position),
      .field (Fmt.o1 t.duration), .field (Fmt.o2 t.elapsed), .field (Fmt.o2 t.gen.toNat),
      .field (Fmt.o1 (if t.inSync then 1 else 0)), .field (Fmt.o1 t.matchRun),
      .field (Fmt.opt Fmt.sample t.reference), .entries (t.window.map Fmt.flag), .field (Fmt.flag t.achieved),
      .field (Fmt.o3 t.mismatches)]

/-- The answer of STATUS_QUERY LINK. -/
def State.linkPieces (s : State) : List Piece :=
  branchPieces s.br0 s.lane0.counts ++ branchPieces s.br1 s.lane1.counts ++ testPieces s.test

/-- A RUNNING counter in MANUAL mode is cleared by the read (09 R171). -/
def Counter.read (c : Counter) : Counter := if !c.auto && c.running then { c with value := 0 } else c

/-- What part 1 of STATUS_QUERY LINK clears (09 R171, 10 R194). -/
def clearLink (s : State) : State :=
  { s with br0 := { s.br0 with counter := s.br0.counter.read }, br1 := { s.br1 with counter := s.br1.counter.read },
           lane0 := { s.lane0 with counts := Reset.counts }, lane1 := { s.lane1 with counts := Reset.counts } }

/-- STATUS_QUERY LINK (09 R178). -/
def queryLink (k : Nat) (s : State) : State × Reply :=
  if k = 0 then refusal .range s
  else if k = 1 then
    let parts := partsOf s.linkPieces
    ({ clearLink s with cru := { s.cru with snapLink := some parts } }, partReply parts 1)
  else (s, laterPart s.cru.snapLink k)

/-- STATUS_QUERY_LINK (09 R178). -/
def execStatusQueryLink (h : Head) (body : Body Nat) (s : State) : Host.Outcome State Fault Refusal :=
  finish s (handle h (.statusQueryLink h body) body queryLink s)

/-! ## POWER (11 R203) -/

/-- A pending wake event, with an octet that tells its kind: 0 for a key PRESS, 1 for a card insertion (log entry 67). -/
def fmtWakeEvent : WakeEvent → List Octet
  | .key n k => Fmt.o1 0 ++ Fmt.o1 n ++ Fmt.o1 k.ctorIdx
  | .card n c => Fmt.o1 1 ++ Fmt.o1 n ++ Fmt.card c

/-- The answer of STATUS_QUERY POWER: the items of the power record, and the ms since the wake start. -/
def State.powerPieces (s : State) : List Piece :=
  let p := s.pwr
  [.field (Fmt.o1 p.state.ctorIdx), .field (Fmt.o2 p.idle), .field (Fmt.o1 p.delay), .field (Fmt.flag p.maskKey),
    .field (Fmt.flag p.maskCard), .field (Fmt.flag p.maskWall), .field (Fmt.flag p.maskConsole),
    .field p.progress.octets, .field (Fmt.opt Fmt.o4 p.start), .field (Fmt.opt fmtWakeEvent p.pendingEvent),
    .field (Fmt.opt (fun x : Nat × Key => Fmt.o1 x.1 ++ Fmt.o1 x.2.ctorIdx) p.carried),
    .field (Fmt.opt (fun t => Fmt.o2 (sat16 (s.now - t))) p.start)]

/-- STATUS_QUERY POWER. -/
def queryPower (k : Nat) (s : State) : State × Reply := readPart k s.powerPieces s

/-- STATUS_QUERY_POWER (11 R203). -/
def execStatusQueryPower (h : Head) (body : Body Nat) (s : State) : Host.Outcome State Fault Refusal :=
  finish s (handle h (.statusQueryPower h body) body queryPower s)

end Sys2Proof.Machine
end

