-- ==== Sys2Proof/Machine/Keys.lean ====
section
/-! DEFINITION. The meanings of the key steps (02 R22, R25; 03 R48, R52; 04 R78, R79; 11 R199). A commanded key event is
one that the seat's detector gives: the detector takes the state that the event leaves it in (log entry 2). -/

namespace Sys2Proof.Machine

/-- The seat gives key events: it is eligible and its link is not LOST (01 R2, 04 R77). -/
def State.givesKeys (s : State) (n : Nat) : Bool := s.eligible n && s.seatLink n != .lost

/-- The state in which an event leaves its detector (04 R78, R79). -/
def Detector.after (e : KeyEvent) (d : Detector) : Detector := match e with
  | .press => d.press
  | .release => d.release
  | .long => d.long

/-- A key event is given and delivered (04 R80). -/
def giveKey (n : Nat) (k : Key) (e : KeyEvent) (s : State) : State :=
  if s.givesKeys n then refresh (deliverKey n k e (s.modDets n (SeatDets.mod k (Detector.after e)))) else s

/-- MIC_PRESS (02 R22). -/
def execMicPress (n : Nat) (s : State) : Host.Outcome State Fault Refusal := finish s (giveKey n .mic .press s)

/-- KEY_LONG (04 R79). -/
def execKeyLong (n : Nat) (k : Key) (s : State) : Host.Outcome State Fault Refusal := finish s (giveKey n k .long s)

/-- PRIORITY_PRESS (03 R48). -/
def execPriorityPress (n : Nat) (s : State) : Host.Outcome State Fault Refusal :=
  finish s (giveKey n .priority .press s)

/-- PRIORITY_RELEASE (03 R52). -/
def execPriorityRelease (n : Nat) (s : State) : Host.Outcome State Fault Refusal :=
  finish s (giveKey n .priority .release s)

/-- NEXT_PRESS (02 R25). -/
def execNextPress (n : Nat) (s : State) : Host.Outcome State Fault Refusal := finish s (giveKey n .next .press s)

/-- KEY_RELEASE (04 R78). -/
def execKeyRelease (n : Nat) (k : Key) (s : State) : Host.Outcome State Fault Refusal :=
  finish s (giveKey n k .release s)

/-- KEY_TO_POWER (11 R199): a key event taken outside ACTIVE. -/
def execKeyToPower (n : Nat) (k : Key) (e : KeyEvent) (s : State) : Host.Outcome State Fault Refusal :=
  finish s (if s.givesKeys n && s.pwr.state != .active then
    refresh (keyToPower n k e (s.modDets n (SeatDets.mod k (Detector.after e))))
  else s)

end Sys2Proof.Machine
end

