-- ==== Sys2Proof/Machine/Timers.lean ====
section
/-! DEFINITION. The meanings of the timed steps. A commanded timed step is the event itself: its timer stands at its
limit, whatever it stood at before (log entry 2). One that the hub's state leaves no room for changes nothing. -/

namespace Sys2Proof.Machine

/-! ## Seats: displays, turns, accounts (02 R24, 03 R60 to R64, 08 R153) -/

/-- REFUSAL_DISPLAY_END (02 R24). -/
def execRefusalDisplayEnd (n : Nat) (s : State) : Host.Outcome State Fault Refusal :=
  finish s (s.modSeat n (fun r => { r with refusal := none }))

/-- The running turn of a SPEAKING seat. -/
def State.runningTurn (s : State) (n : Nat) : Option Turn :=
  if (s.seat n).floorState == .speaking then (s.seat n).turn else none

/-- A warning may be given: a timer, no warning yet, and a lead above 0 (03 R60). -/
def Turn.mayWarn (lead : Nat) (t : Turn) : Bool := t.remaining.isSome && !t.warned && lead != 0

/-- The turn at its warning. -/
def Turn.warnAt (lead : Nat) (t : Turn) : Turn :=
  { t with remaining := t.remaining.map (fun r => min r (lead * 1000)), warned := true }

/-- The warning of a turn (03 R60). -/
def warnTurn (n : Nat) (s : State) : State :=
  let lead := (s.floor (s.seatFloor n)).settings.warnLead
  match s.runningTurn n with
  | none => s
  | some t =>
    if t.mayWarn lead then
      turnReport n .warn (t.warnAt lead) (s.modSeat n (fun r => { r with turn := some (t.warnAt lead) }))
    else s

/-- TURN_WARNING (03 R60). -/
def execTurnWarning (n : Nat) (s : State) : Host.Outcome State Fault Refusal := finish s (refresh (warnTurn n s))

/-- The turn at its expiry under NOTIFY (03 R61). -/
def Turn.expire (t : Turn) : Turn := { t with remaining := some 0, expired := true, overtime := 0, overtimeRem := 0 }

/-- The expiry of a turn with a timer (03 R61). -/
def expireTurn (n : Nat) (s : State) : State := match s.runningTurn n with
  | none => s
  | some t =>
    if t.remaining.isNone then s
    else match (s.floor (s.seatFloor n)).settings.expiryAction with
      | .close => closeTurn n .turnLimit .expired
          (s.modSeat n (fun r => { r with turn := some { t with remaining := some 0 } }))
      | .notify =>
        if t.expired then s
        else turnReport n .overtime t.expire (s.modSeat n (fun r => { r with turn := some t.expire }))

/-- TURN_EXPIRY (03 R61). -/
def execTurnExpiry (n : Nat) (s : State) : Host.Outcome State Fault Refusal := finish s (refresh (expireTurn n s))

/-- One second more in a seat's account (03 R62). -/
def SeatRec.addSecond (r : SeatRec) : SeatRec := { r with accSeconds := sat16 (r.accSeconds + 1), accRem := 0 }

/-- The second of a SPEAKING or PRIORITY seat is accounted; an allowance reached while SPEAKING closes it (03 R62,
R64). -/
def accountSecond (n : Nat) (s : State) : State := match (s.seat n).floorState with
  | .speaking =>
    let had := (s.seat n).exhausted
    let s := s.modSeat n SeatRec.addSecond
    if !had && (s.seat n).exhausted then closeTurn n .allowance .allowance s else s
  | .priority => s.modSeat n SeatRec.addSecond
  | .idle | .queued | .suspended | .priorityWait => s

/-- ACCOUNT_SECOND (03 R62). -/
def execAccountSecond (n : Nat) (s : State) : Host.Outcome State Fault Refusal :=
  finish s (refresh (accountSecond n s))

/-- A second of overtime (03 R61). -/
def Turn.addOvertime (t : Turn) : Turn :=
  if t.expired then { t with overtime := sat16 (t.overtime + 1), overtimeRem := 0 } else t

/-- OVERTIME_SECOND (03 R61). -/
def execOvertimeSecond (n : Nat) (s : State) : Host.Outcome State Fault Refusal :=
  finish s (match s.runningTurn n with
    | some t => s.modSeat n (fun r => { r with turn := some t.addOvertime })
    | none => s)

/-- SEE_SEAT_DISPLAY_END (08 R153). -/
def execSeeSeatDisplayEnd (n : Nat) (s : State) : Host.Outcome State Fault Refusal :=
  finish s (if (s.plate n).see.isSome then
    refresh (owePlate n (s.modPlate n (fun p => { p with see := none, count := 0 })))
  else s)

/-- CARD_FLAG_LOSS (01 R11). -/
def execCardFlagLoss (n : Nat) (s : State) : Host.Outcome State Fault Refusal :=
  finish s (if (s.seat n).presence == .card then refresh (cardFlagLoss n s) else s)

/-! ## Voices (04 R73, 02 R35) -/

/-- VOICE_EVALUATION (04 R73). -/
def execVoiceEvaluation (s : State) : Host.Outcome State Fault Refusal := finish s (refresh (evaluateVoices s))

/-- HANG_EXPIRY (04 R73). -/
def execHangExpiry (c : Nat) (s : State) : Host.Outcome State Fault Refusal :=
  finish s (if s.chanRunning c && (s.chan c).gate == .hang then
    deliver (gateReport c .hangExpiry (s.modChan c (fun r => { r with gate := .closed, hang := none })))
  else s)

/-- VOICE_RELEASE (02 R35). -/
def execVoiceRelease (n : Nat) (s : State) : Host.Outcome State Fault Refusal :=
  finish s (if (s.seat n).floorState == .speaking && (s.seat n).release.isSome then
    refresh (grantPass (s.seatFloor n) (close n .voiceRelease none s))
  else s)

/-! ## The calendar and the partition (07 R117, R136; 06 R106, R107; 09 R171) -/

/-- A COUNTER report (09 R171). -/
def counterReport (b : Branch) (s : State) : State :=
  let c := (s.br b).counter
  report .counter (Fmt.branch b ++ Fmt.o2 c.value ++ Fmt.list Fmt.o1 c.kinds ++
    Fmt.o1 (if c.running then 0 else 1) ++ Fmt.flag (c.value == 65535)) s

/-- An AUTO counter at a minute boundary (09 R171). -/
def autoCounter (b : Branch) (s : State) : State :=
  if (s.br b).counter.auto then
    (counterReport b s).modBr b (fun r =>
      { r with counter := if r.counter.running then { r.counter with value := 0 } else r.counter })
  else s

/-- A minute boundary: the AUTO counters report and clear, then the pass is made (07 R117, R128; 09 R171; log entry 63). -/
def minuteBoundary (s : State) : State := match s.clock with
  | none => s
  | some c =>
    if c.minute < 16777215 then
      evaluationPass (autoCounter .b1 (autoCounter .b0
        { s with clock := some { minute := c.minute + 1, second := 0, ms := 0 } }))
    else s

/-- MINUTE_BOUNDARY (07 R117). -/
def execMinuteBoundary (s : State) : Host.Outcome State Fault Refusal := finish s (refresh (minuteBoundary s))

/-- WALKIN_IDLE_END (07 R136). -/
def execWalkinIdleEnd (f : Floor) (s : State) : Host.Outcome State Fault Refusal :=
  finish s (if (s.meeting f).state == .walkIn then refresh (endMeetingNow f .released s) else s)

/-- A change between OPEN, CLOSED and MOVING is a WALL event (06 R106). -/
def isWallEvent (old new : WallReading) : Bool := old != .absent && new != .absent

/-- A new reading: its report, the settle from its start, and the WALL event (06 R106, R107). No rule orders the READING
report and the WALL event's effects: the report comes first here (DESIGN CHOICE, log entry 71). -/
def takeReading (r : WallReading) (s : State) : State :=
  let old := s.part.reading
  if old == r then s
  else
    let settle := if s.part.mode == .follow then settleFrom r else none
    let s := wallReport .reading
      { s with part := { s.part with reading := r, sampled := r, settle := settle, settled := false } }
    if isWallEvent old r then wallEvent s else s

/-- WALL_READING_CHANGE (06 R106). -/
def execWallReadingChange (r : WallReading) (s : State) : Host.Outcome State Fault Refusal :=
  finish s (refresh (takeReading r s))

/-- The partition that a settle value gives (06 R107). -/
def settleTarget : WallReading → Partition
  | .closed => .split
  | .opened | .moving | .absent => .combined

/-- A settle completes (06 R107). -/
def completeSettle (s : State) : State := match s.part.settle with
  | none => s
  | some (v, _) =>
    if s.part.settled || s.part.mode != .follow then s
    else setTarget (settleTarget v) .settle { s with part := { s.part with settle := some (v, 10000), settled := true } }

/-- SETTLE_COMPLETE (06 R107). -/
def execSettleComplete (s : State) : Host.Outcome State Fault Refusal := finish s (refresh (completeSettle s))

/-! ## Screens and cameras (08) -/

/-- WARMUP_DONE (08 R145): the screen becomes ON and is sent its content (R150). -/
def execWarmupDone (k : Nat) (s : State) : Host.Outcome State Fault Refusal :=
  finish s (if (s.screen k).power == .warming && s.reachable (s.screen k).binding then
    refresh (refreshScreen true k (s.modScreen k (fun r => { r with power := .on, warm := none })))
  else s)

/-- The fault flag of a screen's node is taken (08 R146). -/
def takeFault (k : Nat) (flag : Bool) (s : State) : State := match (s.screen k).binding with
  | none => s
  | some d =>
    let s := s.modEntry d (fun e => if e.faultTaken == flag then e else { e with fault := flag, faultTaken := flag })
    if flag then
      if (s.screen k).power == .fault then s else restScreen k .fault s
    else if (s.screen k).power == .fault then s.modScreen k (fun r => { r with power := .off }) else s

/-- SCREEN_FAULT_CHANGE (08 R146). -/
def execScreenFaultChange (k : Nat) (flag : Bool) (s : State) : Host.Outcome State Fault Refusal :=
  finish s (if s.reachable (s.screen k).binding then refresh (takeFault k flag s) else s)

/-- SHOW_INTERVAL_END (08 R150). -/
def execShowIntervalEnd (k : Nat) (s : State) : Host.Outcome State Fault Refusal :=
  finish s (if (s.screen k).power == .on && (s.screen k).unsent && s.reachable (s.screen k).binding then sendShow k s
    else s)

/-- CAMERA_CUT (08 R155): the candidate is cut to, if it has a preset for the camera. -/
def execCameraCut (k : Nat) (s : State) : Host.Outcome State Fault Refusal :=
  finish s (match (s.camera k).candidate with
    | some (n, _) =>
      if s.reachable (s.camera k).binding && (s.holderFor k).isNone && s.preset n k != 0 then takeShot k (some n) s
      else s
    | none => s)

/-- CAMERA_RETURN_OVERVIEW (08 R156). -/
def execCameraReturnOverview (k : Nat) (s : State) : Host.Outcome State Fault Refusal :=
  finish s (if s.reachable (s.camera k).binding && (s.camera k).shot.isSome && (s.holderFor k).isNone then
    takeShot k none s else s)

/-- CAMERA_PRIORITY_CUT (08 R157). -/
def execCameraPriorityCut (k : Nat) (s : State) : Host.Outcome State Fault Refusal :=
  finish s (if s.priorityCutDue k then takeShot k (s.heldShot k) s else s)

/-! ## Trunk and power (09 R177; 11 R197, R200) -/

/-- PATH_TEST_END (09 R177). -/
def execPathTestEnd (s : State) : Host.Outcome State Fault Refusal :=
  finish s (deliver (endTest .duration { s with test := s.test.map (fun t => { t with elapsed := t.duration * 1000 }) }))

/-- DIM_ENTRY (11 R197). Commanded before the idle count has reached its limit, it leaves the count as it stands (DESIGN
CHOICE, log entry 74). -/
def execDimEntry (s : State) : Host.Outcome State Fault Refusal :=
  finish s (if s.pwr.state == .active && s.bothVacant then refresh (leaveActive .dim .idle s) else s)

/-- TRUNK_LOCK (11 R200). -/
def execTrunkLock (s : State) : Host.Outcome State Fault Refusal :=
  finish s (if s.pwr.state == .waking && s.pwr.progress == .started then deliver (reportLock s) else s)

/-- WAKE_TIMEOUT (11 R200). -/
def execWakeTimeout (s : State) : Host.Outcome State Fault Refusal :=
  finish s (if s.pwr.state == .waking then refresh (ready s) else s)

end Sys2Proof.Machine
end

