-- ==== Sys2Proof/Machine/Resets.lean ====
section
/-! DEFINITION. The meanings of the resets (01 R15, 02 R45, 03 R67, 04 R82, 05 R104, 06 R116, 07 R141, 08 R160, 09
R179, 10 R193, R195, 11 R204). -/

namespace Sys2Proof.Machine

/-- A seat record after a warm reset: the seat map and the presets are kept (01 R15, 08 R160). -/
def SeatRec.warm (r : SeatRec) : SeatRec :=
  { Reset.seat r.side with serial := r.serial, trim := r.trim, neighbours := r.neighbours, presets := r.presets }

/-- A line record after a warm reset (05 R104). -/
def LineRec.warm (r : LineRec) : LineRec := { r with binding := none }

/-- The partition that a mode and the reading held give at a warm reset (06 R116). -/
def PartRec.warmPartition (p : PartRec) : Partition := match p.mode with
  | .forceCombined => .combined
  | .forceSplit => .split
  | .follow => settleTarget p.reading

/-- The partition record after a warm reset (06 R116). -/
def PartRec.warm (p : PartRec) : PartRec :=
  { Reset.part with mode := p.mode, target := p.warmPartition, partition := p.warmPartition }

/-- A booking after a warm reset (07 R141). -/
def Booking.warm (b : Booking) : Booking := { b with state := .scheduled, runtime := none }

/-- A screen record after a warm reset (08 R160). -/
def ScreenRec.warmed (r : ScreenRec) : ScreenRec :=
  { Reset.screen with serial := r.serial, floor := r.floor, warmup := r.warmup }

/-- A camera record after a warm reset (08 R160). -/
def CameraRec.warm (c : CameraRec) : CameraRec :=
  { Reset.camera with serial := c.serial, floor := c.floor, overview := c.overview, cutDelay := c.cutDelay,
                      minimumHold := c.minimumHold, returnDelay := c.returnDelay }

/-- The screen director after a warm reset (08 R160). -/
def Director.warm (d : Director) : Director :=
  { Reset.director with screens := d.screens.map ScreenRec.warmed, layouts := d.layouts,
                        cameras := d.cameras.map CameraRec.warm }

/-- The power manager after a warm reset (11 R204). -/
def Power.warm (p : Power) : Power :=
  { Reset.power with delay := p.delay, maskKey := p.maskKey, maskCard := p.maskCard, maskWall := p.maskWall,
                     maskConsole := p.maskConsole }

/-- The CRU after a warm reset (10 R190, R195). -/
def Cru.warm (c : Cru) : Cru :=
  { Reset.cru with enables := c.enables, cardEvery := c.cardEvery, gateAll := c.gateAll, linkAll := c.linkAll,
                   hello := some .warm }

/-- The hub after a warm reset; the timebase keeps running (log entry 5). -/
def warmState (s : State) : State :=
  { State.reset with
    now := s.now, seats := s.seats.map SeatRec.warm, floorA := Reset.floor (s.profile 0),
    floorB := Reset.floor (s.profile 0), line1 := s.line1.warm, line2 := s.line2.warm, part := s.part.warm,
    clock := s.clock, profiles := s.profiles, bookings := s.bookings.map Booking.warm, sd := s.sd.warm,
    pwr := s.pwr.warm, filter := s.filter, cru := s.cru.warm }

/-- POWER_ON_RESET (01 R15). -/
def execPowerOnReset (s : State) : Host.Outcome State Fault Refusal := finish s State.reset

/-- WARM_RESET (01 R15). -/
def execWarmReset (s : State) : Host.Outcome State Fault Refusal := finish s (warmState s)

/-- The CRU waits for the warm reset that RESET asked for (10 R193). -/
def CruPhase.awaitsReset : CruPhase → Bool
  | .resetAnswer | .resetDue => true
  | .idle | .testFrame _ => false

/-- RESET_AFTER_ANSWER (10 R193). -/
def execResetAfterAnswer (s : State) : Host.Outcome State Fault Refusal :=
  finish s (if s.cru.phase.awaitsReset then warmState s else s)

end Sys2Proof.Machine
end

