-- ==== Sys2Proof/Machine/Time.lean ====
section
/-! DEFINITION. What the hub does while no command waits: the event that is due first, or one millisecond of the
timebase (log entries 1 to 3). -/

namespace Sys2Proof.Machine

/-! ## One millisecond -/

/-- A running timer and the overtime remainder move on; a full remainder is one second of overtime (03 R59, R61). -/
def Turn.tick (t : Turn) : Turn :=
  let t := { t with remaining := t.remaining.map (· - 1) }
  if !t.expired then t
  else if 1000 ≤ t.overtimeRem + 1 then t.addOvertime
  else { t with overtimeRem := t.overtimeRem + 1 }

/-- The account of a SPEAKING or PRIORITY seat moves on; a full remainder is one second (03 R62). -/
def SeatRec.account (r : SeatRec) : SeatRec :=
  if !r.floorState.contributes then r
  else if 1000 ≤ r.accRem + 1 then r.addSecond
  else { r with accRem := r.accRem + 1 }

/-- A seat's timers: refusal display, turn, account, card-present count (01 R11; 02 R24; 03 R59, R62). -/
def SeatRec.tick (lost : Bool) (r : SeatRec) : SeatRec :=
  { r.account with
    refusal := r.refusal.map (fun n => min 2000 (n + 1))
    turn := if r.floorState == .speaking then r.turn.map Turn.tick else r.turn
    cardClear := if r.presence == .card && !r.cardFlag && !lost then min 2000 (r.cardClear + 1) else 0 }

/-- The walk-in idle count, with the setting in minutes read at each step (07 R136). -/
def Meeting.tick (limit : Nat) (talking : Bool) (m : Meeting) : Meeting :=
  if m.state == .walkIn then
    if talking then { m.restIdle with idleDue := false }
    else if 1000 ≤ m.idleRem + 1 then
      { m with idle := min 3600 (m.idle + 1), idleRem := 0, idleDue := limit * 60 ≤ min 3600 (m.idle + 1) }
    else { m with idleRem := m.idleRem + 1, idleDue := false }
  else m

/-- A floor's timer; someone talks while a seat is SPEAKING or PRIORITY. -/
def FloorRec.tick (r : FloorRec) : FloorRec :=
  { r with meeting := r.meeting.tick r.settings.walkinIdle (!r.grantOrder.isEmpty || !r.stack.isEmpty) }

/-- The wall value of a status octet (12 R206). -/
def wallValue (x : Octet) : WallReading :=
  if !x.getLsbD 1 then (if x.getLsbD 0 then .closed else .opened) else .moving

/-- The reading of this millisecond (06 R106). -/
def State.wallSample (s : State) : WallReading := match s.part.source.bind s.entry? with
  | none => .absent
  | some e => if e.link == .lost then .absent else (e.status.map (fun x => wallValue x.2)).getD s.part.reading

/-- The settle of a reading that has not changed (06 R107). -/
def stepSettle (r : WallReading) (settle : Option (WallReading × Nat)) : Option (WallReading × Nat) := match settle with
  | some (v, n) => if v == r then some (v, min 10000 (n + 1)) else settleFrom r
  | none => settleFrom r

/-- The partition record's millisecond (06 R106, R107). -/
def PartRec.tick (r : WallReading) (p : PartRec) : PartRec :=
  if p.mode == .follow && r == p.reading then { p with sampled := r, settle := stepSettle r p.settle }
  else { p with sampled := r }

/-- The room clock (07 R117); at a boundary it waits for MINUTE_BOUNDARY. -/
def Clock.tick (c : Clock) : Clock :=
  if c.ms + 1 < 1000 then { c with ms := c.ms + 1 }
  else if c.second < 59 then { c with second := c.second + 1, ms := 0 }
  else if c.minute < 16777215 then { c with ms := 1000 }
  else { c with second := 0, ms := 0 }

/-- The part timer (07 R126). -/
def Staging.tick : Staging → Staging
  | .idle => .idle
  | .staging src b n t => .staging src b n (min 2000 (t + 1))
  | .failed src b c t => .failed src b c (min 2000 (t + 1))

/-- The warm-up count (08 R145). -/
def ScreenRec.tick (r : ScreenRec) : ScreenRec := { r with warm := r.warm.map (fun x => (x.1 + 1, x.2)) }

/-- The display count of SEE_SEAT (08 R153). -/
def Plate.tick (p : Plate) : Plate := if p.see.isSome then { p with count := min 10000 (p.count + 1) } else p

/-- The screen director's timers. -/
def Director.tick (d : Director) : Director :=
  { d with screens := d.screens.map ScreenRec.tick, plates := d.plates.map Plate.tick }

/-- The idle count, with the idle delay in minutes read at each step (11 R197). -/
def Power.tick (vacant : Bool) (p : Power) : Power :=
  if p.state == .active then
    if !vacant then { p with idle := 0, idleRem := 0, dimDue := false }
    else if 1000 ≤ p.idleRem + 1 then
      { p with idle := min 7200 (p.idle + 1), idleRem := 0, dimDue := p.delay * 60 ≤ min 7200 (p.idle + 1) }
    else { p with idleRem := p.idleRem + 1, dimDue := false }
  else p

/-- An entry at the end of a millisecond: its status field has been taken (04 R77, 08 R146). -/
def NodeEntry.tick (e : NodeEntry) : NodeEntry := { e with status := none, faultTaken := e.fault }

/-- A branch's timers: silence, the consecutive counts, the wait for a ROLL reply (09 R161, R164; 11 R200). -/
def BranchRec.tick (r : BranchRec) : BranchRec :=
  { r with upCount := if r.frameSeen then r.upCount else 0,
           silence := if r.frameSeen || r.state == .down then 0 else min 50 (r.silence + 1),
           fullCount := if r.frameSeen || 16 ≤ r.fullCount then r.fullCount else 0,
           frameSeen := false,
           roll := r.roll.map (fun x => if x.restart then x else { x with wait := min 20 (x.wait + 1) }),
           table := r.table.map NodeEntry.tick }

/-- The elapsed time of a path test (09 R177). -/
def PathTest.tick (t : PathTest) : PathTest := { t with elapsed := min (t.duration * 1000) (t.elapsed + 1) }

/-- Everything that counts milliseconds moves on. The frames taken since the last millisecond are those of the one that
ends with it. -/
def moveOn (s : State) : State :=
  let keys := forAll allSeats sampleKeys s
  { s with
    now := s.now + 1
    seats := s.seats.map (fun r => r.tick (s.linkOf r.binding == .lost))
    dets := keys.dets
    floorA := s.floorA.tick
    floorB := s.floorB.tick
    part := s.part.tick s.wallSample
    clock := s.clock.map Clock.tick
    staging := s.staging.tick
    sd := s.sd.tick
    pwr := { s.pwr.tick s.bothVacant with carried := keys.pwr.carried }
    br0 := s.br0.tick
    br1 := s.br1.tick
    test := s.test.map PathTest.tick
    windowDue := (s.now + 1) % 1000 == 0 }

/-! ## What is judged at each millisecond (03 R59 to R64; 04 R73; 08 R155) -/

/-- A turn's warning is due (03 R60). -/
def State.warnDue (s : State) (n : Nat) : Bool := match s.runningTurn n with
  | some t =>
    let lead := (s.floor (s.seatFloor n)).settings.warnLead
    t.mayWarn lead && t.remaining.getD 0 ≤ lead * 1000
  | none => false

/-- A turn's expiry is due (03 R61). -/
def State.expiryDue (s : State) (n : Nat) : Bool := match s.runningTurn n with
  | some t =>
    t.remaining == some 0 && (!t.expired || (s.floor (s.seatFloor n)).settings.expiryAction == .close)
  | none => false

/-- The warning check of a seat, and then its expiry check (03 R59). -/
def judgeTurn (n : Nat) (s : State) : State :=
  let s := if s.warnDue n then warnTurn n s else s
  if s.expiryDue n then expireTurn n s else s

/-- The account of a SPEAKING seat has reached its allowance between two states (03 R64). -/
def allowanceReached (s t : State) (n : Nat) : Bool :=
  (s.seat n).floorState == .speaking && !(s.seat n).exhausted && (t.seat n).exhausted

/-- The floor controllers judge what a millisecond from `s` to `t` has brought: the seats that have used up their
allowance, then the turns that are due, in ascending seat order. A seat that is granted or resumed by one of these is
judged from the next millisecond on (log entry 47). -/
def judgeTurns (s t : State) : State :=
  let spent := allSeats.filter (allowanceReached s t)
  let turns := allSeats.filter (fun n => t.warnDue n || t.expiryDue n)
  forAll turns judgeTurn (forAll spent (fun n => closeTurn n .allowance .allowance) t)

/-- One millisecond of the timebase: everything moves on, the floor controllers judge accounts and turns, and the voice
detector makes the millisecond's evaluation. What comes later in the millisecond (a partition change, a line's new
floor, the end of a hold, a camera that becomes reachable) so meets its first evaluation in the next one (04 R71, R72;
05 R102; 08 R154, R157, R158; log entry 3). -/
def tick (s : State) : State := refresh (evaluateVoices (judgeTurns s (moveOn s)))

/-! ## What is due -/

/-- The command by which a source's message is placed. -/
def placeCommand (b : Branch) : Source → Instr
  | .answer => .answerPlaced
  | .relay => .relayPlaced b
  | .directive => .directiveHandedOn
  | .report => .reportPlaced

/-- A message that waits while a place is free (10 R188). -/
def State.placeDue (s : State) (b : Branch) : Option Instr :=
  if (s.lane b).roomOut then (s.nextSource b).map (placeCommand b) else none

/-- The silence of a branch (09 R161, R164). -/
def State.branchDue (s : State) (b : Branch) : Option Instr :=
  let r := s.br b
  if r.state == .down then (if 16 ≤ r.upCount then some (.branchUp b) else none)
  else if 50 ≤ r.silence then some (.branchDown b)
  else if r.state == .enumerating && r.roll.any (fun x => 20 ≤ x.wait) then some (.rollSilence b)
  else none

/-- The wall (06 R106, R107). -/
def State.wallDue (s : State) : Option Instr :=
  let p := s.part
  if p.sampled != p.reading then some (.wallReadingChange p.sampled)
  else match p.settle with
    | some (_, n) => if 10000 ≤ n && !p.settled && p.mode == .follow then some .settleComplete else none
    | none => none

/-- The command of a key event (04 R80). -/
def keyCommand (active : Bool) (n : Nat) (k : Key) (e : KeyEvent) : Instr :=
  if active then
    match e, k with
    | .press, .mic => .micPress n
    | .press, .priority => .priorityPress n
    | .press, .next => .nextPress n
    | .release, .priority => .priorityRelease n
    | .release, .mic => .keyRelease n .mic
    | .release, .next => .keyRelease n .next
    | .long, k => .keyLong n k
  else .keyToPower n k e

/-- The event that a detector gives (04 R78, R79). -/
def Detector.due (d : Detector) : Option KeyEvent :=
  if d.pressDue then some .press
  else if d.releaseDue then some .release
  else if d.longDue then some .long
  else none

/-- The key event of a seat. -/
def State.keyDue (s : State) (n : Nat) : Option Instr :=
  if s.givesKeys n then
    [Key.mic, .priority, .next].findSome? (fun k =>
      (((s.detectors n).get k).due).map (keyCommand (s.pwr.state == .active) n k))
  else none

/-- The displays and the card count of a seat (01 R11, 02 R24, 08 R153). -/
def State.displayDue (s : State) (n : Nat) : Option Instr :=
  let r := s.seat n
  if r.refusal == some 2000 then some (.refusalDisplayEnd n)
  else if (s.plate n).see.isSome && 10000 ≤ (s.plate n).count then some (.seeSeatDisplayEnd n)
  else if r.presence == .card && 2000 ≤ r.cardClear then some (.cardFlagLoss n)
  else none

/-- The clock and the calendar's timers (07 R117, R126, R136). -/
def State.calendarDue (s : State) : Option Instr :=
  let idleOver (f : Floor) : Bool :=
    let r := s.floor f
    r.meeting.state == .walkIn && r.meeting.idleDue && 0 < r.meeting.idle
  let timedOut : Bool := match s.staging with
    | .idle => false
    | .staging _ _ _ t => 2000 ≤ t
    | .failed _ _ _ t => 2000 ≤ t
  if s.clock.any (fun c => 1000 ≤ c.ms && c.minute < 16777215) then some .minuteBoundary
  else if idleOver .A then some (.walkinIdleEnd .A)
  else if idleOver .B then some (.walkinIdleEnd .B)
  else if timedOut then some .stagingPartTimeout
  else none

/-- A screen's timers and its fault flag (08 R145, R146, R150). -/
def State.screenDue (s : State) (k : Nat) : Option Instr :=
  let r := s.screen k
  if !s.reachable r.binding then none
  else
    let flag := ((r.binding.bind s.entry?).map (·.faultTaken)).getD false
    if flag != (r.power == .fault) then some (.screenFaultChange k flag)
    else if r.power == .warming && r.warm.all (fun x => x.2 * 1000 ≤ x.1) then some (.warmupDone k)
    else if r.power == .on && r.unsent && s.showOpen k && !s.sd.waiting.any (fun d => d.target == .screenShow k) then
      some (.showIntervalEnd k)
    else none

/-- The test, the windows, the wake and the idle delay (09 R168, R177; 11 R197, R200). -/
def State.powerDue (s : State) : Option Instr :=
  let p := s.pwr
  if s.test.any (fun t => t.duration * 1000 ≤ t.elapsed) then some .pathTestEnd
  else if s.windowDue then some .linkWindowEnd
  else if p.state == .waking && p.progress == .started && s.br0.locked && s.br1.locked then some .trunkLock
  else if p.state == .waking && p.start.all (fun t => t + 500 ≤ s.now) then some .wakeTimeout
  else if p.state == .active && s.bothVacant && p.dimDue && 0 < p.idle then some .dimEntry
  else none

/-- The event that is due first (log entry 3). -/
def State.nextDue (s : State) : Option Instr :=
  if s.cru.phase == .resetDue then some .resetAfterAnswer
  else [s.placeDue .b0, s.placeDue .b1, s.branchDue .b0, s.branchDue .b1, s.wallDue, allSeats.findSome? s.keyDue,
    allSeats.findSome? s.displayDue, s.calendarDue, (List.range' 1 8).findSome? s.screenDue,
    s.powerDue].findSome? id

/-- The request that the CRU takes next (10 R187). -/
def State.nextRequest (s : State) : Option (Instr × State) :=
  if s.cruFree then
    match earliest s.requests with
    | some p => p.use.request?.map (fun i => (i, freeRequest p.stamp s))
    | none => none
  else none

/-- What the hub does of its own: a command to run on a state, or none while only time passes. -/
def State.ownCommand (s : State) : Option (Instr × State) := match s.nextDue with
  | some i => some (i, s)
  | none => s.nextRequest

end Sys2Proof.Machine
end

