-- ==== Sys2Proof/Machine/Dispatch.lean ====
section
/-! DEFINITION. The meaning of each command: one arm for each row of the table. -/

namespace Sys2Proof.Machine

def exec (i : Instr) (s : State) : Host.Outcome State Fault Refusal :=
  match i with
  | .powerOnReset => Sys2Proof.Machine.execPowerOnReset s
  | .warmReset => Sys2Proof.Machine.execWarmReset s
  | .resetAfterAnswer => Sys2Proof.Machine.execResetAfterAnswer s
  | .upFrame b f => Sys2Proof.Machine.execUpFrame b f s
  | .downFrame b => Sys2Proof.Machine.execDownFrame b s
  | .branchUp b => Sys2Proof.Machine.execBranchUp b s
  | .branchDown b => Sys2Proof.Machine.execBranchDown b s
  | .rollReply b r => Sys2Proof.Machine.execRollReply b r s
  | .rollSilence b => Sys2Proof.Machine.execRollSilence b s
  | .nodeLinkLost b p => Sys2Proof.Machine.execNodeLinkLost b p s
  | .nodeLinkRecovered b p => Sys2Proof.Machine.execNodeLinkRecovered b p s
  | .linkWindowEnd => Sys2Proof.Machine.execLinkWindowEnd s
  | .laneMessageComplete b p os => Sys2Proof.Machine.execLaneMessageComplete b p os s
  | .cardIn b p c => Sys2Proof.Machine.execCardIn b p c s
  | .cardOut b p c => Sys2Proof.Machine.execCardOut b p c s
  | .relayPlaced b => Sys2Proof.Machine.execRelayPlaced b s
  | .turnOffer b => Sys2Proof.Machine.execTurnOffer b s
  | .turnOfferLapse b => Sys2Proof.Machine.execTurnOfferLapse b s
  | .receptionGapTimeout b => Sys2Proof.Machine.execReceptionGapTimeout b s
  | .outboundMessageSent b => Sys2Proof.Machine.execOutboundMessageSent b s
  | .answerPlaced => Sys2Proof.Machine.execAnswerPlaced s
  | .reportPlaced => Sys2Proof.Machine.execReportPlaced s
  | .directiveHandedOn => Sys2Proof.Machine.execDirectiveHandedOn s
  | .requestUnknownKind h k => Sys2Proof.Machine.execRequestUnknownKind h k s
  | .seatMap h x => Sys2Proof.Machine.execSeatMap h x s
  | .checkIn h x => Sys2Proof.Machine.execCheckIn h x s
  | .rosterEdit h x => Sys2Proof.Machine.execRosterEdit h x s
  | .floorSet h x => Sys2Proof.Machine.execFloorSet h x s
  | .grant h x => Sys2Proof.Machine.execGrant h x s
  | .closeSeat h x => Sys2Proof.Machine.execCloseSeat h x s
  | .clearQueue h x => Sys2Proof.Machine.execClearQueue h x s
  | .priorityEnd h x => Sys2Proof.Machine.execPriorityEnd h x s
  | .gateSet h x => Sys2Proof.Machine.execGateSet h x s
  | .mixSet h x => Sys2Proof.Machine.execMixSet h x s
  | .lineSet h x => Sys2Proof.Machine.execLineSet h x s
  | .wallMode h x => Sys2Proof.Machine.execWallMode h x s
  | .clockSet h x => Sys2Proof.Machine.execClockSet h x s
  | .profileSet h x => Sys2Proof.Machine.execProfileSet h x s
  | .bookBegin h x => Sys2Proof.Machine.execBookBegin h x s
  | .rosterPart h x => Sys2Proof.Machine.execRosterPart h x s
  | .bookAbort h x => Sys2Proof.Machine.execBookAbort h x s
  | .stagingPartTimeout => Sys2Proof.Machine.execStagingPartTimeout s
  | .cancel h x => Sys2Proof.Machine.execCancel h x s
  | .extend h x => Sys2Proof.Machine.execExtend h x s
  | .walkinStart h x => Sys2Proof.Machine.execWalkinStart h x s
  | .sessionEnd h x => Sys2Proof.Machine.execSessionEnd h x s
  | .screenSet h x => Sys2Proof.Machine.execScreenSet h x s
  | .layoutSet h x => Sys2Proof.Machine.execLayoutSet h x s
  | .cameraSetCamera h x => Sys2Proof.Machine.execCameraSetCamera h x s
  | .cameraSetPreset h x => Sys2Proof.Machine.execCameraSetPreset h x s
  | .pathTest h x => Sys2Proof.Machine.execPathTest h x s
  | .testInsert h x => Sys2Proof.Machine.execTestInsert h x s
  | .counterSet h x => Sys2Proof.Machine.execCounterSet h x s
  | .filterSet h x => Sys2Proof.Machine.execFilterSet h x s
  | .reportTo h x => Sys2Proof.Machine.execReportTo h x s
  | .reportSet h x => Sys2Proof.Machine.execReportSet h x s
  | .statusQuerySeat h x => Sys2Proof.Machine.execStatusQuerySeat h x s
  | .statusQueryFloor h x => Sys2Proof.Machine.execStatusQueryFloor h x s
  | .statusQueryBookings h x => Sys2Proof.Machine.execStatusQueryBookings h x s
  | .statusQueryLevels h x => Sys2Proof.Machine.execStatusQueryLevels h x s
  | .statusQueryMix h x => Sys2Proof.Machine.execStatusQueryMix h x s
  | .statusQueryLink h x => Sys2Proof.Machine.execStatusQueryLink h x s
  | .statusQueryPower h x => Sys2Proof.Machine.execStatusQueryPower h x s
  | .reset h x => Sys2Proof.Machine.execReset h x s
  | .powerSet h x => Sys2Proof.Machine.execPowerSet h x s
  | .sleep h x => Sys2Proof.Machine.execSleep h x s
  | .wake h x => Sys2Proof.Machine.execWake h x s
  | .micPress n => Sys2Proof.Machine.execMicPress n s
  | .keyLong n k => Sys2Proof.Machine.execKeyLong n k s
  | .priorityPress n => Sys2Proof.Machine.execPriorityPress n s
  | .priorityRelease n => Sys2Proof.Machine.execPriorityRelease n s
  | .nextPress n => Sys2Proof.Machine.execNextPress n s
  | .keyToPower n k ev => Sys2Proof.Machine.execKeyToPower n k ev s
  | .cardToPower b p c => Sys2Proof.Machine.execCardToPower b p c s
  | .refusalDisplayEnd n => Sys2Proof.Machine.execRefusalDisplayEnd n s
  | .turnWarning n => Sys2Proof.Machine.execTurnWarning n s
  | .turnExpiry n => Sys2Proof.Machine.execTurnExpiry n s
  | .accountSecond n => Sys2Proof.Machine.execAccountSecond n s
  | .voiceEvaluation => Sys2Proof.Machine.execVoiceEvaluation s
  | .hangExpiry c => Sys2Proof.Machine.execHangExpiry c s
  | .voiceRelease n => Sys2Proof.Machine.execVoiceRelease n s
  | .cardFlagLoss n => Sys2Proof.Machine.execCardFlagLoss n s
  | .seeSeatDisplayEnd n => Sys2Proof.Machine.execSeeSeatDisplayEnd n s
  | .minuteBoundary => Sys2Proof.Machine.execMinuteBoundary s
  | .walkinIdleEnd f => Sys2Proof.Machine.execWalkinIdleEnd f s
  | .wallReadingChange r => Sys2Proof.Machine.execWallReadingChange r s
  | .settleComplete => Sys2Proof.Machine.execSettleComplete s
  | .warmupDone k => Sys2Proof.Machine.execWarmupDone k s
  | .screenFaultChange k x => Sys2Proof.Machine.execScreenFaultChange k x s
  | .showIntervalEnd k => Sys2Proof.Machine.execShowIntervalEnd k s
  | .cameraCut k => Sys2Proof.Machine.execCameraCut k s
  | .cameraReturnOverview k => Sys2Proof.Machine.execCameraReturnOverview k s
  | .cameraPriorityCut k => Sys2Proof.Machine.execCameraPriorityCut k s
  | .pathTestEnd => Sys2Proof.Machine.execPathTestEnd s
  | .dimEntry => Sys2Proof.Machine.execDimEntry s
  | .trunkLock => Sys2Proof.Machine.execTrunkLock s
  | .wakeTimeout => Sys2Proof.Machine.execWakeTimeout s
  | .keyRelease n k => Sys2Proof.Machine.execKeyRelease n k s
  | .overtimeSecond n => Sys2Proof.Machine.execOvertimeSecond n s

end Sys2Proof.Machine
end

