-- ==== Sys2Proof/Machine/Step.lean ====
section
/-! DEFINITION. One step of the hub: the command at the front of the queue, or, while none waits, what the hub does of
its own: the event or request that is due, or one millisecond (log entries 1 and 3). -/

namespace Sys2Proof.Machine

/-- One step. -/
def step (s : State) : Host.Outcome State Fault Refusal :=
  match s.pending with
  | i :: rest => exec i { s with pending := rest }
  | [] => match s.ownCommand with
    | some (i, t) => exec i t
    | none => .next (tick s)

/-- The state with the command that a table word spells at the front of its queue; no row of the table gives bits, so
none is spelt (12.3 gives messages, not words). -/
def State.withFetchWord (s : State) (nbits w : Nat) : State := match decodeTableWord nbits w with
  | some i => { s with pending := i :: s.pending }
  | none => s

end Sys2Proof.Machine
end

