-- ==== Sys2Proof/Safety.lean ====
section
/-! DEFINITION. What the statements about the hub speak of: runs that never stop, what a command leaves as it was, the
answer that a request gets, and the laws that every step keeps. -/

namespace Sys2Proof.Machine

/-! ## Runs -/

/-- The command is run to a next state. -/
def Completes (i : Instr) (s : State) : Prop := ∃ t, exec i s = .next t

/-- The state after a number of steps, if no step stops. -/
def State.after (s : State) : Nat → Option State
  | 0 => some s
  | k + 1 => match step s with
    | .next t => t.after k
    | .fault _ | .refused _ => none

/-- A run of the hub is safe: no step of it stops. -/
def State.safe (s : State) : Prop := ∀ k, (s.after k).isSome

/-! ## Frames

`core` is the hub less what carries messages out: outbound queues, reports, a waiting answer, and what the screen
director draws. `still` is `core` less what the floor controllers own: the floor states and turns of the seats, and the
four lists of each floor with its walk-in idle count. -/

/-- A lane less its outbound messages. -/
def Lane.inner (l : Lane) : Lane := { l with out := [] }

/-- The console request unit less its reports and its waiting answer. -/
def Cru.inner (c : Cru) : Cru := { c with made := [], reports := [], lost := 0, waiting := none }

/-- A screen record's written fields and binding. -/
def ScreenRec.inner (r : ScreenRec) : ScreenRec := { r.warmed with binding := r.binding }

/-- A camera record's written fields and binding. -/
def CameraRec.inner (c : CameraRec) : CameraRec := { c.warm with binding := c.binding }

/-- The screen director's written fields and bindings. -/
def Director.inner (d : Director) : Director :=
  { d with screens := d.screens.map ScreenRec.inner, cameras := d.cameras.map CameraRec.inner, plates := [],
           plateDue := [], waiting := [] }

/-- The hub less what carries messages out. -/
def State.core (s : State) : State :=
  { s with lane0 := s.lane0.inner, lane1 := s.lane1.inner, cru := s.cru.inner, sd := s.sd.inner }

/-- A seat record less its floor state, its displays and turn, and its count of turns. -/
def SeatRec.still (r : SeatRec) : SeatRec := { r.toState .idle with accTurns := 0 }

/-- A floor record less its four lists and its idle count. -/
def FloorRec.still (r : FloorRec) : FloorRec :=
  { r with queue := [], grantOrder := [], stack := [], susp := [], meeting := r.meeting.restIdle }

/-- The core less what the floor controllers own. -/
def State.still (s : State) : State :=
  { s.core with seats := s.seats.map SeatRec.still, floorA := s.floorA.still, floorB := s.floorB.still }

/-! ## Requests and answers (10 R187) -/

/-- The console request unit takes a request from this source now. -/
def State.readyFor (s : State) (h : Head) : Prop := s.cruFree = true ∧ s.fromConsole h = true

/-- The answer has been made: it is the last message of the source's outbound queue, or it waits for a place. -/
def State.answers (t : State) (h : Head) (c : Code) (data : List Octet) : Prop :=
  (t.lane h.branch).out.getLast? = some (answerMessage h c data .plain) ∨
  t.cru.waiting = some (h.branch, answerMessage h c data .plain)

/-- The source and tag of a request; other commands have none. -/
def requestHead : Instr → Option Head
  | .requestUnknownKind h _ => some h
  | .seatMap h _ | .checkIn h _ | .rosterEdit h _ | .floorSet h _ | .grant h _ | .closeSeat h _ | .clearQueue h _
  | .priorityEnd h _ | .gateSet h _ | .mixSet h _ | .lineSet h _ | .wallMode h _ | .clockSet h _ | .profileSet h _
  | .bookBegin h _ | .rosterPart h _ | .bookAbort h _ | .cancel h _ | .extend h _ | .walkinStart h _
  | .sessionEnd h _ | .screenSet h _ | .layoutSet h _ | .cameraSetCamera h _ | .cameraSetPreset h _ | .pathTest h _
  | .testInsert h _ | .counterSet h _ | .filterSet h _ | .reportTo h _ | .reportSet h _ | .statusQuerySeat h _
  | .statusQueryFloor h _ | .statusQueryBookings h _ | .statusQueryLevels h _ | .statusQueryMix h _
  | .statusQueryLink h _ | .statusQueryPower h _ | .reset h _ | .powerSet h _ | .sleep h _ | .wake h _ => some h
  | _ => none

/-- The code of a request that fails its common checks: an unknown kind, a length that does not suit the kind, an
unknown form or selector (10 R187, R192; 12 R208). -/
def malformed : Instr → Option Code
  | .requestUnknownKind _ _ => some .badKind
  | .seatMap _ .badLength | .checkIn _ .badLength | .rosterEdit _ .badLength | .floorSet _ .badLength
  | .grant _ .badLength | .closeSeat _ .badLength | .clearQueue _ .badLength | .priorityEnd _ .badLength
  | .gateSet _ .badLength | .mixSet _ .badLength | .lineSet _ .badLength | .wallMode _ .badLength
  | .clockSet _ .badLength | .profileSet _ .badLength | .bookBegin _ .badLength | .rosterPart _ .badLength
  | .bookAbort _ .badLength | .cancel _ .badLength | .extend _ .badLength | .walkinStart _ .badLength
  | .sessionEnd _ .badLength | .screenSet _ .badLength | .layoutSet _ .badLength | .cameraSetCamera _ .badLength
  | .cameraSetPreset _ .badLength | .pathTest _ .badLength | .testInsert _ .badLength | .counterSet _ .badLength
  | .filterSet _ .badLength | .reportTo _ .badLength | .reportSet _ .badLength | .statusQuerySeat _ .badLength
  | .statusQueryFloor _ .badLength | .statusQueryBookings _ .badLength | .statusQueryLevels _ .badLength
  | .statusQueryMix _ .badLength | .statusQueryLink _ .badLength | .statusQueryPower _ .badLength
  | .reset _ .badLength | .powerSet _ .badLength | .sleep _ .badLength | .wake _ .badLength => some .badLength
  | .seatMap _ .unknownForm | .checkIn _ .unknownForm | .rosterEdit _ .unknownForm | .floorSet _ .unknownForm
  | .grant _ .unknownForm | .closeSeat _ .unknownForm | .clearQueue _ .unknownForm | .priorityEnd _ .unknownForm
  | .gateSet _ .unknownForm | .mixSet _ .unknownForm | .lineSet _ .unknownForm | .wallMode _ .unknownForm
  | .clockSet _ .unknownForm | .profileSet _ .unknownForm | .bookBegin _ .unknownForm | .rosterPart _ .unknownForm
  | .bookAbort _ .unknownForm | .cancel _ .unknownForm | .extend _ .unknownForm | .walkinStart _ .unknownForm
  | .sessionEnd _ .unknownForm | .screenSet _ .unknownForm | .layoutSet _ .unknownForm
  | .cameraSetCamera _ .unknownForm | .cameraSetPreset _ .unknownForm | .pathTest _ .unknownForm
  | .testInsert _ .unknownForm | .counterSet _ .unknownForm | .filterSet _ .unknownForm | .reportTo _ .unknownForm
  | .reportSet _ .unknownForm | .statusQuerySeat _ .unknownForm | .statusQueryFloor _ .unknownForm
  | .statusQueryBookings _ .unknownForm | .statusQueryLevels _ .unknownForm | .statusQueryMix _ .unknownForm
  | .statusQueryLink _ .unknownForm | .statusQueryPower _ .unknownForm | .reset _ .unknownForm
  | .powerSet _ .unknownForm | .sleep _ .unknownForm | .wake _ .unknownForm => some .range
  | _ => none

/-- The request is answered with a code and changes nothing else. -/
def turnsAway (h : Head) (c : Code) (s t : State) : Prop := t.answers h c [] ∧ t.core = s.core

/-- The request is answered OK, and the hub's core is that of `u`. -/
def accepts (h : Head) (u t : State) : Prop := t.answers h .ok [] ∧ t.core = u.core

/-- The request is answered with a code and data, and the hub's core is that of `u`. -/
def answersWith (h : Head) (c : Code) (data : List Octet) (u t : State) : Prop := t.answers h c data ∧ t.core = u.core

/-- A reply made at once, as an answer with its data. -/
def repliesWith (h : Head) (r : Reply) (u t : State) : Prop := match r with
  | .now c data => answersWith h c data u t
  | .later => False

/-- The outcome of a whole booking (07 R125): a failed staging with its code, or the booking in the table in its place,
the answer BOOKED, and an evaluation pass. A pass that wakes a sleeping room cuts the lanes off, and the answer with
them. -/
def commits (h : Head) (b : Booking) (s t : State) : Prop :=
  if rosterFails b.roster then
    answersWith h .roster [] { s with staging := .failed h.source { b with roster := [] } .roster 0 } t
  else if s.conflicts 0 b.scope b.start b.stop then
    answersWith h .conflict [] { s with staging := .failed h.source { b with roster := [] } .conflict 0 } t
  else
    (∃ v : State, v.core = ({ s with bookings := insertBooking b s.bookings, staging := .idle } : State).core ∧
      t.core = (evaluationPass v).core) ∧
    (s.pwr.state = .active →
      answerMessage h .booked [] .plain ∈ (t.lane h.branch).out ∨
      t.cru.waiting = some (h.branch, answerMessage h .booked [] .plain))

/-! ## Keys (04 R78, 11 R197) -/

/-- The hub once a key's detector has given a PRESS while the room is ACTIVE: the idle count is back at 0. -/
def State.pressed (n : Nat) (k : Key) (s : State) : State :=
  restPower (s.modDets n (SeatDets.mod k Detector.press))

/-- What comes of a request of seat `n`, IDLE on a LIVE floor, that is taken in `u` (02 R24, R28 to R32): a seat that fails
admission starts its refusal display; a GUEST or DELEGATE joins the tail of the queue of a REQUEST or CHAIR_ONLY floor
that does not grant by itself, speaks at once on one that does with a slot free and an empty queue, or is refused by a
full queue; on an OPEN floor it speaks at once while a slot is free, is refused by a hold and, under REFUSE, by a full
floor, and under BUMP_OLDEST takes the place of the earliest-granted speaker that is no chair seat; on a VOICE floor it
is refused. A chair seat, in any mode, is refused by a hold, speaks at once while a slot is free, and else takes a place
in the same way; where every speaker is a chair seat the request is refused. -/
def requestTaken (n : Nat) (u t : State) : Prop :=
  let f := u.seatFloor n
  let refused : Prop := t.core = (u.modSeat n (fun r => { r with refusal := some 0 })).core
  let queued : Prop := t.core = ((u.modFloor f (fun r => { r with queue := r.queue ++ [n] })).modSeat n
    (SeatRec.toState .queued)).core
  let speaks (v : State) : Prop :=
    t.core = (becomeSpeaking n (startTurn (u.floor f).settings.turnLimit) (leaveQueue n v)).core
  let bumps : Prop := match (u.floor f).grantOrder.find? (fun m => !(u.seat m).role.isChair) with
    | none => refused
    | some m => speaks ((u.modFloor (u.seatFloor m) (fun r =>
        { r with grantOrder := r.grantOrder.filter (· != m) })).modSeat m (fun r => (r.toState .idle).accountTurn))
  if (u.admission n).isSome then refused
  else if (u.seat n).role.isChair then
    if u.holdActive f then refused else if u.slotFree f then speaks u else bumps
  else match (u.floor f).settings.mode with
    | .chairOnly => if 24 ≤ (u.floor f).queue.length then refused else queued
    | .request =>
      if 24 ≤ (u.floor f).queue.length then refused
      else if !(u.floor f).settings.autoGrant || !u.slotFree f then queued
      else if (u.floor f).queue = [] then speaks u
      else t.still = u.still
    | .openMic =>
      if u.holdActive f then refused
      else if u.slotFree f then speaks u
      else match (u.floor f).settings.fullPolicy with
        | .refuse => refused
        | .bumpOldest => bumps
    | .voice => refused

/-! ## Grants and holds (02, 03) -/

/-- The suspended seats of a floor that a settlement resumes (03 R54): under RESUME those whose account has not reached
its allowance, from the head of the list, as far as the open-mic limit allows; under DROP none. -/
def State.resumable (s : State) (f : Floor) : List SuspEntry :=
  let r := s.floor f
  if r.settings.resumePolicy = .resume then
    (r.susp.filter (fun e => !(s.seat e.seat).exhausted)).take (r.settings.openMicLimit - r.grantOrder.length)
  else []

/-- A floor's stack has become empty, its suspension list has been settled, and the grant pass has run (03 R54): the resumed
seats speak, in list order at the tail of the grant order, with the timers they had and no turn accounted; a turn of each
other suspended seat is accounted, and it is IDLE unless the pass of a VOICE floor has granted it afresh. -/
def settles (f : Floor) (s t : State) : Prop :=
  let r := s.floor f
  let resumed := s.resumable f
  let release : Option Nat := if r.settings.mode = .voice then some 0 else none
  (t.floor f).stack = [] ∧ (t.floor f).susp = [] ∧
  r.grantOrder ++ resumed.map (·.seat) <+: (t.floor f).grantOrder ∧
  (∀ e ∈ resumed, (t.seat e.seat).floorState = .speaking ∧ (t.seat e.seat).turn = some e.turn ∧
    (t.seat e.seat).release = release ∧ (t.seat e.seat).accTurns = (s.seat e.seat).accTurns) ∧
  ∀ e ∈ r.susp, e ∉ resumed → (t.seat e.seat).accTurns = min 255 ((s.seat e.seat).accTurns + 1) ∧
    (r.settings.mode ≠ .voice → (t.seat e.seat).floorState = .idle ∧ e.seat ∉ (t.floor f).grantOrder)

/-- The account of turns of seat `n` is that of `s`, with one turn more if `ended` (03 R63). -/
def turnsOf (n : Nat) (ended : Bool) (s t : State) : Prop :=
  (t.seat n).accTurns = if ended then min 255 ((s.seat n).accTurns + 1) else (s.seat n).accTurns

/-- Seat `n` has been granted (02 R32): it is SPEAKING, with a turn timer started from its floor's turn limit. -/
def grantedTurn (f : Floor) (n : Nat) (s t : State) : Prop :=
  (t.seat n).floorState = .speaking ∧ (t.seat n).turn = some (startTurn (s.floor f).settings.turnLimit) ∧
  turnsOf n false s t

/-- The grant pass of a VOICE floor whose speakers are `kept` (02 R34, R36): while a slot is free it grants the seats of the
floor that are IDLE, whose gates are OPEN and who would be admitted, by opening time and then by seat number. -/
def grantsVoices (f : Floor) (kept : List Nat) (s t : State) : Prop :=
  let opening (n : Nat) : Nat := ((s.chan n).opening).getD 0
  let before (m n : Nat) : Prop := opening m < opening n ∨ opening m = opening n ∧ m < n
  let candidate (n : Nat) : Prop := n ∈ s.floorSeats f ∧ (s.seat n).floorState = .idle ∧ (s.chan n).gate = .opened ∧
    s.admission n = none
  let full (k : Nat) : Prop := s.live f = false ∨ (s.floor f).stack ≠ [] ∨ (s.floor f).settings.openMicLimit ≤ k
  ∃ g : List Nat, (t.floor f).grantOrder = kept ++ g ∧ g.Pairwise before ∧
    (∀ n ∈ g, candidate n ∧ grantedTurn f n s t ∧ (t.seat n).release = some 0) ∧
    (g ≠ [] → ¬ full (kept.length + g.length - 1)) ∧
    ∀ n, candidate n → n ∉ g → full (kept.length + g.length) ∧ ∀ m ∈ g, before m n

/-- What an accepted FLOOR_SET makes of the seats of its floor `f`, where `new` are the settings written (02 R21, R41,
R42). A speaker that stays is as it was, but that a change from VOICE cancels its release count and one to VOICE starts
it at 0.
- To OPEN: the speakers within the new limit stay, the queue is granted from its head while a slot is free (none is
under a hold), and the rest of it is IDLE.
- REQUEST, newly or as before: the speakers within the limit stay, and with auto grant the pass fills the free slots
from the head of the queue, whose rest waits on.
- OPEN or CHAIR_ONLY as before: the speakers within the limit stay, and the queue waits on.
- VOICE: a change to it has made the queue IDLE; a speaker whose count has reached a release time newly written is
closed; and the grant pass runs (R34, R36).
Speakers beyond the limit are closed from the tail of the grant order with their turns accounted, and so is a speaker
whose count has run out. The suspension list and the stack stand, and nothing else of the floors changes. A change to
CHAIR_ONLY is not told here. -/
def floorSetTaken (f : Floor) (new : FloorSettings) (s t : State) : Prop :=
  let r := s.floor f
  let changed : Bool := r.settings.mode != new.mode
  let u := s.modFloor f (fun x => { x with settings := new })
  let within := r.grantOrder.take new.openMicLimit
  let free := if r.stack = [] then new.openMicLimit - r.grantOrder.length else 0
  let stays (n : Nat) : Prop :=
    t.seat n = { s.seat n with release := if changed && r.settings.mode == .voice then none else (s.seat n).release }
  let granted (n : Nat) : Prop := grantedTurn f n u t ∧ (t.seat n).release = none
  let closed (n : Nat) : Prop := (t.seat n).floorState = .idle ∧ turnsOf n true s t
  let standing : Prop := (t.floor f).susp = r.susp ∧ (t.floor f).stack = r.stack ∧
    ∀ n ∈ r.susp.map (·.seat), t.seat n = s.seat n
  let beyond : Prop := ∀ n ∈ r.grantOrder.drop new.openMicLimit, closed n
  (new.mode = .openMic → changed = true → standing ∧ beyond ∧
    (t.floor f).grantOrder = within ++ r.queue.take free ∧ (t.floor f).queue = [] ∧ (∀ n ∈ within, stays n) ∧
    (∀ n ∈ r.queue.take free, granted n) ∧
    ∀ n ∈ r.queue.drop free, (t.seat n).floorState = .idle ∧ turnsOf n false s t) ∧
  (new.mode = .request → let given := if new.autoGrant then r.queue.take free else []
    standing ∧ beyond ∧ (t.floor f).grantOrder = within ++ given ∧ (t.floor f).queue = r.queue.drop given.length ∧
    (∀ n ∈ within, stays n) ∧ (∀ n ∈ given, granted n) ∧ ∀ n ∈ r.queue.drop given.length, t.seat n = s.seat n) ∧
  (new.mode = .openMic ∨ new.mode = .chairOnly → changed = false → standing ∧ beyond ∧
    (t.floor f).grantOrder = within ∧ (t.floor f).queue = r.queue ∧ (∀ n ∈ within, stays n) ∧
    ∀ n ∈ r.queue, t.seat n = s.seat n) ∧
  (new.mode = .voice →
    let runOut (n : Nat) : Bool := !changed && r.settings.voiceRelease != new.voiceRelease &&
      new.voiceRelease * 1000 ≤ (s.seat n).release.getD 0
    let kept := within.filter (fun n => !runOut n)
    let gone := r.grantOrder.filter (fun n => !kept.contains n)
    let dropped := if changed then r.queue else []
    let v := forAll gone (fun n => State.modSeat n (fun x => (x.toState .idle).accountTurn))
      (forAll dropped (fun n => State.modSeat n (SeatRec.toState .idle)) u)
    standing ∧ (t.floor f).queue = (if changed then [] else r.queue) ∧
    (∀ n ∈ kept, t.seat n = { s.seat n with release := if changed then some 0 else (s.seat n).release }) ∧
    (∀ n ∈ gone, turnsOf n true s t ∧ (n ∉ (t.floor f).grantOrder → (t.seat n).floorState = .idle)) ∧
    (∀ n ∈ dropped, turnsOf n false s t ∧ (n ∉ (t.floor f).grantOrder → (t.seat n).floorState = .idle)) ∧
    grantsVoices f kept v t) ∧
  (∀ n, n ∉ r.queue → n ∉ r.grantOrder → n ∉ r.susp.map (·.seat) → n ∉ (t.floor f).grantOrder →
    t.seat n = s.seat n) ∧
  ∀ g, g ≠ f → t.floor g = s.floor g

/-! ## The hub's own events -/

/-- What makes an event of the hub's own due, by the limit that its rule gives: a reset whose answer has been sent (10
R193); the next source of a branch with a message waiting and a place free (R188); 16 consecutive up-frames in DOWN, 50
ms without one else, 20 ms without a ROLL reply (09 R161, R164); a reading that differs (06 R106), a settle of 10,000 ms
(R107); a detector with 18 set samples, 2 or fewer, or held for 1,500 ms (04 R78, R79), for the floor controller in
ACTIVE and else for the power manager (R80); a refusal display of 2,000 ms (02 R24), a wrong-seat display of 10,000 ms
(08 R153), a card flag clear for 2,000 ms (01 R11); a full second 59 (07 R117); an idle count that has reached its
setting (R136, 11 R197); a part timer of 2,000 ms (07 R126); a fault flag that differs, a warm-up that has reached its
time, a changed record 250 ms after the last SHOW (08 R145, R146, R150); a path test at its duration, a link window's
end (09 R177, R168); 16 full frames on each branch that is not DOWN, 500 ms of WAKING (11 R200). -/
def State.due (s : State) (i : Instr) : Prop :=
  let waits (b : Branch) (x : Source) : Prop := (s.lane b).out.length < 16 ∧ s.nextSource b = some x
  let key (n : Nat) (k : Key) (e : KeyEvent) : Prop :=
    let d := (s.detectors n).get k
    let press : Prop := d.pressed = false ∧ 18 ≤ d.count
    let release : Prop := d.pressed = true ∧ d.count ≤ 2
    let long : Prop := d.pressed = true ∧ 2 < d.count ∧ d.longGiven = false ∧ d.held = some 1500
    n ∈ allSeats ∧ s.givesKeys n = true ∧ match e with
      | .press => press
      | .release => release
      | .long => long
  let shows (k : Nat) : Prop := k ∈ List.range' 1 8 ∧ s.reachable (s.screen k).binding = true
  match i with
  | .resetAfterAnswer => s.cru.phase = .resetDue
  | .answerPlaced => ∃ b, waits b .answer
  | .relayPlaced b => waits b .relay
  | .directiveHandedOn => ∃ b, waits b .directive
  | .reportPlaced => ∃ b, waits b .report
  | .branchUp b => (s.br b).state = .down ∧ 16 ≤ (s.br b).upCount
  | .branchDown b => (s.br b).state ≠ .down ∧ 50 ≤ (s.br b).silence
  | .rollSilence b => (s.br b).state = .enumerating ∧ ∃ x, (s.br b).roll = some x ∧ 20 ≤ x.wait
  | .wallReadingChange r => s.part.sampled = r ∧ r ≠ s.part.reading
  | .settleComplete => s.part.mode = .follow ∧ s.part.settled = false ∧ ∃ v n, s.part.settle = some (v, n) ∧ 10000 ≤ n
  | .micPress n => s.pwr.state = .active ∧ key n .mic .press
  | .priorityPress n => s.pwr.state = .active ∧ key n .priority .press
  | .nextPress n => s.pwr.state = .active ∧ key n .next .press
  | .priorityRelease n => s.pwr.state = .active ∧ key n .priority .release
  | .keyRelease n k => s.pwr.state = .active ∧ k ≠ .priority ∧ key n k .release
  | .keyLong n k => s.pwr.state = .active ∧ key n k .long
  | .keyToPower n k e => s.pwr.state ≠ .active ∧ key n k e
  | .refusalDisplayEnd n => n ∈ allSeats ∧ (s.seat n).refusal = some 2000
  | .seeSeatDisplayEnd n => n ∈ allSeats ∧ (s.plate n).see ≠ none ∧ 10000 ≤ (s.plate n).count
  | .cardFlagLoss n => n ∈ allSeats ∧ (s.seat n).presence = .card ∧ 2000 ≤ (s.seat n).cardClear
  | .minuteBoundary => ∃ c, s.clock = some c ∧ 1000 ≤ c.ms ∧ c.minute < 16777215
  | .walkinIdleEnd f => (s.meeting f).state = .walkIn ∧ (s.meeting f).idleDue = true ∧ 0 < (s.meeting f).idle
  | .stagingPartTimeout => (∃ x b n t, s.staging = .staging x b n t ∧ 2000 ≤ t) ∨
      ∃ x b c t, s.staging = .failed x b c t ∧ 2000 ≤ t
  | .screenFaultChange k flag => shows k ∧ (flag = true ↔ (s.screen k).power ≠ .fault) ∧
      ∃ e, (s.screen k).binding.bind s.entry? = some e ∧ e.faultTaken = flag
  | .warmupDone k => shows k ∧ (s.screen k).power = .warming ∧
      ∀ x, (s.screen k).warm = some x → x.2 * 1000 ≤ x.1
  | .showIntervalEnd k => shows k ∧ (s.screen k).power = .on ∧ (s.screen k).unsent = true ∧
      (∀ x, (s.screen k).lastShow = some x → x + 250 ≤ s.now) ∧ ∀ d ∈ s.sd.waiting, d.target ≠ .screenShow k
  | .pathTestEnd => ∃ x, s.test = some x ∧ x.duration * 1000 ≤ x.elapsed
  | .linkWindowEnd => s.windowDue = true
  | .trunkLock => s.pwr.state = .waking ∧ s.pwr.progress = .started ∧
      ∀ b, (s.br b).state = .down ∨ 16 ≤ (s.br b).fullCount
  | .wakeTimeout => s.pwr.state = .waking ∧ ∀ x, s.pwr.start = some x → x + 500 ≤ s.now
  | .dimEntry => s.pwr.state = .active ∧ s.bothVacant = true ∧ s.pwr.dimDue = true ∧ 0 < s.pwr.idle
  | _ => False

/-! ## The trunk (09) -/

/-- At the end of branch `b`'s enumeration a seat whose serial its table holds stands where the tables say, and any other
seat stays bound as it was (01 R3; log entry 34). -/
def seatsBound (b : Branch) (s t : State) : Prop :=
  ∀ n ∈ allSeats, (t.seat n).binding =
    if t.hasSeat b (t.seat n).serial then t.placeOf .seat (t.seat n).serial else (s.seat n).binding

/-- Every line, screen and camera stands where the node tables say its serial is (05 R100, 08 R142). -/
def State.boundByTables (t : State) : Prop :=
  (∀ l, (t.line l).binding = t.placeOf .line (t.line l).serial) ∧
  (∀ k ∈ List.range' 1 8, (t.screen k).binding = t.placeOf .screen (t.screen k).serial) ∧
  (∀ k ∈ List.range' 1 4, (t.camera k).binding = t.placeOf .camera (t.camera k).serial)

/-- An enumeration of branch `b` has ended with a node table (09 R166): the branch is RUNNING, or in BEACON while the
room sleeps, everything is bound by the tables, and the wall source is the lowest wall node. -/
def enumerates (b : Branch) (table : List NodeEntry) (s t : State) : Prop :=
  (t.br b).state = (if s.pwr.state = .sleep then .beacon else .running) ∧ (t.br b).table = table ∧
  (t.br b).roll = none ∧ (t.br b).enumEnded = true ∧ seatsBound b s t ∧ t.boundByTables ∧ t.part.source = t.lowest .wall

/-- The limit of a bad run and of a good run (09 R167). -/
def NodeEntry.reaches (running : Bool) (e : NodeEntry) : Bool :=
  if e.link = .lost then (if running then 1600 else 100) ≤ e.goodRun else (if running then 800 else 50) ≤ e.badRun

/-! ## The laws that every step keeps -/

/-- A pending target stands only while a floor runs a meeting (06 R109, R110). -/
def PartitionLaw (s : State) : Prop := s.anyRuns = true ∨ s.part.target = s.part.partition

/-- The room dims or sleeps only while both floors are VACANT (11 R196). -/
def PowerLaw (s : State) : Prop :=
  s.pwr.state = .dim ∨ s.pwr.state = .sleep → (s.meeting .A).state = .vacant ∧ (s.meeting .B).state = .vacant

/-- The nodes of a branch stand in the order of the chain, each at a position of its own, and so do those that an
enumeration under way has found, which is past all of them (09 R164, R165). -/
def NodeTablesInOrder (s : State) : Prop :=
  ∀ b, ((s.br b).table.map (·.position)).Pairwise (· < ·) ∧
    (∀ e ∈ (s.br b).table, 1 ≤ e.position ∧ e.position ≤ 24) ∧
    ∀ r, (s.br b).roll = some r →
      1 ≤ r.position ∧ r.position ≤ 25 ∧ (r.found.map (·.position)).Pairwise (· < ·) ∧
      ∀ e ∈ r.found, 1 ≤ e.position ∧ e.position < r.position

/-- A lane within its bounds: 16 outbound places, 4 inbound places (10 R183, R188), and a reception holds one of
them (R182). -/
def Lane.bounded (l : Lane) : Prop :=
  l.out.length ≤ 16 ∧ l.places.length ≤ 4 ∧
  ∀ p g, l.turn = .receiving p g → ∃ x ∈ l.places, x.use = .receiving

/-- The queues of the hub are within their bounds (10 R183, R188, R189), and every report that was made is delivered. -/
def QueuesBounded (s : State) : Prop :=
  s.lane0.bounded ∧ s.lane1.bounded ∧ s.cru.reports.length ≤ 32 ∧ s.cru.made = []

/-- Floor settings within the ranges of 02 section 2.2. -/
def FloorSettings.inRange (a : FloorSettings) : Prop :=
  (1 ≤ a.openMicLimit ∧ a.openMicLimit ≤ 8) ∧ (a.turnLimit = 0 ∨ 10 ≤ a.turnLimit ∧ a.turnLimit ≤ 3600) ∧
  a.warnLead ≤ 120 ∧ (1 ≤ a.voiceRelease ∧ a.voiceRelease ≤ 30) ∧ (10 ≤ a.walkinIdle ∧ a.walkinIdle ≤ 60)

/-- Gate settings within the ranges of 04 section 4.3, the close band above the open band (04 R71). -/
def GateSettings.inRange (a : GateSettings) : Prop :=
  a.openBand ≤ 22 ∧ a.openBand < a.closeBand ∧ a.closeBand ≤ 23 ∧ 100 ≤ a.hangTime ∧ a.hangTime ≤ 2000

/-- A gain within a range, or mute. -/
def Gain.within (lo hi : Int) : Gain → Prop
  | .mute => True
  | .db x => lo ≤ x ∧ x ≤ hi

/-- Mix settings within the ranges of 05 section 5.5. -/
def MixSettings.inRange (a : MixSettings) : Prop :=
  Gain.within (-60) 0 a.closedGate ∧ Gain.within (-60) 0 a.priorityDuck ∧ Gain.within (-60) 0 a.proximityDuck ∧
  Gain.within (-60) 0 a.talkerDuck ∧ -80 ≤ a.level ∧ a.level ≤ 0

/-- A profile within the ranges of its settings (07 section 7.2). -/
def Profile.inRange (p : Profile) : Prop := p.floor.inRange ∧ p.gate.inRange ∧ p.mix.inRange ∧ p.lead ≤ 30

/-- A floor's settings within their ranges. -/
def FloorRec.inRange (r : FloorRec) : Prop := r.settings.inRange ∧ r.gate.inRange ∧ r.mix.inRange

/-- Every setting of the floors and the profiles is within its range. -/
def SettingsInRange (s : State) : Prop := s.floorA.inRange ∧ s.floorB.inRange ∧ ∀ p ∈ s.profiles, p.inRange

/-- The hub's tables have the sizes that the manual gives them. -/
def TablesWhole (s : State) : Prop :=
  s.seats.length = 48 ∧ s.chans.length = 50 ∧ s.dets.length = 48 ∧ s.satur.length = 50 ∧ s.profiles.length = 8 ∧
  s.sd.screens.length = 8 ∧ s.sd.layouts.length = 16 ∧ s.sd.cameras.length = 4 ∧ s.sd.plates.length = 48 ∧
  s.filter.length = 4 ∧ s.cru.enables.length = 12

/-- The room clock is within its range (07 R117); 1,000 ms stand at a boundary that is still to be taken. -/
def ClockInRange (s : State) : Prop :=
  ∀ c, s.clock = some c → c.minute ≤ 16777215 ∧ c.second ≤ 59 ∧ c.ms ≤ 1000

/-- Two bookings do not conflict (07 R121). -/
def Booking.apart (a b : Booking) : Prop := a.scope.meets b.scope = true → a.stop ≤ b.start ∨ b.stop ≤ a.start

/-- A staging whose booking can still be committed: its id is not in the table, a place is free for it, and it has not
had more entries than it announced (07 R123, R124). -/
def Staging.sound (bookings : List Booking) : Staging → Prop
  | .idle => True
  | .failed _ _ _ _ => True
  | .staging _ b n _ =>
    b.id ≠ 0 ∧ (∀ x ∈ bookings, x.id ≠ b.id) ∧ bookings.length < 64 ∧ b.roster.length < n ∧ b.start < b.stop

/-- The booking table and the roster pool are as 07 R120 to R122 say: at most 64 bookings, in table order, each with an
id of its own, not 0, and a start before its end, no two in conflict, and at most 768 pool entries in use. A floor in
WALK_IN serves no booking (R127). -/
def CalendarSound (s : State) : Prop :=
  s.bookings.length ≤ 64 ∧ (s.bookings.map (·.id)).Nodup ∧ s.bookings.Pairwise (fun a b => a.before b = true) ∧
  s.bookings.Pairwise Booking.apart ∧ (∀ b ∈ s.bookings, b.id ≠ 0 ∧ b.start < b.stop) ∧ s.poolInUse ≤ 768 ∧
  s.staging.sound s.bookings ∧ ∀ f, (s.meeting f).state = .walkIn → (s.meeting f).served = none

/-- The seats that a floor's four lists name. -/
def FloorRec.named (r : FloorRec) : List Nat :=
  r.queue ++ r.grantOrder ++ r.susp.map (·.seat) ++ r.stack.map (·.holder)

/-- The lists of a floor name seats of that floor alone, they are empty unless the floor is LIVE, no more seats speak
than its open-mic limit allows, and its stack has at most two entries (02 R17 to R19, 03 R46). -/
def ListsPlaced (s : State) : Prop :=
  ∀ f, (∀ n ∈ (s.floor f).named, n ∈ allSeats ∧ s.seatFloor n = f) ∧
    (s.live f = false → (s.floor f).named = []) ∧
    (s.floor f).grantOrder.length ≤ (s.floor f).settings.openMicLimit ∧ (s.floor f).stack.length ≤ 2

/-- A seat stands in the list of its floor that its floor state says, once, and in no other (02 R18, R19; 03 R47, R55). -/
def State.standsOnce (s : State) (n : Nat) : Prop :=
  let r := s.floor (s.seatFloor n)
  let st := (s.seat n).floorState
  r.queue.count n = (if st = .queued then 1 else 0) ∧ r.grantOrder.count n = (if st = .speaking then 1 else 0) ∧
  (r.susp.map (·.seat)).count n = (if st = .suspended then 1 else 0) ∧
  (r.stack.map (·.holder)).count n = if st = .priority ∨ st = .priorityWait then 1 else 0

/-- A floor's hold (03 R47, R49, R54): with an empty stack nothing is suspended, with a hold nobody speaks; the top
holder is PRIORITY and the lower one PRIORITY_WAIT. No chair seat waits in the queue (02 R31, 01 R8). -/
def HoldsOrdered (s : State) : Prop :=
  ∀ f, let r := s.floor f
    (r.stack = [] → r.susp = []) ∧ (r.stack ≠ [] → r.grantOrder = []) ∧
    (∀ e rest, r.stack = e :: rest → (s.seat e.holder).floorState = .priority ∧
      ∀ x ∈ rest, (s.seat x.holder).floorState = .priorityWait) ∧
    ∀ n ∈ r.queue, (s.seat n).role.isChair = false

/-- Every seat stands where its floor state says. -/
def SeatsStandOnce (s : State) : Prop := (∀ n ∈ allSeats, s.standsOnce n) ∧ HoldsOrdered s

/-- A seat is IDLE and off its floor's lists. -/
def State.released (t : State) (n : Nat) : Prop :=
  (t.seat n).floorState = .idle ∧ n ∉ (t.floor (t.seatFloor n)).named

/-- A forced release (02 R43; 03 R53, R57, R63): the seat is IDLE and off its floor's lists, and a turn that was running
or suspended is accounted. -/
def releasedFrom (s : State) (n : Nat) (t : State) : Prop :=
  t.released n ∧ (t.seat n).accTurns = match (s.seat n).floorState with
    | .speaking | .suspended | .priority => min 255 ((s.seat n).accTurns + 1)
    | .idle | .queued | .priorityWait => (s.seat n).accTurns

end Sys2Proof.Machine
end

