-- ==== Sys2Proof/Certificates/Slice0/Obligations.lean ====
section
/-! DEFINITION. The statements about the hub that are to be proved. -/

open Sys2Proof Sys2Proof.Machine

/-! ## The queue of commands and the common checks of requests -/

/-- A step runs the command at the front of the queue on the hub with the rest of the queue. With no command waiting
it runs what is due in the hub itself, or one millisecond passes; that second part is the model's choice (log entries
1 and 3). What is due, and that it is run, TheClockIsSetAndAdvances says. -/
def Obligations.StepRunsTheFrontCommand : Prop :=
  (∀ (i : Instr) (rest : List Instr) (s : State),
     step { s with pending := i :: rest } = exec i { s with pending := rest }) ∧
  (∀ s : State, s.pending = [] →
     (∀ i t, s.ownCommand = some (i, t) → step s = exec i t) ∧ (s.ownCommand = none → step s = .next (tick s)))

/-- Every command answers a next state, whatever the state; so no run of the hub stops. It leaves the queue of waiting
commands as it is, which is the model's choice: the queue is no part of the hub (log entry 46). -/
def Obligations.EveryCommandAnswersNext : Prop :=
  (∀ (i : Instr) (s : State), ∃ t, exec i s = .next t ∧ t.pending = s.pending) ∧ ∀ s : State, s.safe

/-- The common checks of a request, by a console request unit that is free (10 R187): REFUSED for a source that is no
console, then the code of an unknown kind, an unsuited length, an unknown form. While the unit is busy or holds a
waiting answer, a request waits in a free place of its branch, and one that finds no free place changes nothing (log
entry 4); when the unit is free again it takes the request that completed earliest, which frees its place. -/
def Obligations.RequestsPassTheCommonChecks : Prop :=
  (∀ (i : Instr) (h : Head) (s : State), requestHead i = some h → s.cruFree = true →
    (s.fromConsole h = false → ∃ t, exec i s = .next t ∧ turnsAway h .refused s t) ∧
    (s.fromConsole h = true → ∀ c, malformed i = some c → ∃ t, exec i s = .next t ∧ turnsAway h c s t)) ∧
  (∀ (i : Instr) (h : Head) (s : State), requestHead i = some h → s.cruFree = false →
    exec i s = .next (if 4 ≤ (s.lane h.branch).places.length then s
      else { s.modLane h.branch (fun l => { l with places := l.places ++
          [⟨[], ((bindingOf h.source).map (·.position)).getD 0, .request i, s.stamp⟩] }) with stamp := s.stamp + 1 })) ∧
  (∀ s : State, s.cruFree = false → s.nextRequest = none) ∧
  ∀ s : State, s.cruFree = true →
    let asked := (s.lane0.places ++ s.lane1.places).filter (fun p => p.use.request?.isSome)
    (asked = [] → s.nextRequest = none) ∧
    (asked ≠ [] → ∃ p ∈ asked, ∃ i, p.use.request? = some i ∧ (∀ q ∈ asked, p.stamp ≤ q.stamp) ∧
      s.nextRequest = some (i, freeRequest p.stamp s))

/-! ## Seats and roster (01) -/

/-- SEAT_MAP (01 R4, R5): the checks in order; then each named seat has the serial, side, trim and neighbours of its
entry and binds by its serial, and no other seat's map fields change. -/
def Obligations.SeatMapWritesTheNamedSeats : Prop :=
  ∀ (h : Head) (es : List SeatMapEntry) (s : State), s.readyFor h → TablesWhole s →
    ∃ t, exec (.seatMap h (.fields es)) s = .next t ∧
      if es.isEmpty || 4 < es.length || es.any mapEntryBad then turnsAway h .range s t
      else if es.any s.mapLocked then turnsAway h .locked s t
      else if s.mapDuplicate es then turnsAway h .duplicate s t
      else
        t.answers h .ok [] ∧
        (∀ e ∈ es,
          (t.seat e.seat).serial = e.serial.toOption ∧ some (t.seat e.seat).side = floorOfCode e.side ∧
          (t.seat e.seat).trim = clampInt (-24) 24 e.trim ∧
          (t.seat e.seat).neighbours = keptNeighbours e.seat [] e.neighbours ∧
          (t.seat e.seat).binding =
            if (s.seat e.seat).serial = e.serial.toOption then (s.seat e.seat).binding
            else s.placeOf .seat e.serial.toOption) ∧
        (∀ n, (∀ e ∈ es, e.seat ≠ n) →
          (t.seat n).serial = (s.seat n).serial ∧ (t.seat n).side = (s.seat n).side ∧
          (t.seat n).trim = (s.seat n).trim ∧ (t.seat n).neighbours = (s.seat n).neighbours ∧
          (t.seat n).binding = (s.seat n).binding) ∧
        (∀ n, (t.seat n).role = (s.seat n).role ∧ (t.seat n).delegate = (s.seat n).delegate ∧
          (t.seat n).presence = (s.seat n).presence ∧ (t.seat n).presets = (s.seat n).presets) ∧
        t.br0 = s.br0 ∧ t.br1 = s.br1 ∧ t.part = s.part ∧ t.clock = s.clock ∧ t.bookings = s.bookings ∧
        t.profiles = s.profiles ∧ t.pwr = s.pwr ∧ t.filter = s.filter

/-- CHECK_IN (01 R13): the checks in order; then the seat is PRESENT by CONSOLE, it is one of the checked-in seats of
its meeting, a CHECK_IN meeting is IN_SESSION (07 R131), and nothing else changes. -/
def Obligations.CheckInMakesASeatPresent : Prop :=
  ∀ (h : Head) (n : Nat) (s : State), s.readyFor h →
    ∃ t, exec (.checkIn h (.fields n)) s = .next t ∧
      let f := s.seatFloor n
      if badSeat n then turnsAway h .range s t
      else if !(s.meeting f).state.takesCards then turnsAway h .state s t
      else if (s.seat n).role = .none then turnsAway h .notFound s t
      else if (s.seat n).presence ≠ .absent then turnsAway h .already s t
      else accepts h
        ((s.modSeat n (fun r => { r with presence := .console, cardClear := 0 })).modMeeting f (fun m =>
          { m with checkedIn := if m.checkedIn.contains n then m.checkedIn else m.checkedIn ++ [n],
                   state := if m.state = .checkIn then .inSession else m.state })) t

/-- ROSTER_EDIT (01 R7, R8): the checks in order; then the seat has the role and delegate record given, and all that
may change beside them is what a release on its floor changes. A seat whose role becomes NONE is released (02 R43), a
QUEUED seat that becomes a chair seat is IDLE and off the queue, and a holder that loses or exchanges its chair role
is IDLE and off the stack, unless the grant pass of a VOICE floor grants it again. -/
def Obligations.RosterEditWritesOneSeat : Prop :=
  ∀ (h : Head) (a : RosterArg) (s : State), s.readyFor h →
    ∃ t, exec (.rosterEdit h (.fields a)) s = .next t ∧
      match editRole a with
      | none => turnsAway h .range s t
      | some role =>
        if editBad a then turnsAway h .range s t
        else if !s.runs (s.seatFloor a.seat) then turnsAway h .state s t
        else if s.editLocked a.seat role then turnsAway h .locked s t
        else if s.editClashes a.seat role (a.record.map (·.card)) then turnsAway h .roster s t
        else t.answers h .ok [] ∧
          t.still = (s.modSeat a.seat (fun r => { r with role := role, delegate := a.record })).still ∧
          (TablesWhole s → ListsPlaced s → s.standsOnce a.seat →
            (role = .none → releasedFrom s a.seat t) ∧
            ((s.seat a.seat).floorState = .queued → role.isChair = true → releasedFrom s a.seat t) ∧
            ((s.seat a.seat).floorState = .priority ∨ (s.seat a.seat).floorState = .priorityWait →
              (s.seat a.seat).role.isChair = true → role ≠ (s.seat a.seat).role →
              (s.floor (s.seatFloor a.seat)).settings.mode ≠ .voice → releasedFrom s a.seat t))

/-! ## The floor requests (02, 03) -/

/-- FLOOR_SET (02 R21, R41, R42): the checks in order; then the floor has the settings given, clamped; no more seats
speak than its open-mic limit allows; a change to OPEN or VOICE has emptied the request queue; a change to VOICE
starts the release counts of those who go on speaking; a change to CHAIR_ONLY has made every SPEAKING and every
SUSPENDED seat that is no chair seat IDLE, with its turn accounted, and keeps the order of the others, the queue and
the stack, the release counts being cancelled where the old mode was VOICE. What the other changes of mode do, and a
FLOOR_SET without one, `floorSetTaken` says: who is granted from the queue and who is IDLE, whose release count is
cancelled, started or run out, which speakers are closed beyond the limit, from the tail and with their turns
accounted. All that may change beside these is what the floor controllers own. -/
def Obligations.FloorSetChangesTheSettings : Prop :=
  ∀ (h : Head) (a : FloorSetArg) (s : State), s.readyFor h →
    ∃ t, exec (.floorSet h (.fields a)) s = .next t ∧
      match floorOfCode a.floor with
      | none => turnsAway h .range s t
      | some f =>
        if a.settings.nonePresent || a.settings.bad then turnsAway h .range s t
        else if !s.runs f then turnsAway h .state s t
        else
          let new := a.settings.write (s.floor f).settings
          t.answers h .ok [] ∧ (t.floor f).settings = new ∧
          (ListsPlaced s → (t.floor f).grantOrder.length ≤ new.openMicLimit) ∧
          (ListsPlaced s → (s.floor f).settings.mode ≠ new.mode → new.mode = .openMic ∨ new.mode = .voice →
            (t.floor f).queue = []) ∧
          (ListsPlaced s → TablesWhole s → SeatsStandOnce s → (s.floor f).settings.mode ≠ new.mode →
            let r := s.floor f
            let chair (n : Nat) : Bool := (s.seat n).role.isChair
            (new.mode = .voice → r.grantOrder.take new.openMicLimit <+: (t.floor f).grantOrder ∧
              (∀ n ∈ r.grantOrder.take new.openMicLimit, (t.seat n).floorState = .speaking ∧
                (t.seat n).turn = (s.seat n).turn ∧ (t.seat n).release = some 0) ∧
              (t.floor f).susp = r.susp) ∧
            (new.mode = .chairOnly →
              (t.floor f).grantOrder = (r.grantOrder.filter chair).take new.openMicLimit ∧
              (t.floor f).susp = r.susp.filter (fun e => chair e.seat) ∧ (t.floor f).queue = r.queue ∧
              (t.floor f).stack = r.stack ∧
              ∀ n, n ∈ r.grantOrder ∨ n ∈ r.susp.map (·.seat) →
                if n ∈ (t.floor f).grantOrder then (t.seat n).floorState = .speaking ∧
                  (t.seat n).turn = (s.seat n).turn ∧ turnsOf n false s t ∧
                  (t.seat n).release = if r.settings.mode = .voice then none else (s.seat n).release
                else if n ∈ (t.floor f).susp.map (·.seat) then t.seat n = s.seat n
                else (t.seat n).floorState = .idle ∧ turnsOf n true s t)) ∧
          (ListsPlaced s → TablesWhole s → SeatsStandOnce s → SettingsInRange s → floorSetTaken f new s t) ∧
          t.still = (s.modFloor f (fun r => { r with settings := new })).still

/-- GRANT (02 R32, R37): the checks in order; then the seat has left the queue and is SPEAKING with a turn timer
started from the turn limit, and all that may change beside it is what the floor controllers own. -/
def Obligations.GrantMakesAQueuedSeatSpeak : Prop :=
  ∀ (h : Head) (a : GrantArg) (s : State), s.readyFor h → TablesWhole s → ListsPlaced s →
    ∃ t, exec (.grant h (.fields a)) s = .next t ∧
      match floorOfCode a.floor with
      | none => turnsAway h .range s t
      | some f =>
        if 48 < a.seat then turnsAway h .range s t
        else if s.grantBarred f a.seat then turnsAway h .state s t
        else match s.grantTarget f a.seat with
          | none => turnsAway h .notQueued s t
          | some n =>
            if !s.slotFree f then turnsAway h .full s t
            else t.answers h .ok [] ∧ (t.seat n).floorState = .speaking ∧
              (t.seat n).turn = some (startTurn (s.floor f).settings.turnLimit) ∧
              n ∉ (t.floor f).queue ∧ (s.floor f).grantOrder ++ [n] <+: (t.floor f).grantOrder ∧
              t.still = s.still

/-- CLOSE_SEAT (02 R33, R38, 03 R57): the checks in order; then the turn of a SPEAKING or SUSPENDED seat is accounted
and that of a QUEUED one is not, the seat has left its floor's list and is IDLE (unless the grant pass of a VOICE
floor has granted it again), and all that may change beside it is what the floor controllers own. -/
def Obligations.CloseSeatTakesASeatOff : Prop :=
  ∀ (h : Head) (n : Nat) (s : State), s.readyFor h →
    ∃ t, exec (.closeSeat h (.fields n)) s = .next t ∧
      let f := s.seatFloor n
      if badSeat n then turnsAway h .range s t
      else if !s.live f || s.seatLink n == .lost then turnsAway h .state s t
      else match (s.seat n).floorState with
        | .priority => turnsAway h .state s t
        | .priorityWait => turnsAway h .state s t
        | .idle => turnsAway h .already s t
        | .queued => t.answers h .ok [] ∧ t.still = s.still ∧ (t.seat n).accTurns = (s.seat n).accTurns ∧
          n ∉ (t.floor f).queue ∧ ((s.floor f).settings.mode ≠ .voice → (t.seat n).floorState = .idle)
        | .speaking => t.answers h .ok [] ∧ t.still = s.still ∧
          (t.seat n).accTurns = min 255 ((s.seat n).accTurns + 1) ∧
          ((s.floor f).settings.mode ≠ .voice → n ∉ (s.floor f).queue →
            (t.seat n).floorState = .idle ∧ n ∉ (t.floor f).grantOrder)
        | .suspended => t.answers h .ok [] ∧ t.still = s.still ∧
          (t.seat n).accTurns = min 255 ((s.seat n).accTurns + 1) ∧ n ∉ (t.floor f).susp.map (·.seat) ∧
          ((s.floor f).settings.mode ≠ .voice → n ∉ (s.floor f).queue → (t.seat n).floorState = .idle)

/-- CLEAR_QUEUE (02 R39): the checks in order; then every entry of the queue is IDLE and the queue is empty, and
speakers, holds and the suspension list stand as they were, as does all else. PRIORITY_END (03 R58): the checks in
order; then the floor's stack and its suspension list are empty, and all that may change beside them is what the floor
controllers own. The turn of a PRIORITY holder is accounted, and every holder is IDLE; the list has been settled
(R54): under RESUME the suspended seats whose account has not reached its allowance speak again from the head of the
list within the open-mic limit, in list order at the tail of the grant order, with the timers they had and no turn
accounted; a turn of each other suspended seat is accounted, and it is IDLE, unless the grant pass of a VOICE floor
grants a seat afresh. -/
def Obligations.QueueAndStackRequestsEmptyThem : Prop :=
  (∀ (h : Head) (k : Nat) (s : State), s.readyFor h → ListsPlaced s →
     ∃ t, exec (.clearQueue h (.fields k)) s = .next t ∧
       match floorOfCode k with
       | none => turnsAway h .range s t
       | some f =>
         if !s.live f then turnsAway h .state s t
         else accepts h
           (forAll (s.floor f).queue (fun n => State.modSeat n (SeatRec.toState .idle))
             (s.modFloor f (fun r => { r with queue := [] }))) t) ∧
  (∀ (h : Head) (k : Nat) (s : State), s.readyFor h → ListsPlaced s →
     ∃ t, exec (.priorityEnd h (.fields k)) s = .next t ∧
       match floorOfCode k with
       | none => turnsAway h .range s t
       | some f =>
         if !s.live f then turnsAway h .state s t
         else if !s.holdActive f then turnsAway h .already s t
         else t.answers h .ok [] ∧ (t.floor f).stack = [] ∧ (t.floor f).susp = [] ∧ t.still = s.still ∧
           (TablesWhole s → SeatsStandOnce s → settles f s t ∧
             ∀ e ∈ (s.floor f).stack, turnsOf e.holder ((s.seat e.holder).floorState == .priority) s t ∧
               ((s.floor f).settings.mode ≠ .voice → (t.seat e.holder).floorState = .idle)))

/-! ## Settings: floors, profiles, lines, partition, clock (04 to 07) -/

/-- GATE_SET (04 R71, R72) and MIX_SET (05 R99): the checks in order; then the floor has the settings given, clamped.
PROFILE_SET (07 R119): RANGE; then the profile has the settings given, clamped. Nothing else changes. -/
def Obligations.SettingsRequestsWriteTheirRecords : Prop :=
  ((∀ (h : Head) (a : GateSetArg) (s : State), s.readyFor h →
     ∃ t, exec (.gateSet h (.fields a)) s = .next t ∧
       match floorOfCode a.floor with
       | none => turnsAway h .range s t
       | some f =>
         if a.settings.nonePresent || a.settings.bad then turnsAway h .range s t
         else if !s.runs f then turnsAway h .state s t
         else accepts h (s.modFloor f (fun r => { r with gate := a.settings.write r.gate })) t) ∧
   (∀ (h : Head) (a : MixSetArg) (s : State), s.readyFor h →
     ∃ t, exec (.mixSet h (.fields a)) s = .next t ∧
       match floorOfCode a.floor with
       | none => turnsAway h .range s t
       | some f =>
         if a.settings.nonePresent || a.settings.bad then turnsAway h .range s t
         else if !s.runs f then turnsAway h .state s t
         else accepts h (s.modFloor f (fun r => { r with mix := a.settings.write r.mix })) t)) ∧
  (∀ (h : Head) (a : ProfileSetArg) (s : State), s.readyFor h →
     ∃ t, exec (.profileSet h (.fields a)) s = .next t ∧
       if profileSetBad a then turnsAway h .range s t
       else accepts h { s with profiles := s.profiles.modify a.profile (Profile.write a) } t)

/-- LINE_SET (05 R101, R102): RANGE, DUPLICATE; then the line record has the fields given, it binds by a changed
serial at once, and its channel stops when it is left unbound. The other line, the seats and the floors stand as they
were. -/
def Obligations.LineSetWritesALine : Prop :=
  ∀ (h : Head) (a : LineSetArg) (s : State), s.readyFor h →
    ∃ t, exec (.lineSet h (.fields a)) s = .next t ∧
      if lineSetBad a then turnsAway h .range s t
      else if (givenSerial a.serial).isSome && givenSerial a.serial == (s.line (3 - a.line)).serial then
        turnsAway h .duplicate s t
      else
        let new := (s.line a.line).write a
        if new.serial = (s.line a.line).serial then accepts h (s.modLine a.line (fun _ => new)) t
        else
          t.answers h .ok [] ∧ t.line a.line = { new with binding := s.placeOf .line new.serial } ∧
          t.line (3 - a.line) = s.line (3 - a.line) ∧
          ((s.placeOf .line new.serial).isSome → t.chans = s.chans) ∧
          (s.placeOf .line new.serial = none → (t.chan (48 + a.line)).gate = .closed) ∧
          t.seats = s.seats ∧ t.floorA = s.floorA ∧ t.floorB = s.floorB ∧ t.part = s.part ∧ t.pwr = s.pwr

/-- WALL_MODE (06 R108, R109): RANGE for an unknown mode; the mode in force changes nothing; FOLLOW restarts the
settle from the reading held; a FORCE mode removes the settle and sets the target, which becomes the partition at once
unless a floor runs a meeting. -/
def Obligations.WallModeSetsTheTarget : Prop :=
  ∀ (h : Head) (k : Nat) (s : State), s.readyFor h → PartitionLaw s →
    ∃ t, exec (.wallMode h (.fields k)) s = .next t ∧
      match wallModeOfCode k with
      | none => turnsAway h .range s t
      | some m =>
        if s.part.mode = m then accepts h s t
        else match m.forced with
          | none => accepts h
              { s with part := { s.part with mode := m, settle := settleFrom s.part.reading, settled := false } } t
          | some p => t.answers h .ok [] ∧ t.part.mode = m ∧ t.part.settle = none ∧ t.part.settled = false ∧
              t.part.reading = s.part.reading ∧ t.part.target = p ∧
              t.part.partition = (if s.anyRuns then s.part.partition else p) ∧
              t.part.cause = if s.part.target = p then s.part.cause else some .console

/-- CLOCK_SET (07 R118): RANGE; then the clock has the minute and second given, its count toward the next second is 0,
and an evaluation pass follows before the answer. MINUTE_BOUNDARY (07 R117, 09 R171): the minute rises by one with
second 0, an AUTO counter that runs returns to 0, and an evaluation pass follows (R128); an unset clock and one at the
last minute stay as they are; the command is the boundary itself, whatever the milliseconds (log entry 2). One
millisecond (which a step with no command and nothing due is, log entry 3) moves on the running timer and the overtime
of a speaker (03 R59, R61), the account of a SPEAKING or PRIORITY seat (R62), the key windows of bound seats (04 R77),
the reading and the settle (06 R106, R107), the clock, the walk-in idle count (07 R136) and the idle count (11 R197),
each with the mark that its setting is reached, the refusal and wrong-seat displays (02 R24, 08 R153), the card counts
(01 R11), the warm-ups (08 R145), the part timer (07 R126), the path test (09 R177), the windows (R168), and of each
branch the consecutive frames (that those of a wake begin again too is the model's, log entry 36), the silence and the
wait for a ROLL reply (R161, R164). An event of the hub's own is due when its rule's limit is reached (`State.due`);
with no command waiting the hub takes one that is due, before any request and before a further millisecond passes, and
none that is not due. That an empty queue stands for the hub's own time, and which of several due events comes first,
are the model's choice (log entries 1 and 3). -/
def Obligations.TheClockIsSetAndAdvances : Prop :=
  (∀ (h : Head) (a : ClockSetArg) (s : State), s.readyFor h →
     ∃ t, exec (.clockSet h (.fields a)) s = .next t ∧
       if 59 < a.second || 16777215 < a.minute then turnsAway h .range s t
       else
         t.clock = some ⟨a.minute, a.second, 0⟩ ∧
         accepts h (evaluationPass { s with clock := some ⟨a.minute, a.second, 0⟩ }) t) ∧
  (∀ s : State, ∃ t, exec .minuteBoundary s = .next t ∧
     match s.clock with
     | none => t.core = s.core
     | some c =>
       if c.minute < 16777215 then
         let auto (x : Counter) : Counter := if x.auto && x.running then { x with value := 0 } else x
         let u : State := { s with
           clock := some ⟨c.minute + 1, 0, 0⟩
           br0 := { s.br0 with counter := auto s.br0.counter }
           br1 := { s.br1 with counter := auto s.br1.counter } }
         t.clock = some ⟨c.minute + 1, 0, 0⟩ ∧ (∀ b, (t.br b).counter = auto (s.br b).counter) ∧
         t.core = (evaluationPass u).core
       else t.core = s.core) ∧
  (∀ s : State, TablesWhole s →
     let t := moveOn s
     let idles (limit idle rem : Nat) (x : Nat × Nat) : Prop :=
       x = if rem < 999 then (idle, rem + 1) else (min limit (idle + 1), 0)
     t.now = s.now + 1 ∧
     (∀ n ∈ allSeats, (t.seat n).floorState = (s.seat n).floorState ∧
       (t.seat n).turn = (if (s.seat n).floorState = .speaking then (s.seat n).turn.map (fun r =>
         let x := { r with remaining := r.remaining.map (· - 1) }
         if r.expired = false then x
         else if r.overtimeRem < 999 then { x with overtimeRem := r.overtimeRem + 1 }
         else { x with overtime := min (r.overtime + 1) 65535, overtimeRem := 0 }) else (s.seat n).turn) ∧
       ((t.seat n).accSeconds, (t.seat n).accRem) =
         (if (s.seat n).floorState = .speaking ∨ (s.seat n).floorState = .priority then
           if (s.seat n).accRem < 999 then ((s.seat n).accSeconds, (s.seat n).accRem + 1)
           else (min ((s.seat n).accSeconds + 1) 65535, 0)
         else ((s.seat n).accSeconds, (s.seat n).accRem)) ∧
       ∀ k, ((t.detectors n).get k).window = match (s.seat n).binding.bind s.entry? with
         | none => ((s.detectors n).get k).window
         | some e =>
           if e.link = .lost then ((s.detectors n).get k).window
           else ((s.detectors n).get k).window.drop 1 ++ [match e.status with
             | some x => keyBit k x.1
             | none => ((s.detectors n).get k).window.getLastD false]) ∧
     (s.part.mode = .follow → s.wallSample = s.part.reading → ∀ k, s.part.settle = some (s.part.reading, k) →
       t.part.settle = some (s.part.reading, min 10000 (k + 1))) ∧
     (∀ c, s.clock = some c → c.minute < 16777215 →
       t.clock = some (if c.ms < 999 then { c with ms := c.ms + 1 }
         else if c.second < 59 then { c with second := c.second + 1, ms := 0 } else { c with ms := 1000 })) ∧
     (∀ f, (s.meeting f).state = .walkIn →
       if (s.floor f).grantOrder ≠ [] ∨ (s.floor f).stack ≠ [] then (t.meeting f).idle = 0 ∧ (t.meeting f).idleRem = 0
       else idles 3600 (s.meeting f).idle (s.meeting f).idleRem ((t.meeting f).idle, (t.meeting f).idleRem)) ∧
     (s.pwr.state = .active →
       if s.bothVacant then idles 7200 s.pwr.idle s.pwr.idleRem (t.pwr.idle, t.pwr.idleRem)
       else t.pwr.idle = 0 ∧ t.pwr.idleRem = 0) ∧
     (∀ f, (s.meeting f).state = .walkIn → (t.meeting f).idleDue =
       decide ((s.floor f).grantOrder = [] ∧ (s.floor f).stack = [] ∧ 999 ≤ (s.meeting f).idleRem ∧
         (s.floor f).settings.walkinIdle * 60 ≤ (t.meeting f).idle)) ∧
     (s.pwr.state = .active → t.pwr.dimDue =
       decide (s.bothVacant = true ∧ 999 ≤ s.pwr.idleRem ∧ s.pwr.delay * 60 ≤ t.pwr.idle)) ∧
     (∀ n ∈ allSeats,
       (t.seat n).refusal = (s.seat n).refusal.map (fun x => min 2000 (x + 1)) ∧
       (t.seat n).cardClear = (if (s.seat n).presence = .card ∧ (s.seat n).cardFlag = false ∧
         s.linkOf (s.seat n).binding ≠ .lost then min 2000 ((s.seat n).cardClear + 1) else 0) ∧
       t.plate n = { s.plate n with
         count := if (s.plate n).see.isSome then min 10000 ((s.plate n).count + 1) else (s.plate n).count }) ∧
     (∀ k ∈ List.range' 1 8,
       t.screen k = { s.screen k with warm := (s.screen k).warm.map (fun x => (x.1 + 1, x.2)) }) ∧
     t.staging = (match s.staging with
       | .idle => .idle
       | .staging x b n k => .staging x b n (min 2000 (k + 1))
       | .failed x b c k => .failed x b c (min 2000 (k + 1))) ∧
     t.part.sampled = s.wallSample ∧ t.windowDue = decide ((s.now + 1) % 1000 = 0) ∧
     t.test = s.test.map (fun x => { x with elapsed := min (x.duration * 1000) (x.elapsed + 1) }) ∧
     (∀ b, let r := s.br b
       (t.br b).upCount = (if r.frameSeen then r.upCount else 0) ∧
       (t.br b).silence = (if r.frameSeen = true ∨ r.state = .down then 0 else min 50 (r.silence + 1)) ∧
       (t.br b).fullCount = (if r.frameSeen = true ∨ 16 ≤ r.fullCount then r.fullCount else 0) ∧
       (t.br b).roll = r.roll.map (fun x => { x with wait := if x.restart then x.wait else min 20 (x.wait + 1) }) ∧
       (t.br b).table = r.table.map (fun e => { e with status := none, faultTaken := e.fault }))) ∧
  (∀ (s : State) (i : Instr), (s.nextDue = some i → s.due i) ∧ (s.due i → s.nextDue ≠ none)) ∧
  ∀ s : State, (∀ i, s.nextDue = some i → s.ownCommand = some (i, s)) ∧
    (s.nextDue = none → s.ownCommand = s.nextRequest)

/-! ## Bookings and meetings (07) -/

/-- BOOK_BEGIN (07 R123): BUSY while another source is staging; the source's own staging is dropped first; then the
checks in order; then a staging of N entries with the answer STAGED, or for N 0 the commit of the whole booking. -/
def Obligations.BookBeginStagesABooking : Prop :=
  ∀ (h : Head) (a : BookBeginArg) (s : State), s.readyFor h →
    ∃ t, exec (.bookBegin h (.fields a)) s = .next t ∧
      let u : State := { s with staging := .idle }
      let b := s.newBooking a
      if s.staging ≠ .idle ∧ s.staging.source? ≠ some h.source then turnsAway h .busy s t
      else if s.clock = none then answersWith h .state [] u t
      else if bookBeginBad a then answersWith h .range [] u t
      else if a.start < s.minute then answersWith h .past [] u t
      else if (s.booking? a.id).isSome then answersWith h .duplicate [] u t
      else if s.conflicts 0 b.scope b.start b.stop then answersWith h .conflict [] u t
      else if 64 ≤ s.bookings.length then answersWith h .full [] u t
      else if 768 < u.poolInUse + a.n then answersWith h .noRoom [] u t
      else if a.n = 0 then commits h b u t
      else answersWith h .staged [] { s with staging := .staging h.source b a.n 0 } t

/-- ROSTER_PART (07 R124, R125): STATE without a staging, BUSY for another source's, the failing code of a FAILED one,
whose part timer restarts; a part that does not suit fails the staging with RANGE; else its entries join the roster,
with the answer PART_OK and the number still missing, or the commit of the whole booking. BOOK_ABORT and the part
timeout (R126): ALREADY without a staging, BUSY for another source's; else the staging is IDLE, which frees its
reservation; the timeout makes it IDLE whatever it was. That a part with a bad entry leaves the part timer as it stood
is the model's (log entry 42), and so is that the commanded timeout ends the staging whatever its timer (log entry 2).
-/
def Obligations.RosterPartsAndAbortsMoveTheStaging : Prop :=
  (∀ (h : Head) (es : List RosterArg) (s : State), s.readyFor h →
     ∃ t, exec (.rosterPart h (.fields es)) s = .next t ∧
       match s.staging with
       | .idle => turnsAway h .state s t
       | .failed src b code _ =>
         if src = h.source then answersWith h code [] { s with staging := .failed src b code 0 } t
         else turnsAway h .busy s t
       | .staging src b n timer =>
         if src ≠ h.source then turnsAway h .busy s t
         else if es.isEmpty || 8 < es.length || n < b.roster.length + es.length || es.any partEntryBad then
           answersWith h .range [] { s with staging := .failed src { b with roster := [] } .range timer } t
         else
           let c := { b with roster := b.roster ++ es.map partEntry }
           if c.roster.length < n then
             answersWith h .partOk (Fmt.o1 (n - c.roster.length)) { s with staging := .staging src c n 0 } t
           else commits h c s t) ∧
  ((∀ (h : Head) (s : State), s.readyFor h →
     ∃ t, exec (.bookAbort h (.fields ())) s = .next t ∧
       if s.staging = .idle then turnsAway h .already s t
       else if s.staging.source? ≠ some h.source then turnsAway h .busy s t
       else accepts h { s with staging := .idle } t) ∧
   ∀ s : State, exec .stagingPartTimeout s = .next { s with staging := .idle })

/-- CANCEL (07 R134): RANGE for id 0, NOT_FOUND for an id that is not in the table; else the booking has left the
table, the meeting of a floor that prepares or runs it has ended, and an evaluation pass has been made. -/
def Obligations.CancelRemovesABooking : Prop :=
  ∀ (h : Head) (id : Nat) (s : State), s.readyFor h →
    ∃ t, exec (.cancel h (.fields id)) s = .next t ∧
      if id = 0 then turnsAway h .range s t
      else match s.booking? id with
        | none => turnsAway h .notFound s t
        | some b => t.booking? id = none ∧ match s.floorServing id with
          | some f => accepts h (endMeetingNow f .cancelled s) t
          | none => accepts h (evaluationPass (releaseBooking b .cancelled s)) t

/-- EXTEND (07 R133): the checks in order; then the booking ends later and is marked extended, its meeting is
IN_SESSION without a deadline, its end warning stands only within 5 minutes of the new end, and nothing else changes.
-/
def Obligations.ExtendMovesTheEnd : Prop :=
  ∀ (h : Head) (a : ExtendArg) (s : State), s.readyFor h →
    ∃ t, exec (.extend h (.fields a)) s = .next t ∧
      match floorOfCode a.floor with
      | none => turnsAway h .range s t
      | some f =>
        if a.minutes < 15 || 120 < a.minutes then turnsAway h .range s t
        else match s.servedBooking f with
          | none => turnsAway h .state s t
          | some b =>
            let stop := b.stop + a.minutes
            if 16777215 < stop then turnsAway h .range s t
            else if !(s.meeting f).state.extendable then turnsAway h .state s t
            else if b.extended then turnsAway h .already s t
            else if stop ≤ s.minute then turnsAway h .past s t
            else if s.conflicts b.id b.scope b.stop stop then turnsAway h .conflict s t
            else accepts h
              ((s.modBooking b.id (fun x => { x with stop := stop, extended := true })).modMeeting f (fun m =>
                { m with state := .inSession, deadline := none,
                         endWarning := m.endWarning && decide (stop ≤ s.minute + 5) })) t

/-- The rows by which the calendar judges a booking, and a floor that runs one (07 R129 to R132): a booking that is
over or held too long leaves the table, one that is not yet due is SCHEDULED, one without a free serving floor is
HELD, and one that is due is prepared on its floor, or started there with its profile and its roster (R120: its
runtime names the floor, and the start minute once it runs; none while PREPARING, log entry 50); a CHECK_IN meeting
past its window and a meeting past its deadline leave the floor VACANT, and one at its end enters OVERRUN. An
evaluation pass (R128) judges floor A, floor B, then the bookings in table order, without a clock nothing but the due
bookings. The end of a meeting inside it is passed on at once (R137, R127): the screens of the floor are judged, and a
pending target is applied when no other floor runs (06 R110, log entry 41); a walk-in that gives way to a booking
passes its end on before the booking starts. After an end outside a pass the pass is made, and what results is passed
on in the same way (R137 steps 6 and 7). That a WALK_IN floor serves no booking, on which the first rows rest, is kept by
every step (CalendarSound). -/
def Obligations.TheCalendarJudgesBookings : Prop :=
  let alone (p : PassedOn) (s : State) : Prop :=
    p = insideChange ∨ p = atOnce ∧ s.part.target = s.part.partition
  let started (b : Booking) : MeetingState := if b.window = 0 then .inSession else .checkIn
  (∀ (p : PassedOn) (id : Nat) (s : State) (b : Booking), TablesWhole s → alone p s →
    s.booking? id = some b → b.state ≠ .active →
    (∀ f, (s.meeting f).state = .walkIn → (s.meeting f).served = none) →
    let t := judgeBooking p id s
    let stands (x : BookingState) : Prop := (t.booking? id).map (·.state) = some x
    let runs (f : Floor) : Prop := (t.meeting f).state = started b ∧ (t.meeting f).served = some id ∧
      (t.meeting f).start = some s.minute ∧ (t.booking? id).bind (·.runtime) = some ⟨some s.minute, f⟩ ∧
      (t.floor f).settings = (s.profile b.profile).floor ∧
      (t.floor f).gate = (s.profile b.profile).gate ∧ (t.floor f).mix = (s.profile b.profile).mix ∧
      ∀ n ∈ s.floorSeats f, ((t.seat n).role, (t.seat n).delegate) = rosterRole b.roster n
    if b.stop ≤ s.minute ∨ (b.state = .held ∧ b.start + max b.window 15 ≤ s.minute) then t.booking? id = none
    else if s.minute + b.lead < b.start then
      stands .scheduled ∧ t.meeting .A = s.meeting .A ∧ t.meeting .B = s.meeting .B
    else match s.servingFloor b with
      | none => stands .held ∧ t.meeting .A = s.meeting .A ∧ t.meeting .B = s.meeting .B
      | some f => match (s.meeting f).state with
        | .vacant => stands .active ∧
          if s.minute < b.start then (t.meeting f).state = .preparing ∧ (t.meeting f).served = some id ∧
            (t.booking? id).bind (·.runtime) = some ⟨none, f⟩
          else runs f
        | .walkIn => if s.minute < b.start then stands .scheduled ∧ (t.meeting f).state = .walkIn else runs f
        | _ => stands .held ∧ t.meeting f = s.meeting f) ∧
  (∀ (p : PassedOn) (id : Nat) (s : State) (b : Booking) (f : Floor), alone p s →
    s.booking? id = some b → b.state = .active → s.preparingFloor id = some f →
    let t := judgeBooking p id s
    if b.stop ≤ s.minute then t.booking? id = none ∧ t.meeting f = Reset.meeting
    else if s.minute + b.lead < b.start then
      (t.booking? id).map (·.state) = some .scheduled ∧ t.meeting f = Reset.meeting
    else if b.start ≤ s.minute then
      (t.meeting f).state = started b ∧ (t.meeting f).served = some id ∧ (t.meeting f).start = some s.minute
    else t = s) ∧
  (∀ (p : PassedOn) (f : Floor) (s : State) (b : Booking), alone p s →
    (s.meeting f).served.bind s.booking? = some b →
    let t := judgeFloor p f s
    let m := s.meeting f
    let warned : Meeting := { m with endWarning := m.endWarning || decide (b.stop ≤ s.minute + 5) }
    let deadline := s.overrunDeadline f b
    let ended : Prop := t.meeting f = Reset.meeting ∧ t.booking? b.id = none
    match m.state with
    | .checkIn => if m.start.getD 0 + b.window ≤ s.minute ∨ b.stop ≤ s.minute then ended else t.meeting f = warned
    | .inSession =>
      if s.minute < b.stop then t.meeting f = warned
      else if deadline ≤ s.minute then ended
      else (t.meeting f).state = .overrun ∧ (t.meeting f).deadline = some deadline
    | .overrun => if deadline ≤ s.minute then ended else t.meeting f = { m with deadline := some deadline }
    | _ => t = s) ∧
  (∀ (f : Floor) (s : State) (b : Booking), s.overrunDeadline f b =
    match s.nextBooking f with
    | some n => min (b.stop + b.overrun) (n.start - n.lead)
    | none => b.stop + b.overrun) ∧
  (∀ (f : Floor) (o : Outcome) (s : State),
    let t := endInPass atOnce f o s
    t = applyTarget (showFloor f (endMeeting f o s)) ∧ t.part.target = s.part.target ∧
      t.part.partition = if [Floor.A, .B].any (fun g => g != f && s.runs g) then s.part.partition else s.part.target) ∧
  (∀ (f : Floor) (b : Booking) (s : State), s.part.target = s.part.partition →
    preempt atOnce f b s = showFloor f (startBooked f b (showFloor f (endMeeting f .preempted s)))) ∧
  (∀ s : State,
    let u := judgeFloor atOnce .B (judgeFloor atOnce .A s)
    evaluationPass s = if s.clock = none then refreshDues s
      else refreshDues (forAll (u.bookings.map (·.id)) (judgeBooking atOnce) u)) ∧
  (∀ (f : Floor) (o : Outcome) (s : State),
    endMeetingNow f o s = applyTarget (showFloor f (evaluationPass (endMeeting f o s)))) ∧
  ∀ s : State, applyTarget s =
    if s.anyRuns = false ∧ s.part.target ≠ s.part.partition then changePartition s else s

/-- WALKIN_START (07 R135): RANGE, STATE; then the floor is in WALK_IN with the room minute as its start, its settings
are those of profile 0, and each of its seats is GUEST if it is mapped and NONE if not, without a delegate record and
with an empty account. A mic PRESS of an IDLE seat of a VACANT floor, the room being ACTIVE, starts a walk-in there,
and the same press is then taken as a request of the seat in the new walk-in (02 R23, R24, R28 to R31): what
`requestTaken` says, as for a floor that is LIVE already. -/
def Obligations.WalkinsOpenAFloor : Prop :=
  (∀ (h : Head) (k : Nat) (s : State), s.readyFor h →
     ∃ t, exec (.walkinStart h (.fields k)) s = .next t ∧
       match floorOfCode k with
       | none => turnsAway h .range s t
       | some f =>
         if s.dormant f || (s.meeting f).state != .vacant then turnsAway h .state s t
         else
           t.answers h .ok [] ∧ (t.meeting f).state = .walkIn ∧ (t.meeting f).start = s.clock.map (·.minute) ∧
           (t.floor f).settings = (s.profile 0).floor ∧ (t.floor f).gate = (s.profile 0).gate ∧
           (t.floor f).mix = (s.profile 0).mix ∧
           (∀ n ∈ s.floorSeats f,
             (t.seat n).role = (if (s.seat n).serial.isSome then .guest else .none) ∧ (t.seat n).delegate = none ∧
             (t.seat n).accSeconds = 0 ∧ (t.seat n).accTurns = 0) ∧
           t.part.partition = s.part.partition ∧ t.bookings = s.bookings ∧ t.profiles = s.profiles ∧ t.clock = s.clock) ∧
  (∀ (n : Nat) (s : State), s.pwr.state = .active → s.givesKeys n = true → (s.seat n).floorState = .idle →
     (s.meeting (s.seatFloor n)).state = .vacant →
     ∃ t, exec (.micPress n) s = .next t ∧
       let f := s.seatFloor n
       (t.meeting f).state = .walkIn ∧ (t.meeting f).start = s.clock.map (·.minute) ∧
       (t.floor f).settings = (s.profile 0).floor ∧
       (∀ m ∈ s.floorSeats f, (t.seat m).role = if (s.seat m).serial.isSome then .guest else .none) ∧
       requestTaken n (startWalkin f (s.pressed n .mic)) t)

/-- The end of a meeting (07 R137, 01 R6, 02 R44): the floor is VACANT with an empty meeting record and empty lists,
its seats are IDLE and ABSENT without role or delegate record, and its booking has left the table. SESSION_END (R136)
ends a running meeting so, WALKIN_IDLE_END a walk-in; an evaluation pass follows, and its result is passed on
(`endMeetingNow`, which TheCalendarJudgesBookings states). The commanded idle end is the
event itself, whatever the idle count (log entry 2). -/
def Obligations.MeetingEndsFreeTheFloor : Prop :=
  (∀ (f : Floor) (o : Outcome) (s : State),
    let t := endMeeting f o s
    t.meeting f = Reset.meeting ∧ (t.floor f).named = [] ∧
    (∀ n ∈ s.floorSeats f, (t.seat n).floorState = .idle ∧ (t.seat n).presence = .absent ∧
      (t.seat n).role = .none ∧ (t.seat n).delegate = none) ∧
    (∀ id, (s.meeting f).served = some id → t.booking? id = none)) ∧
  (∀ (h : Head) (k : Nat) (s : State), s.readyFor h →
    ∃ t, exec (.sessionEnd h (.fields k)) s = .next t ∧
      match floorOfCode k with
      | none => turnsAway h .range s t
      | some f =>
        if !s.runs f then turnsAway h .state s t else accepts h (endMeetingNow f .ended s) t) ∧
  (∀ (f : Floor) (s : State), (s.meeting f).state = .walkIn →
    ∃ t, exec (.walkinIdleEnd f) s = .next t ∧ t.core = (endMeetingNow f .released s).core)

/-! ## Screens, layouts and cameras (08) -/

/-- SCREEN_SET (08 R143): RANGE, DUPLICATE; then the screen record has the fields given and binds by a changed serial.
LAYOUT_SET (R147): RANGE; then the rule is replaced. CAMERA_SET (R154): in camera form RANGE, DUPLICATE, then the
camera record has the fields given and binds by a changed serial; in preset form RANGE, then the seats have the
presets given for the camera, in order. Nothing else of the core changes. The layout of a floor (R148): the id of the
first rule, in rule order, whose every condition holds for the floor, or 0; the speakers condition counts the floor's
seats that are SPEAKING or PRIORITY, and the warning condition asks for an end warning, a due warning, or a SPEAKING
seat of the floor with its turn warning. The content record (R149): its items as the floor stands, at most 8 speakers
in grant order with their turn times and at most 6 queue entries. The meeting states of a rule that is read are those
given; that they are held in code order, each once, is the model's form of a set (log entry 59). -/
def Obligations.DirectorRequestsWriteTheirRecords : Prop :=
  ((∀ (h : Head) (a : ScreenSetArg) (s : State), s.readyFor h →
     ∃ t, exec (.screenSet h (.fields a)) s = .next t ∧
       if screenSetBad a then turnsAway h .range s t
       else if s.screenDuplicate a.screen (givenSerial a.serial) then turnsAway h .duplicate s t
       else
         let new := (s.screen a.screen).write a
         accepts h (s.modScreen a.screen (fun _ =>
           if new.serial = (s.screen a.screen).serial then new
           else { new with binding := s.placeOf .screen new.serial })) t) ∧
   (∀ (h : Head) (a : LayoutSetArg) (s : State), s.readyFor h →
     ∃ t, exec (.layoutSet h (.fields a)) s = .next t ∧
       if a.rule = 0 || 16 < a.rule then turnsAway h .range s t
       else match givenRule a.conditions with
         | none => turnsAway h .range s t
         | some r => accepts h { s with sd := { s.sd with layouts := s.sd.layouts.set (a.rule - 1) r } } t) ∧
   ∀ (a : LayoutArg) (c : LayoutConds), readLayout a = some c →
     (∀ x : MeetingState, x ∈ c.states ↔ x.ctorIdx ∈ a.states) ∧
     c.states.Pairwise (fun x y => x.ctorIdx < y.ctorIdx) ∧ c.layout = a.layout) ∧
  ((∀ (h : Head) (a : CameraSetArg) (s : State), s.readyFor h →
     ∃ t, exec (.cameraSetCamera h (.fields a)) s = .next t ∧
       if cameraSetBad a then turnsAway h .range s t
       else if s.cameraDuplicate a.camera (givenSerial a.serial) then turnsAway h .duplicate s t
       else
         let new := (s.camera a.camera).write a
         accepts h (s.modCamera a.camera (fun _ =>
           if new.serial = (s.camera a.camera).serial then new
           else { new with binding := s.placeOf .camera new.serial })) t) ∧
   (∀ (h : Head) (a : PresetSetArg) (s : State), s.readyFor h →
     ∃ t, exec (.cameraSetPreset h (.fields a)) s = .next t ∧
       if presetSetBad a then turnsAway h .range s t
       else accepts h (forAll a.entries (fun e => State.modSeat e.1 (fun r =>
         { r with presets := r.presets.set (a.camera - 1) e.2 })) s) t)) ∧
  ((∀ (s : State) (f : Floor),
     (∀ (k : Nat) (c : LayoutConds), s.sd.layouts[k]? = some (some c) → s.layoutHolds f c = true →
       (∀ j < k, ∀ x, s.sd.layouts[j]? = some (some x) → s.layoutHolds f x = false) → s.layoutOf f = c.layout) ∧
     ((∀ c, some c ∈ s.sd.layouts → s.layoutHolds f c = false) → s.layoutOf f = 0)) ∧
   (∀ (s : State) (f : Floor) (c : LayoutConds), TablesWhole s → ListsPlaced s → SeatsStandOnce s →
     let r := s.floor f
     let talking := (allSeats.filter (fun n => s.seatFloor n == f &&
       ((s.seat n).floorState == .speaking || (s.seat n).floorState == .priority))).length
     let warned : Prop := r.meeting.endWarning = true ∨ r.meeting.due ≠ none ∨ ∃ n ∈ allSeats, s.seatFloor n = f ∧
       (s.seat n).floorState = .speaking ∧ (s.seat n).turn.any (·.warned) = true
     s.layoutHolds f c = true ↔ r.meeting.state ∈ c.states ∧
       (match c.speakers with
         | .any => True
         | .zero => talking = 0
         | .one => talking = 1
         | .many => 2 ≤ talking) ∧
       (match c.hold with
         | .any => True
         | .active => r.stack ≠ []
         | .none => r.stack = []) ∧
       (match c.queue with
         | .any => True
         | .empty => r.queue = []
         | .nonempty => r.queue ≠ []) ∧
       (match c.warning with
         | .any => True
         | .yes => warned
         | .no => ¬ warned)) ∧
   ∀ (s : State) (f : Floor),
     let r := s.floor f
     let c := s.contentOf f
     let name (n : Nat) : Option Text := (s.seat n).delegate.map (·.name)
     let served := r.meeting.served.bind s.booking?
     c.layout = s.layoutOf f ∧ c.title = served.bind (·.title) ∧ c.stop = served.map (·.stop) ∧
     c.speakers.map (·.seat) = r.grantOrder.take 8 ∧
     (∀ x ∈ c.speakers, x.name = name x.seat ∧ ∀ t, (s.seat x.seat).turn = some t →
       x.warned = t.warned ∧ x.overtime = t.expired ∧
       x.time = if t.expired then some t.overtime else t.remaining.map (· / 1000)) ∧
     (r.stack = [] → c.holder = none) ∧ (∀ e rest, r.stack = e :: rest → c.holder = some (e.holder, name e.holder)) ∧
     c.queue = (r.queue.take 6).map (fun n => (n, name n)) ∧
     c.next = (s.nextBooking f).map (fun b => (b.start, b.title)) ∧
     c.endWarning = r.meeting.endWarning ∧ c.dueWarning = r.meeting.due.isSome)

/-- WARMUP_DONE (08 R145) makes a wanted WARMING screen ON. SCREEN_FAULT_CHANGE (R146) puts a screen into FAULT, or
lets it out to be judged. SHOW_INTERVAL_END (R150) gives an ON screen its content. A screen's power is what R145's
table makes of it and of the power wanted (R144), with its POWER; leaving ON or WARMING cancels the warm-up and
discards a waiting SHOW; after every command the screens stand as judged, an unreachable one OFF (R142). At a change
of a floor's meeting state inside a pass those of the floor are judged at once (07 R127, R137): where a walk-in gives
way to a booking, an ON screen becomes STANDBY at its end and is powered up again at the start. A nameplate
(R152, R153) has the seat's role, name and presence, lit while ACTIVE; one is made when the room has become ACTIVE,
where one is owed, and on a change over a link that is not LOST. A meeting's end clears the records of the floor's
seats and sends each in ascending order (the link not asked: log entry 54), and its cameras rest on OVERVIEW without
candidate (R157). The camera steps (R155 to R157): a cut, a return to OVERVIEW, a cut to the top holder or, without
preset, to OVERVIEW; each starts a shot (to OVERVIEW for a holder: log entry 32); a candidate with preset 0 is not cut
to; the core stands. A commanded step is the event itself (log entry 2). Each evaluation judges the cameras after the
gate updates: none that is unreachable; under a hold or on a floor not LIVE no candidate and quiet count 0; else the
candidate is the active seat that opened last (the lower among equals), with its time while it stays the choice, and
the quiet count rises while none is active. The shot then changes: to the holder at once, to the candidate after the
cut delay, to OVERVIEW after the return delay, the last two after the minimum hold; each with its AIM. -/
def Obligations.ScreensAndCamerasMove : Prop :=
  ((∀ (k : Nat) (s : State), (s.screen k).power = .warming → s.reachable (s.screen k).binding = true →
     s.wanted (s.followed (s.screen k).floor) = .on →
     ∃ t, exec (.warmupDone k) s = .next t ∧ (t.screen k).power = .on ∧ (t.screen k).warm = none ∧ t.core = s.core) ∧
   (∀ (k : Nat) (flag : Bool) (s : State), 1 ≤ k → TablesWhole s → k ≤ 8 →
     s.reachable (s.screen k).binding = true →
     ∃ t, exec (.screenFaultChange k flag) s = .next t ∧
       (flag = true → (t.screen k).power = .fault) ∧
       (flag = false → (s.screen k).power = .fault →
         (t.screen k).power = match s.wanted (s.followed (s.screen k).floor) with
           | .on => if (s.screen k).warmup = 0 then .on else .warming
           | _ => .off)) ∧
   ∀ (k : Nat) (s : State), (s.screen k).power = .on → (s.screen k).unsent = true →
     s.reachable (s.screen k).binding = true →
     ∃ t, exec (.showIntervalEnd k) s = .next t ∧ t.core = s.core ∧
       (t.screen k).content = s.contentOf (s.followed (s.screen k).floor) ∧
       (∀ d, (s.screen k).binding = some d → s.atOnce d.branch = true →
         (t.screen k).lastShow = some s.now ∧ (t.screen k).unsent = false)) ∧
  ((∀ (f : Floor) (s : State), s.wanted f = match s.pwr.state with
     | .active => if (s.meeting f).state = .vacant then .standby else .on
     | .dim => .standby
     | .sleep => .off
     | .waking => .off) ∧
   (∀ (k : Nat) (s : State), TablesWhole s → k ∈ List.range' 1 8 →
     let r := s.screen k
     let power (code : Nat) (s : State) : State := handOn ⟨.screenPower k, Fmt.o1 code⟩ s
     let rested (p : ScreenPower) : State :=
       let u := s.modScreen k (fun r => { r with power := p, warm := none, unsent := false })
       { u with sd := { u.sd with waiting := u.sd.waiting.filter (fun d => d.target != .screenShow k) } }
     judgePower k s = match r.power, s.wanted (s.followed r.floor) with
       | .off, .on | .standby, .on => power 2 (s.modScreen k (fun r =>
           if r.warmup = 0 then { r with power := .on, warm := none }
           else { r with power := .warming, warm := some (0, r.warmup) }))
       | .standby, .off | .warming, .off | .on, .off => power 0 (rested .off)
       | .warming, .standby | .on, .standby => power 1 (rested .standby)
       | _, _ => s) ∧
   (∀ (k : Nat) (s : State), TablesWhole s → k ∈ List.range' 1 8 →
     let r := s.screen k
     let judged : ScreenPower :=
       if s.reachable r.binding = false then .off
       else match r.power, s.wanted (s.followed r.floor) with
         | .off, .on | .standby, .on => if r.warmup = 0 then .on else .warming
         | .warming, .standby | .on, .standby => .standby
         | .standby, .off | .warming, .off | .on, .off => .off
         | p, _ => p
     ((refresh s).screen k).power = judged ∧ ((showScreens s).screen k).power = judged ∧
       ∀ f, ((showFloor f s).screen k).power = if s.followed r.floor = f then judged else r.power) ∧
   ∀ (f : Floor) (b : Booking) (k : Nat) (s : State), TablesWhole s → k ∈ List.range' 1 8 → s.pwr.state = .active →
     s.part.target = s.part.partition → s.followed (s.screen k).floor = f → s.reachable (s.screen k).binding = true →
     (s.screen k).power = .on →
     ((showFloor f (endMeeting f .preempted s)).screen k).power = .standby ∧
     ((preempt atOnce f b s).screen k).power = if (s.screen k).warmup = 0 then .on else .warming) ∧
  ((∀ (n : Nat) (s : State),
     let r := s.seat n
     let p := s.plateOf n
     let shows : Bool := s.pwr.state == .active && s.linkOf r.binding != .lost
     p.lit = (s.pwr.state == .active) ∧ p.role = r.role ∧ p.name = r.delegate.map (·.name) ∧
     p.present = (r.presence != .absent) ∧ p.see = (if shows then (s.plate n).see else none) ∧
     p.count = if shows then (s.plate n).count else 0) ∧
   (∀ (n : Nat) (s : State), TablesWhole s → n ∈ allSeats → (refresh s).plate n = s.plateOf n) ∧
   (∀ (n : Nat) (s : State), TablesWhole s → n ∈ allSeats →
     let new := s.plateOf n
     let old := s.plate n
     let written := s.modPlate n (fun _ => new)
     ((s.seat n).binding = none → refreshPlate n s = written ∧ clearPlate n s = written) ∧
     ∀ d, (s.seat n).binding = some d →
       let sent := handOn ⟨.plate d, Fmt.nameplate new⟩ written
       clearPlate n s = sent ∧
       refreshPlate n s = if (new.lit = true ∧ old.lit = false) ∨ n ∈ s.sd.plateDue ∨
         (s.linkOf (some d) ≠ .lost ∧ { new with count := old.count } ≠ old) then sent else written) ∧
   (∀ (f : Floor) (s : State), TablesWhole s →
     let bare : Plate :=
       { lit := s.pwr.state == .active, role := .none, name := none, present := false, see := none, count := 0 }
     (∃ u : State, clearRoster f s = forAll (s.floorSeats f) clearPlate u ∧ ∀ n ∈ s.floorSeats f, u.plateOf n = bare) ∧
     ∀ o, ∀ n ∈ s.floorSeats f, (endMeeting f o s).plate n = bare) ∧
   ∀ (f : Floor) (o : Outcome) (k : Nat) (s : State), TablesWhole s → k ∈ List.range' 1 4 →
     s.followed (s.camera k).floor = f → s.reachable (s.camera k).binding = true →
     let c := (endMeeting f o s).camera k
     c.shot = none ∧ c.candidate = none ∧ c.quiet = 0 ∧
     c.shotStart = if (s.camera k).shot.isSome then some s.now else (s.camera k).shotStart) ∧
  (∀ (k : Nat) (s : State), s.reachable (s.camera k).binding = true →
     (∀ n at_, (s.camera k).candidate = some (n, at_) → s.holderFor k = none → s.preset n k = 0 →
       exec (.cameraCut k) s = .next s) ∧
     (∀ n at_, (s.camera k).candidate = some (n, at_) → s.holderFor k = none → s.preset n k ≠ 0 →
       ∃ t, exec (.cameraCut k) s = .next t ∧ (t.camera k).shot = some n ∧ (t.camera k).shotStart = some s.now ∧
         (t.camera k).candidate = none ∧ t.core = s.core) ∧
     ((s.camera k).shot.isSome → s.holderFor k = none →
       ∃ t, exec (.cameraReturnOverview k) s = .next t ∧ (t.camera k).shot = none ∧
         (t.camera k).shotStart = some s.now ∧ t.core = s.core) ∧
     (∀ n, s.holderFor k = some n → (s.camera k).shot ≠ s.holdShot k n →
       ∃ t, exec (.cameraPriorityCut k) s = .next t ∧ (t.camera k).shot = s.holdShot k n ∧
         (t.camera k).shotStart = some s.now ∧ t.core = s.core)) ∧
  ((∀ s : State, evaluateVoices s = forAll (List.range' 1 4) (fun k s => moveShot k (judgeCamera k s))
     (gateUpdate .B (gateUpdate .A (forAll allChans evaluateChan s)))) ∧
   (∀ (k : Nat) (f : Floor) (s : State) (n : Nat), n ∈ s.activeSeats k f ↔ n ∈ allSeats ∧ s.seatFloor n = f ∧
     (s.seat n).floorState = .speaking ∧ (s.chan n).gate ≠ .closed ∧ s.preset n k ≠ 0) ∧
   ∀ (k : Nat) (s : State), k ∈ List.range' 1 4 → TablesWhole s →
     let c := s.camera k
     let f := s.followed c.floor
     let seats := s.activeSeats k f
     let opening (n : Nat) : Nat := ((s.chan n).opening).getD 0
     let held : Prop := ∀ x, c.shotStart = some x → x + c.minimumHold * 1000 ≤ s.now
     let shoots (x : Option Nat) : State := handOn ⟨.camera k, Fmt.o1 ((x.map (s.preset · k)).getD c.overview)⟩
       (s.modCamera k (fun c => { c with shot := x, shotStart := some s.now, candidate := none }))
     (s.reachable c.binding = false → judgeCamera k s = s ∧ moveShot k s = s) ∧
     (s.reachable c.binding = true → s.live f = false ∨ (s.floor f).stack ≠ [] →
       judgeCamera k s = s.modCamera k (fun c => { c with candidate := none, quiet := 0 })) ∧
     (s.reachable c.binding = true → s.live f = true → (s.floor f).stack = [] →
       (seats = [] → judgeCamera k s = s.modCamera k (fun c =>
         { c with candidate := none, quiet := min 30000 (c.quiet + 1) })) ∧
       (seats ≠ [] → ∃ n ∈ seats, (∀ m ∈ seats, opening m < opening n ∨ opening m = opening n ∧ n ≤ m) ∧
         judgeCamera k s = s.modCamera k (fun c => { c with
           candidate := if c.shot = some n then none
             else if c.candidate.map (·.1) = some n then c.candidate else some (n, s.now)
           quiet := 0 }))) ∧
     (s.reachable c.binding = true → ∀ e rest, (s.floor f).stack = e :: rest →
       let x : Option Nat := if s.preset e.holder k = 0 then none else some e.holder
       moveShot k s = if c.shot = x then s else shoots x) ∧
     (s.reachable c.binding = true → (s.floor f).stack = [] →
       (∀ n at_, c.candidate = some (n, at_) → at_ + c.cutDelay ≤ s.now → held → moveShot k s = shoots (some n)) ∧
       ((∀ n at_, c.candidate = some (n, at_) → ¬ (at_ + c.cutDelay ≤ s.now ∧ held)) →
         (s.live f = true → c.shot.isSome → c.returnDelay * 1000 ≤ c.quiet → held → moveShot k s = shoots none) ∧
         (¬ (s.live f = true ∧ c.shot.isSome ∧ c.returnDelay * 1000 ≤ c.quiet ∧ held) → moveShot k s = s))))

/-! ## Service requests (09 to 11) -/

/-- PATH_TEST (09 R174): the checks in order; then the test of the seat begins, out of synchronism, with its duration
clamped into 1 to 60 s. TEST_INSERT (R173): RANGE, STATE, NOT_FOUND; then the insertion waits, and the console request
unit with it. PATH_TEST_END (R177) ends the test. The commanded end is the event itself, whatever time has run (log
entry 2). The checker (R175, R176): out of synchronism a good sample that its reference predicts adds to the match
run, any other begins it again, and a bad slot removes the reference; at a run of 32 the checker is in synchronism
with its own sequence. There it follows its own sequence, a mismatch is counted, and 8 mismatches among the last 64
samples end the synchronism. The predicted sample is the next 16 bits of the sequence, each the exclusive-or of the
bits 15 and 14 places before it; a test's first two samples are 2 and 12. -/
def Obligations.PathTestAndTestInsertBegin : Prop :=
  ((∀ (h : Head) (a : PathTestArg) (s : State), s.readyFor h →
     ∃ t, exec (.pathTest h (.fields a)) s = .next t ∧
       if badSeat a.seat then turnsAway h .range s t
       else if s.test.isSome then turnsAway h .busy s t
       else match (s.seat a.seat).binding with
         | none => turnsAway h .state s t
         | some d =>
           if (s.seat a.seat).floorState ≠ .idle ∨ s.seatLink a.seat = .lost ∨ (s.br d.branch).state ≠ .running then
             turnsAway h .state s t
           else accepts h { s with test := some (newTest a.seat d (clampNat 1 60 a.duration)) } t) ∧
   (∀ (h : Head) (a : TestInsertArg) (s : State), s.readyFor h →
     ∃ t, exec (.testInsert h (.fields a)) s = .next t ∧
       match branchOfCode a.branch with
       | none => turnsAway h .range s t
       | some b =>
         if a.position = 0 || 24 < a.position then turnsAway h .range s t
         else if (s.br b).state ≠ .running then turnsAway h .state s t
         else if s.entry? ⟨b, a.position⟩ = none then turnsAway h .notFound s t
         else t.core = ({ s.modBr b (fun r => { r with insertion := some (a.position, h) }) with
           cru := { s.cru with phase := .testFrame b } } : State).core) ∧
   ∀ s : State, ∃ t, exec .pathTestEnd s = .next t ∧ t.core = ({ s with test := none } : State).core) ∧
  ((∀ (x : Sample) (i : Nat), 16 ≤ i → i < 32 →
     (x ++ predict x).getMsbD i = ((x ++ predict x).getMsbD (i - 15) != (x ++ predict x).getMsbD (i - 14))) ∧
   (∀ (n : Nat) (d : Binding) (k : Nat), let g := next16 (newTest n d k).gen
     g.2 = 2 ∧ (next16 g.1).2 = 12) ∧
   ∀ t : PathTest,
     (t.inSync = false →
       t.check none = { t with matchRun := 0, reference := none } ∧
       ∀ x,
         let run := if t.reference.map predict = some x then t.matchRun + 1 else 0
         t.check (some x) = if run < 32 then { t with matchRun := run, reference := some x }
           else { t with inSync := true, achieved := true, matchRun := 0, reference := some x, window := [] }) ∧
     (t.inSync = true → ∀ r, t.reference = some r → t.window.length ≤ 64 → ∀ slot,
       let matched : Bool := decide (slot = some (predict r))
       let window := if t.window.length < 64 then t.window ++ [matched] else t.window.tail ++ [matched]
       let count := if matched then t.mismatches else min 16777215 (t.mismatches + 1)
       t.check slot = if (window.filter (fun ok => !ok)).length < 8 then
           { t with reference := some (predict r), window := window, mismatches := count }
         else { t with inSync := false, matchRun := 0, reference := none, window := [], mismatches := count }))

/-- COUNTER_SET (09 R172), FILTER_SET (10 R186), POWER_SET (11 R202): RANGE; then the record has the items given.
REPORT_TO (10 R190): 0 returns the report address to DEFAULT, the lowest console; an octet that is no position is
answered RANGE, a position that is no console NOT_FOUND; else the address is SET there. REPORT_SET (R191): RANGE; then
the enables and edge selects given are written. Nothing else changes. -/
def Obligations.ServiceRequestsWriteTheirRecords : Prop :=
  ((∀ (h : Head) (a : CounterSetArg) (s : State), s.readyFor h →
     ∃ t, exec (.counterSet h (.fields a)) s = .next t ∧
       match branchOfCode a.branch with
       | none => turnsAway h .range s t
       | some b =>
         if counterSetBad a then turnsAway h .range s t
         else accepts h (s.modBr b (fun r => { r with counter := r.counter.write a })) t) ∧
   (∀ (h : Head) (a : FilterSetArg) (s : State), s.readyFor h →
     ∃ t, exec (.filterSet h (.fields a)) s = .next t ∧
       if a.entry = 0 || 3 < a.entry || a.value.isBad then turnsAway h .range s t
       else accepts h { s with filter := s.filter.set a.entry a.value.toOption } t) ∧
   (∀ (h : Head) (a : PowerSetArg) (s : State), s.readyFor h →
     ∃ t, exec (.powerSet h (.fields a)) s = .next t ∧
       if powerSetBad a then turnsAway h .range s t else accepts h { s with pwr := s.pwr.write a } t)) ∧
  ((∀ (h : Head) (a : Octet) (s : State), s.readyFor h →
     ∃ t, exec (.reportTo h (.fields a)) s = .next t ∧
       if a = 0 then
         accepts h { s with cru := { s.cru with addressSet := false, address := s.lowest .console } } t
       else match bindingOf a with
         | none => turnsAway h .range s t
         | some d =>
           if (s.entry? d).map (·.kind) = some .console then
             accepts h { s with cru := { s.cru with addressSet := true, address := some d } } t
           else turnsAway h .notFound s t) ∧
   (∀ (h : Head) (is : List ReportItem) (s : State), s.readyFor h →
     ∃ t, exec (.reportSet h (.fields is)) s = .next t ∧
       if !is.any (fun i => i.enable.present || i.edge.present) || is.any reportItemBad then turnsAway h .range s t
       else accepts h { s with cru := is.foldl Cru.writeItem s.cru } t))

/-- The status queries that only read (10 R192; 01 section 1.1, 06 R115, 07 R140, 08 R159, 11 R203): RANGE for part or
place 0, NOT_FOUND beyond the last part, else OK with the octets of the part; nothing changes, but how far an answer
of BOOKINGS has come. That answer holds the clock, the staging, the pool and both meeting records, and then bookings
from the place onward; a part holds as many whole items as fit, with a mark telling whether more follow, and never
passes the 60 octets of a payload; while more follow, the same console goes on from the first item not yet returned by
asking for the place of the first booking not yet returned (12 R209). The order of the items inside an answer is the
model's (log entry 30), and so is how the hub knows what it has returned (log entry 61). -/
def Obligations.ReadingQueriesChangeNothing : Prop :=
  ∀ (h : Head) (s : State), s.readyFor h →
    (∀ a : SeatQueryArg, ∃ t, exec (.statusQuerySeat h (.fields a)) s = .next t ∧
      if a.part = 0 || badSeat a.seat then turnsAway h .range s t
      else repliesWith h (partReply (partsOf (s.seatPieces a.seat)) a.part) s t) ∧
    (∀ k : Nat, ∃ t, exec (.statusQueryFloor h (.fields k)) s = .next t ∧
      if k = 0 then turnsAway h .range s t else repliesWith h (partReply (partsOf s.roomPieces) k) s t) ∧
    (∀ k : Nat, ∃ t, exec (.statusQueryBookings h (.fields k)) s = .next t ∧
      if k = 0 then turnsAway h .range s t
      else if k ≠ 1 ∧ s.bookings.length < k then turnsAway h .notFound s t
      else
        let done := s.itemsReturned h.source k
        answersWith h .ok (s.bookingData done k)
          { s with cru := { s.cru with reading := s.readingAfter h.source done k } } t) ∧
    (∀ k : Nat, s.itemsReturned h.source k = match s.cru.reading with
      | some ⟨x, place, items⟩ => if x = h.source ∧ place = k then items else 0
      | none => 0) ∧
    (∀ done k : Nat,
      let left := dropItems done s.calendarPieces
      let header := left.flatMap Piece.octets
      let items := (s.bookings.drop (k - 1)).map s.fmtBooking
      (s.bookingData done k).length ≤ 58 ∧
      (header.length < 57 → ∃ j ≤ items.length,
        s.bookingData done k = Fmt.flag (j < items.length) ++ header ++
          (if j = 0 ∧ items ≠ [] then [] else Fmt.list id (items.take j)) ∧
        header.length + 1 + (items.take j).flatten.length ≤ 57 ∧
        (j < items.length → 57 < header.length + 1 + (items.take (j + 1)).flatten.length) ∧
        s.readingAfter h.source done k =
          if j < items.length then some ⟨h.source, k + j, done + (left.map Piece.items).sum⟩ else none) ∧
      (57 ≤ header.length → ∃ n, 1 ≤ n ∧ n ≤ (left.map Piece.items).sum ∧
        s.readingAfter h.source done k = some ⟨h.source, k, done + n⟩ ∧
        (s.bookingData done k).head? = some 1 ∧ (s.bookingData done k).tail = (partsOf left).headD [])) ∧
    (∀ k : Nat, ∃ t, exec (.statusQueryPower h (.fields k)) s = .next t ∧
      if k = 0 then turnsAway h .range s t else repliesWith h (partReply (partsOf s.powerPieces) k) s t)

/-- The status queries that clear (04 R70, 05 R103, 09 R171, R178, 10 R192, R194): part 1 is read from the state as it
stands, and every peak band is 23, every saturation counter 0, each lane count 0 and each RUNNING MANUAL error counter
0 after it; a later part is read from what part 1 read, and changes nothing. The order of the items inside an answer
and where it is cut into parts are the model's (log entry 30). -/
def Obligations.ClearingQueriesReadAndClear : Prop :=
  ∀ (h : Head) (k : Nat) (s : State), s.readyFor h →
    (∃ t, exec (.statusQueryLevels h (.fields k)) s = .next t ∧
      if k = 0 then turnsAway h .range s t
      else if k = 1 then
        repliesWith h (partReply (partsOf s.levelPieces) 1)
          { s with chans := s.chans.map (fun c => { c with peak := 23 }),
                   cru := { s.cru with snapLevels := some (partsOf s.levelPieces) } } t
      else repliesWith h (laterPart s.cru.snapLevels k) s t) ∧
    (∃ t, exec (.statusQueryMix h (.fields k)) s = .next t ∧
      if k = 0 then turnsAway h .range s t
      else if k = 1 then
        repliesWith h (partReply (partsOf s.allMixPieces) 1)
          { s with satur := List.replicate 50 0,
                   cru := { s.cru with snapMix := some (partsOf s.allMixPieces) } } t
      else repliesWith h (laterPart s.cru.snapMix k) s t) ∧
    (∃ t, exec (.statusQueryLink h (.fields k)) s = .next t ∧
      if k = 0 then turnsAway h .range s t
      else if k = 1 then
        repliesWith h (partReply (partsOf s.linkPieces) 1)
          { s with br0 := { s.br0 with counter := s.br0.counter.read },
                   br1 := { s.br1 with counter := s.br1.counter.read },
                   lane0 := { s.lane0 with counts := Reset.counts },
                   lane1 := { s.lane1 with counts := Reset.counts },
                   cru := { s.cru with snapLink := some (partsOf s.linkPieces) } } t
      else repliesWith h (laterPart s.cru.snapLink k) s t)

/-! ## Resets (01 R15, 10 R193) -/

/-- What the manual gives for a power-on reset (01 R15, 02 R20 and R45, 03 R67, 04 R82, 05 R104, 06 R116, 07 R141, 08
R160, 09 R179, 10 R190 and R195, 11 R204): the seat records with their detectors and nameplates, the channels, both
floors with the settings, gate and mix settings of the settings tables (02 section 2.2, 04 section 4.3, 05 section
5.5), the eight profiles, the lines, the partition, the calendar, the screen director, both branches and lanes, the
filter (10 section 10.4), the report enables of SEAT to COUNTER in order, all on but GATE, with the edge selects
CHANGES, OPENINGS and LOST_ONLY (10 section 10.7), the console request unit and the power manager. -/
def Obligations.ResetValuesAreTheManuals : Prop :=
  let s := State.reset
  let settings : FloorSettings :=
    { mode := .request, openMicLimit := 4, fullPolicy := .refuse, autoGrant := true, turnLimit := 0, warnLead := 30,
      expiryAction := .close, priorityStyle := .latched, resumePolicy := .resume, voiceRelease := 5,
      presenceRequired := false, walkinIdle := 20 }
  let gate : GateSettings := { openBand := 12, closeBand := 16, hangTime := 500 }
  let mix : MixSettings :=
    { closedGate := .db (-30), priorityDuck := .db (-20), proximityDuck := .db (-12), talkerDuck := .mute, level := -12 }
  let clear : Detector := { window := List.replicate 20 false, pressed := false, held := none, longGiven := false }
  (∀ n ∈ allSeats,
    (s.seat n).serial = none ∧ (s.seat n).side = (if n ≤ 24 then Floor.A else Floor.B) ∧ (s.seat n).trim = 0 ∧
    (s.seat n).neighbours = [] ∧ (s.seat n).binding = none ∧ (s.seat n).role = .none ∧
    (s.seat n).delegate = none ∧ (s.seat n).presence = .absent ∧ (s.seat n).floorState = .idle ∧
    (s.seat n).accSeconds = 0 ∧ (s.seat n).accTurns = 0 ∧ (s.seat n).accRem = 0 ∧ (s.seat n).presets = [0, 0, 0, 0] ∧
    (s.seat n).refusal = none ∧ (s.seat n).turn = none ∧ (s.seat n).release = none ∧ (s.seat n).cardClear = 0 ∧
    s.seatLink n = .lost ∧ s.underTest n = false ∧ s.lamp n = .off ∧
    (s.detectors n).mic = clear ∧ (s.detectors n).priority = clear ∧ (s.detectors n).next = clear ∧
    s.plate n = { lit := true, role := .none, name := none, present := false, see := none, count := 0 }) ∧
  (∀ c ∈ allChans, (s.chan c).gate = .closed ∧ (s.chan c).band = 23 ∧ (s.chan c).peak = 23 ∧ (s.chan c).hang = none ∧
    (s.chan c).opening = none) ∧
  (∀ f, (s.meeting f).state = .vacant ∧ (s.meeting f).served = none ∧ (s.meeting f).due = none ∧
    (s.meeting f).endWarning = false ∧ (s.meeting f).deadline = none ∧ (s.meeting f).idle = 0 ∧
    (s.meeting f).checkedIn = [] ∧ (s.floor f).named = [] ∧ s.contributors f = [] ∧
    (s.floor f).settings = settings ∧ (s.floor f).gate = gate ∧ (s.floor f).mix = mix) ∧
  s.profiles = List.replicate 8 { floor := settings, gate := gate, mix := mix, lead := 10 } ∧
  (∀ l, s.line l = { serial := none, assignment := .A, trim := 0, level := 0, binding := none }) ∧
  s.satur = List.replicate 50 0 ∧
  s.part.mode = .follow ∧ s.part.target = .combined ∧ s.part.partition = .combined ∧ s.part.settle = none ∧
  s.part.source = none ∧ s.part.reading = .absent ∧
  s.clock = none ∧ s.bookings = [] ∧ s.staging = .idle ∧ s.poolInUse = 0 ∧
  (∀ k, s.screen k =
    { serial := none, floor := .A, warmup := 0, binding := none, power := .off, warm := none,
      content := { layout := 0, title := none, speakers := [], holder := none, queue := [], stop := none, next := none,
                   endWarning := false, dueWarning := false },
      unsent := false, lastShow := none }) ∧
  s.sd.layouts = List.replicate 16 none ∧ s.sd.waiting = [] ∧
  (∀ k, (s.camera k).serial = none ∧ (s.camera k).floor = .A ∧ (s.camera k).overview = 1 ∧
    (s.camera k).cutDelay = 1500 ∧ (s.camera k).minimumHold = 4 ∧ (s.camera k).returnDelay = 3 ∧
    (s.camera k).binding = none ∧ (s.camera k).shot = none ∧ (s.camera k).shotStart = none ∧
    (s.camera k).candidate = none ∧ (s.camera k).quiet = 0) ∧
  (∀ b, (s.br b).state = .down ∧ (s.br b).table = [] ∧ (s.br b).insertion = none ∧
    (s.br b).counter =
      { value := 0, slotCheck := true, laneCrc := true, lostEntry := true, auto := false, running := true }) ∧
  s.test = none ∧
  (∀ b, (s.lane b).turn = .free ∧ (s.lane b).last = 24 ∧ (s.lane b).places = [] ∧ (s.lane b).hold = false ∧
    (s.lane b).out = [] ∧ (s.lane b).rotation = .report ∧
    (s.lane b).counts = { crc := 0, source := 0, framing := 0, holdViolation := 0, relayDrop := 0, kind := 0 }) ∧
  s.filter = [some (0x00, 0xFF), some (0x7F, 0xFF), some (0xFF, 0xFF), none] ∧
  s.cru.reports = [] ∧ s.cru.lost = 0 ∧ s.cru.phase = .idle ∧ s.cru.waiting = none ∧
  s.cru.enables = [true, true, true, true, true, false, true, true, true, true, true, true] ∧
  s.cru.cardEvery = false ∧ s.cru.gateAll = false ∧ s.cru.linkAll = false ∧
  s.cru.addressSet = false ∧ s.cru.address = none ∧ s.cru.hello = some .powerOn ∧
  s.cru.snapLevels = none ∧ s.cru.snapMix = none ∧ s.cru.snapLink = none ∧
  s.pwr.state = .active ∧ s.pwr.idle = 0 ∧ s.pwr.idleRem = 0 ∧ s.pwr.delay = 15 ∧
  s.pwr.maskKey = true ∧ s.pwr.maskCard = true ∧ s.pwr.maskWall = true ∧ s.pwr.maskConsole = true ∧
  s.pwr.progress = .none ∧ s.pwr.start = none ∧ s.pwr.pendingEvent = none ∧ s.pwr.carried = none

/-- RESET (10 R193): the answer OK is made, and the console request unit is busy until it has been sent; nothing else
changes. RESET_AFTER_ANSWER then is the warm reset, and changes nothing when none is due. POWER_ON_RESET returns the
hub to its reset values, the waiting commands apart (that the queue of commands stays is the model's: it is no part of
the hub). WARM_RESET (01 R15, 02 R45, 03 R67, 04 R82, 05 R104, 06 R116, 07 R141, 08 R160, 09 R179, 10 R195, 11 R204)
keeps the seat map and the presets, the written fields of lines, screens and cameras, the profiles, the bookings, the
clock, the layout rules, the filter, the report selects, the idle delay and the wake mask, gives both floors the
settings, gate and mix settings of profile 0 as it stands, and clears what runs: turns, counts and displays, the
detectors and nameplates, the lanes with their queues, turns, rotation and counts, the reports, the waiting answer and
the snapshots; a HELLO of kind WARM is then due (10 R190). After it (06 R116) the mode
stands, and a forced mode sets the partition and the target; in FOLLOW they are SPLIT where the reading stood CLOSED,
else COMBINED; the source is not bound, the reading ABSENT, and no settle runs. -/
def Obligations.ResetsKeepWhatTheManualSays : Prop :=
  ((∀ (h : Head) (s : State), s.readyFor h →
     ∃ t, exec (.reset h (.fields ())) s = .next t ∧ t.cru.phase = .resetAnswer ∧
       t.core = ({ s with cru := { s.cru with phase := .resetAnswer } } : State).core ∧
       (answerMessage h .ok [] .resetAnswer ∈ (t.lane h.branch).out ∨
         t.cru.waiting = some (h.branch, answerMessage h .ok [] .resetAnswer))) ∧
   (∀ s : State, s.cru.phase.awaitsReset = true →
     ∃ t, exec .resetAfterAnswer s = .next t ∧ exec .warmReset s = .next t) ∧
   ∀ s : State, s.cru.phase.awaitsReset = false → exec .resetAfterAnswer s = .next s) ∧
  ((∀ s : State, exec .powerOnReset s = .next { State.reset with pending := s.pending }) ∧
   ∀ s : State, ∃ t, exec .warmReset s = .next t ∧ t.pending = s.pending ∧
     (∀ n,
       (t.seat n).serial = (s.seat n).serial ∧ (t.seat n).side = (s.seat n).side ∧
       (t.seat n).trim = (s.seat n).trim ∧ (t.seat n).neighbours = (s.seat n).neighbours ∧
       (t.seat n).presets = (s.seat n).presets ∧ (t.seat n).binding = none ∧ (t.seat n).role = .none ∧
       (t.seat n).delegate = none ∧ (t.seat n).presence = .absent ∧ (t.seat n).floorState = .idle ∧
       (t.seat n).accSeconds = 0 ∧ (t.seat n).accTurns = 0) ∧
     (∀ n ∈ allSeats,
       (t.seat n).refusal = none ∧ (t.seat n).turn = none ∧ (t.seat n).release = none ∧ (t.seat n).cardClear = 0 ∧
       t.detectors n = State.reset.detectors n ∧ t.plate n = State.reset.plate n ∧ t.lamp n = .off) ∧
     (∀ f, t.meeting f = State.reset.meeting f ∧ (t.floor f).named = [] ∧
       (t.floor f).settings = (s.profile 0).floor ∧ (t.floor f).gate = (s.profile 0).gate ∧
       (t.floor f).mix = (s.profile 0).mix) ∧
     (∀ l, t.line l = { s.line l with binding := none }) ∧ t.chans = State.reset.chans ∧
     t.satur = State.reset.satur ∧ t.part.mode = s.part.mode ∧ t.part.target = t.part.partition ∧
     t.part.partition = (match s.part.mode with
       | .forceCombined => .combined
       | .forceSplit => .split
       | .follow => if s.part.reading = .closed then .split else .combined) ∧
     t.part.source = none ∧ t.part.reading = .absent ∧ t.part.settle = none ∧
     t.clock = s.clock ∧ t.profiles = s.profiles ∧
     t.bookings = s.bookings.map (fun b => { b with state := .scheduled, runtime := none }) ∧ t.staging = .idle ∧
     t.sd.layouts = s.sd.layouts ∧ t.sd.waiting = [] ∧ t.br0 = State.reset.br0 ∧ t.br1 = State.reset.br1 ∧
     t.test = none ∧
     (∀ b, (t.lane b).turn = .free ∧ (t.lane b).last = 24 ∧ (t.lane b).places = [] ∧ (t.lane b).hold = false ∧
       (t.lane b).out = [] ∧ (t.lane b).rotation = .report ∧
       (t.lane b).counts = { crc := 0, source := 0, framing := 0, holdViolation := 0, relayDrop := 0, kind := 0 }) ∧
     (∀ k, (t.screen k).serial = (s.screen k).serial ∧ (t.screen k).floor = (s.screen k).floor ∧
       (t.screen k).warmup = (s.screen k).warmup ∧ (t.screen k).binding = none ∧ (t.screen k).power = .off ∧
       (t.screen k).warm = none ∧ (t.screen k).content.layout = 0 ∧ (t.screen k).unsent = false ∧
       (t.screen k).lastShow = none) ∧
     (∀ k, (t.camera k).serial = (s.camera k).serial ∧ (t.camera k).floor = (s.camera k).floor ∧
       (t.camera k).overview = (s.camera k).overview ∧ (t.camera k).cutDelay = (s.camera k).cutDelay ∧
       (t.camera k).minimumHold = (s.camera k).minimumHold ∧ (t.camera k).returnDelay = (s.camera k).returnDelay ∧
       (t.camera k).binding = none ∧ (t.camera k).shot = none ∧ (t.camera k).shotStart = none ∧
       (t.camera k).candidate = none ∧ (t.camera k).quiet = 0) ∧
     t.filter = s.filter ∧ t.cru.enables = s.cru.enables ∧ t.cru.cardEvery = s.cru.cardEvery ∧
     t.cru.gateAll = s.cru.gateAll ∧ t.cru.linkAll = s.cru.linkAll ∧ t.cru.reports = [] ∧ t.cru.lost = 0 ∧
     t.cru.phase = .idle ∧ t.cru.waiting = none ∧ t.cru.addressSet = false ∧ t.cru.address = none ∧
     t.cru.hello = some .warm ∧ t.cru.snapLevels = none ∧ t.cru.snapMix = none ∧ t.cru.snapLink = none ∧
     t.pwr.state = .active ∧ t.pwr.delay = s.pwr.delay ∧ t.pwr.maskKey = s.pwr.maskKey ∧
     t.pwr.maskCard = s.pwr.maskCard ∧ t.pwr.maskWall = s.pwr.maskWall ∧ t.pwr.maskConsole = s.pwr.maskConsole ∧
     t.pwr.idle = 0 ∧ t.pwr.idleRem = 0 ∧ t.pwr.progress = .none ∧ t.pwr.start = none ∧ t.pwr.pendingEvent = none ∧
     t.pwr.carried = none)

/-! ## Keys, holds and cards (01 to 04) -/

/-- A mic PRESS of a seat that is not IDLE, the room being ACTIVE (02 R22, R33, 03 R57): a QUEUED seat withdraws, a
SPEAKING seat closes and a SUSPENDED one gives up, each IDLE and off its list with its turn accounted (unless the
grant pass of a VOICE floor grants it again), and a holder's press does nothing. On a floor in OPEN or CHAIR_ONLY mode
nothing else changes; in the others the grant pass may follow a close. -/
def Obligations.MicPressOfABusySeat : Prop :=
  ∀ (n : Nat) (s : State), s.pwr.state = .active → s.givesKeys n = true → (s.seat n).floorState ≠ .idle →
    ∃ t, exec (.micPress n) s = .next t ∧
      let u := s.pressed n .mic
      let f := s.seatFloor n
      let quiet : Prop := (s.floor f).settings.mode = .openMic ∨ (s.floor f).settings.mode = .chairOnly
      match (s.seat n).floorState with
      | .idle => False
      | .queued => t.core = ((u.modFloor f (fun r => { r with queue := r.queue.filter (· != n) })).modSeat n
          (SeatRec.toState .idle)).core
      | .speaking => t.still = u.still ∧ (t.seat n).accTurns = min 255 ((s.seat n).accTurns + 1) ∧
          ((s.floor f).settings.mode ≠ .voice → n ∉ (s.floor f).queue →
            (t.seat n).floorState = .idle ∧ n ∉ (t.floor f).grantOrder) ∧
          (quiet → t.core = ((u.modFloor f (fun r => { r with grantOrder := r.grantOrder.filter (· != n) })).modSeat n
            (fun r => (r.toState .idle).accountTurn)).core)
      | .suspended => t.still = u.still ∧ (t.seat n).accTurns = min 255 ((s.seat n).accTurns + 1) ∧
          n ∉ (t.floor f).susp.map (·.seat) ∧
          ((s.floor f).settings.mode ≠ .voice → n ∉ (s.floor f).queue → (t.seat n).floorState = .idle) ∧
          (quiet → t.core = ((u.modFloor f (fun r => { r with susp := r.susp.filter (·.seat != n) })).modSeat n
            (fun r => (r.toState .idle).accountTurn)).core)
      | .priority => t.core = u.core
      | .priorityWait => t.core = u.core

/-- A mic PRESS of an IDLE seat of a LIVE floor, the room being ACTIVE (02 R24, R28 to R32): a seat that fails
admission starts its refusal display; a GUEST or DELEGATE joins the tail of the queue of a REQUEST or CHAIR_ONLY floor
that does not grant by itself, speaks at once on one that does with a slot free and an empty queue, or is refused by a
full queue; on an OPEN floor it speaks at once while a slot is free, is refused by a hold and, under REFUSE, by a full
floor, and under BUMP_OLDEST takes the place of the earliest-granted speaker that is no chair seat; on a VOICE floor
it is refused. A chair seat, in any mode, is refused by a hold, speaks at once while a slot is free, and else takes a
place in the same way; where every speaker is a chair seat the request is refused. Nothing else changes. -/
def Obligations.MicPressOfAnIdleSeat : Prop :=
  ∀ (n : Nat) (s : State), s.pwr.state = .active → s.givesKeys n = true → (s.seat n).floorState = .idle →
    s.live (s.seatFloor n) = true →
    ∃ t, exec (.micPress n) s = .next t ∧ requestTaken n (s.pressed n .mic) t

/-- A NEXT PRESS, the room being ACTIVE (02 R25): refused with the refusal display while the floor is not LIVE, by a
seat that is no chair seat, outside REQUEST with auto grant off, under a hold, with an empty queue or with no slot
free; else the head of the queue is granted. A LONG (02 R22, 04 R79): on the mic key it withdraws a QUEUED seat; else
it changes the detector alone. A RELEASE of the mic or the next key (04 R78) changes the detector alone, in every
power state. Of its own a detector gives a PRESS at 18 set samples of 20, a RELEASE at 2, a LONG at a held count of
1,500 (04 R78, R79; that a RELEASE of the same sample comes alone is the model's, log entry 56); a commanded one is
given whatever the window (log entry 2). -/
def Obligations.NextAndLongPressesAct : Prop :=
  (∀ (n : Nat) (s : State), s.pwr.state = .active → s.givesKeys n = true →
     ∃ t, exec (.nextPress n) s = .next t ∧
       let u := s.pressed n .next
       let f := s.seatFloor n
       let refused : Prop := t.core = (u.modSeat n (fun r => { r with refusal := some 0 })).core
       if !s.live f then refused
       else if !(s.seat n).role.isChair then refused
       else if (s.floor f).settings.mode ≠ .request ∨ (s.floor f).settings.autoGrant = true then refused
       else if s.holdActive f then refused
       else match (s.floor f).queue with
         | [] => refused
         | m :: _ =>
           if s.slotFree f then
             t.core = (becomeSpeaking m (startTurn (s.floor (s.seatFloor m)).settings.turnLimit) (leaveQueue m u)).core
           else refused) ∧
  ((∀ (n : Nat) (k : Key) (s : State), s.pwr.state = .active → s.givesKeys n = true →
     ∃ t, exec (.keyLong n k) s = .next t ∧
       let u := s.modDets n (SeatDets.mod k Detector.long)
       if k = .mic ∧ (s.seat n).floorState = .queued then
         t.core = ((u.modFloor (s.seatFloor n) (fun r => { r with queue := r.queue.filter (· != n) })).modSeat n
           (SeatRec.toState .idle)).core
       else t.core = u.core) ∧
   (∀ (n : Nat) (k : Key) (s : State), k ≠ .priority → s.givesKeys n = true →
     ∃ t, exec (.keyRelease n k) s = .next t ∧ t.core = (s.modDets n (SeatDets.mod k Detector.release)).core)) ∧
  (∀ d : Detector,
     let set := (d.window.filter id).length
     (d.due = some .press ↔ d.pressed = false ∧ 18 ≤ set) ∧ (d.due = some .release ↔ d.pressed = true ∧ set ≤ 2) ∧
     (d.due = some .long ↔ d.pressed = true ∧ 2 < set ∧ d.longGiven = false ∧ d.held = some 1500))

/-- An admitted priority PRESS, the room being ACTIVE, from a seat that holds no entry (03 R48 to R51): on an empty
stack it starts a hold, which accounts the turn of a pressing seat that was SPEAKING and suspends the floor's other
speakers in grant order with their timers; a CHAIR covers a VICE entry that stands alone; a VICE_CHAIR joins beneath a
CHAIR entry that stands alone. A press that is not admitted starts the refusal display and changes nothing else. -/
def Obligations.PriorityPressMakesAnEntry : Prop :=
  ∀ (n : Nat) (s : State), s.pwr.state = .active → s.givesKeys n = true →
    (∀ e ∈ (s.floor (s.seatFloor n)).stack, e.holder ≠ n) → TablesWhole s →
    (∀ m ∈ (s.floor (s.seatFloor n)).named, m ∈ allSeats) →
    ∃ t, exec (.priorityPress n) s = .next t ∧
      let u := s.pressed n .priority
      let f := s.seatFloor n
      let latched : Bool := (s.floor f).settings.priorityStyle == .latched
      match s.holdAdmission n, levelOf (s.seat n).role, (s.floor f).stack with
      | some _, _, _ => t.core = (u.modSeat n (fun r => { r with refusal := some 0 })).core
      | none, none, _ => t.core = u.core
      | none, some l, [] =>
        (t.floor f).stack = [⟨l, n, latched⟩] ∧ (t.floor f).grantOrder = [] ∧
        (t.floor f).susp.map (·.seat) = (s.floor f).grantOrder.filter (· != n) ∧
        (∀ e ∈ (t.floor f).susp, some e.turn = (s.seat e.seat).turn ∨ (s.seat e.seat).turn = none) ∧
        (t.floor f).queue = (s.floor f).queue ∧ (t.seat n).floorState = .priority ∧
        (t.seat n).turn = none ∧ (t.seat n).release = none ∧
        turnsOf n ((s.seat n).floorState == .speaking) s t ∧
        (∀ m ∈ (t.floor f).susp.map (·.seat), turnsOf m false s t) ∧
        (∀ m ∈ (t.floor f).susp.map (·.seat), (t.seat m).floorState = .suspended) ∧ t.still = u.still
      | none, some .chair, [⟨.vice, low, b⟩] =>
        (t.floor f).stack = [⟨.chair, n, latched⟩, ⟨.vice, low, b⟩] ∧ (t.seat n).floorState = .priority ∧
        (t.seat low).floorState = .priorityWait ∧ turnsOf low true s t ∧
        turnsOf n ((s.seat n).floorState == .suspended) s t ∧
        t.still = u.still
      | none, some .vice, [⟨.chair, top, b⟩] =>
        (t.floor f).stack = [⟨.chair, top, b⟩, ⟨.vice, n, latched⟩] ∧ (t.seat n).floorState = .priorityWait ∧
        turnsOf n ((s.seat n).floorState == .suspended) s t ∧ (t.seat top).floorState = (s.seat top).floorState ∧ t.still = u.still
      | none, some _, _ => t.core = u.core

/-- A priority key of the holder of an entry, the room being ACTIVE (03 R52, R53): the PRESS ends a latched entry, the
RELEASE a momentary one, and the other of the two does nothing. When a lower entry remains, its holder takes over;
when none does, the stack and the suspension list are empty, and the list has been settled by the resume policy (R54).
The turn of a PRIORITY seat that ends is accounted, that of a PRIORITY_WAIT seat is not, and the holder that takes
over is not (R63). The settlement (R54, R65): under RESUME those suspended seats whose account has not reached its
allowance resume from the head of the list as far as the open-mic limit allows, in list order at the tail of the grant
order, with their timers and no turn accounted; the others, and all under DROP, are IDLE with their turn accounted;
the SETTLED report names both in list order, the grant pass follows it, and that it concerns no entry is the model's
(log entry 31). -/
def Obligations.PriorityKeysEndAnEntry : Prop :=
  (∀ (n : Nat) (s : State) (e : HoldEntry), s.pwr.state = .active → s.givesKeys n = true → ListsPlaced s →
     TablesWhole s → (s.floor (s.seatFloor n)).stack.find? (·.holder == n) = some e →
     let f := s.seatFloor n
     let ended (u t : State) : Prop :=
       t.still = u.still ∧
       match (s.floor f).stack with
       | [_] => (t.floor f).stack = [] ∧ (t.floor f).susp = [] ∧
           (SeatsStandOnce s → settles f s t ∧ turnsOf n true s t ∧
             ((s.floor f).settings.mode ≠ .voice → (t.seat n).floorState = .idle))
       | [top, low] =>
         if top.holder = n then
           (t.floor f).stack = [low] ∧ (low.holder ≠ n → (t.seat n).floorState = .idle) ∧
           (t.seat low.holder).floorState = .priority ∧ (t.floor f).susp = (s.floor f).susp ∧
           (SeatsStandOnce s → turnsOf n true s t ∧ turnsOf low.holder false s t)
         else (t.floor f).stack = [top] ∧ (t.seat n).floorState = .idle ∧ (t.floor f).susp = (s.floor f).susp ∧
           (SeatsStandOnce s → turnsOf n false s t)
       | _ => False
     (∃ t, exec (.priorityPress n) s = .next t ∧
       if e.latched then ended (s.pressed n .priority) t else t.core = (s.pressed n .priority).core) ∧
     (∃ t, exec (.priorityRelease n) s = .next t ∧
       let u := s.modDets n (SeatDets.mod .priority Detector.release)
       if e.latched then t.core = u.core else ended u t)) ∧
  (∀ (f : Floor) (s : State), TablesWhole s → (∀ e ∈ (s.floor f).susp, e.seat ∈ allSeats ∧ s.seatFloor e.seat = f) →
     ((s.floor f).susp.map (·.seat)).Nodup →
     let resumed := s.resumable f
     let dropped := (s.floor f).susp.filter (fun e => !resumed.contains e)
     ∃ u : State, settle f s = grantPass f (priorityReport f .settled none none none
         (Fmt.seats (resumed.map (·.seat)) ++ Fmt.seats (dropped.map (·.seat))) u) ∧
       u.still = s.still ∧ (u.floor f).susp = [] ∧ (u.floor f).stack = (s.floor f).stack ∧
       (u.floor f).grantOrder = (s.floor f).grantOrder ++ resumed.map (·.seat) ∧
       (∀ e ∈ resumed, (u.seat e.seat).floorState = .speaking ∧ (u.seat e.seat).turn = some e.turn ∧
         turnsOf e.seat false s u) ∧
       ∀ e ∈ dropped, (u.seat e.seat).floorState = .idle ∧ turnsOf e.seat true s u)

/-- CARD_IN and CARD_OUT from a station (01 R9, R10; 10 R187; 11 R197, R199): a sender that is no SEAT node is
counted; an unbound station changes nothing of the core but the idle count, and so does a card at a floor that takes
none (VACANT or PREPARING). The seat's own card makes it PRESENT by CARD (R12 with the first check-in), or ABSENT; the
card of another seat of the floor shows that seat on the nameplate (R153); any other card changes nothing more.
Outside ACTIVE the CARD_IN of a bound station goes to the power manager. A card-present flag that is lost (R11) makes
a seat that is PRESENT by CARD ABSENT. With presence required the ABSENT seat is released (R10, 02 R43). A commanded
flag loss is the event itself, whatever the count of clear readings (log entry 2); a card message whose length does
not suit it is log entry 21. -/
def Obligations.CardsSetPresence : Prop :=
  let gone (n : Nat) (s : State) : State := s.modSeat n (fun r => { r with presence := .absent, cardClear := 0 })
  let leaves (n : Nat) (s t : State) : Prop :=
    t.still = (gone n s).still ∧ (t.seat n).presence = .absent ∧
    if (s.floor (s.seatFloor n)).settings.presenceRequired then
      TablesWhole s → ListsPlaced s → s.standsOnce n → releasedFrom s n t
    else t.core = (gone n s).core
  (∀ (b : Branch) (p : Nat) (c : CardId) (s : State), (s.br b).state.carriesLane = true →
    (∃ t, exec (.cardIn b p c) s = .next t ∧
      if s.isSeatNode ⟨b, p⟩ = false then
        t.core = (s.modLane b (fun l => { l with counts := { l.counts with kind := min (l.counts.kind + 1) 65535 } })).core
      else match s.seatAt? ⟨b, p⟩ with
        | none => t.core = (if s.pwr.state = .active then restPower s else s).core
        | some n =>
          let f := s.seatFloor n
          if s.pwr.state ≠ .active then exec (.cardToPower b p c) s = .next t
          else if (s.meeting f).state.takesCards = false then t.core = (restPower s).core
          else if (s.seat n).delegate.map (·.card) = some c then
            (TablesWhole s → (t.seat n).presence = .card) ∧
            let here := (restPower s).modSeat n (fun r =>
              if r.presence = .card then r else { r with presence := .card, cardClear := 0 })
            t.core = (if (s.seat n).presence = .absent ∧ (s.seat n).role ≠ .none then
                here.modMeeting f (fun m => { m with
                  checkedIn := if n ∈ m.checkedIn then m.checkedIn else m.checkedIn ++ [n]
                  state := if m.state = .checkIn then .inSession else m.state })
              else here).core
          else t.core = (restPower s).core ∧
            ∀ m, (s.floorSeats f).find? (fun m => m != n && ((s.seat m).delegate.map (·.card)) == some c) = some m →
              TablesWhole s → s.linkOf (some ⟨b, p⟩) ≠ .lost → (t.plate n).see = some m ∧ (t.plate n).count = 0) ∧
    (∃ t, exec (.cardOut b p c) s = .next t ∧
      if s.isSeatNode ⟨b, p⟩ = false then
        t.core = (s.modLane b (fun l => { l with counts := { l.counts with kind := min (l.counts.kind + 1) 65535 } })).core
      else match s.seatAt? ⟨b, p⟩ with
        | none => t.core = s.core
        | some n =>
          if (s.meeting (s.seatFloor n)).state.takesCards = true ∧ (s.seat n).delegate.map (·.card) = some c ∧
            (s.seat n).presence ≠ .absent then leaves n s t
          else t.core = s.core)) ∧
  (∀ (n : Nat) (s : State), (s.seat n).presence = .card →
    ∃ t, exec (.cardFlagLoss n) s = .next t ∧ leaves n s t) ∧
  ∀ (n : Nat) (s : State), (s.seat n).presence ≠ .card → exec (.cardFlagLoss n) s = .next s

/-- The steps of a running turn (03 R60 to R62, R64): a warning stands from TURN_WARNING on; TURN_EXPIRY under NOTIFY
begins the overtime, under CLOSE it accounts the turn; a second of overtime and a second of the account are added, and
an account that becomes equal to its allowance accounts the turn of a SPEAKING seat. The displays that end (02 R24, 08
R153): a refusal display leaves the lamp to the floor state, a wrong-seat text leaves the nameplate; nothing else of
the core changes. A commanded one is the event itself, whatever its timer stood at (log entry 2). Of itself the hub
judges at each millisecond: with no account at its allowance and no turn due this changes nothing; else the seats
whose account has reached its allowance are closed and the due turns take their warning and expiry, in ascending seat
order (that accounts come before turns is the model's, log entry 47). A tick moves everything on, judges so, and makes
the millisecond's evaluation (this order is the model's, log entry 3). A seat closed by its allowance is IDLE, off its
lists, its turn accounted. -/
def Obligations.SeatTimersKeepTime : Prop :=
  ((∀ (n : Nat) (s : State) (r : Turn), s.runningTurn n = some r →
     r.mayWarn (s.floor (s.seatFloor n)).settings.warnLead = true →
     ∃ t, exec (.turnWarning n) s = .next t ∧
       t.core = (s.modSeat n (fun x => { x with turn := some (r.warnAt (s.floor (s.seatFloor n)).settings.warnLead) })).core ∧
       t.lamp n = if s.pwr.state = .dim ∨ s.pwr.state = .sleep then .off
         else if (s.seat n).refusal.isSome then .blinkRefused else .blinkWarn) ∧
   (∀ (n : Nat) (s : State) (r : Turn), s.runningTurn n = some r → r.remaining.isSome → r.expired = false →
     ∃ t, exec (.turnExpiry n) s = .next t ∧
       match (s.floor (s.seatFloor n)).settings.expiryAction with
       | .notify => t.core = (s.modSeat n (fun x =>
           { x with turn := some { r with remaining := some 0, expired := true, overtime := 0, overtimeRem := 0 } })).core
       | .close => t.still = s.still ∧ (t.seat n).accTurns = min 255 ((s.seat n).accTurns + 1)) ∧
   (∀ (n : Nat) (s : State) (r : Turn), s.runningTurn n = some r → r.expired = true →
     exec (.overtimeSecond n) s = .next (s.modSeat n (fun x =>
       { x with turn := some { r with overtime := min (r.overtime + 1) 65535, overtimeRem := 0 } }))) ∧
   (∀ (n : Nat) (s : State), (s.seat n).floorState = .speaking ∨ (s.seat n).floorState = .priority →
     ∃ t, exec (.accountSecond n) s = .next t ∧
       let u := s.modSeat n (fun r => { r with accSeconds := min (r.accSeconds + 1) 65535, accRem := 0 })
       if (s.seat n).floorState = .speaking ∧ (s.seat n).exhausted = false ∧
           (u.seat n).exhausted = true then
         t.still = u.still ∧ (t.seat n).accTurns = min 255 ((s.seat n).accTurns + 1)
       else t.core = u.core)) ∧
  ((∀ (n : Nat) (s : State), exec (.refusalDisplayEnd n) s = .next (s.modSeat n (fun r => { r with refusal := none }))) ∧
   ∀ (n : Nat) (s : State), n ∈ allSeats → (s.plate n).see.isSome →
     ∃ t, exec (.seeSeatDisplayEnd n) s = .next t ∧ (t.plate n).see = none ∧ t.core = s.core) ∧
  ((∀ s : State,
     let t := moveOn s
     let spent := allSeats.filter (fun n =>
       (s.seat n).floorState == .speaking && !(s.seat n).exhausted && (t.seat n).exhausted)
     let turns := allSeats.filter (fun n => t.warnDue n || t.expiryDue n)
     judgeTurns s t = (if spent = [] ∧ turns = [] then t
       else forAll turns judgeTurn (forAll spent (fun n => closeTurn n .allowance .allowance) t)) ∧
     tick s = refresh (evaluateVoices (judgeTurns s t))) ∧
   (∀ (n : Nat) (s : State),
     let lead := (s.floor (s.seatFloor n)).settings.warnLead
     (s.warnDue n = true ↔ ∃ r x, s.runningTurn n = some r ∧ r.remaining = some x ∧ r.warned = false ∧ lead ≠ 0 ∧
       x ≤ lead * 1000) ∧
     (s.expiryDue n = true ↔ ∃ r, s.runningTurn n = some r ∧ r.remaining = some 0 ∧
       (r.expired = false ∨ (s.floor (s.seatFloor n)).settings.expiryAction = .close)) ∧
     exec (.turnWarning n) s = .next (refresh (warnTurn n s)) ∧
     exec (.turnExpiry n) s = .next (refresh (expireTurn n s)) ∧
     judgeTurn n s =
       let u := if s.warnDue n then warnTurn n s else s
       if u.expiryDue n then expireTurn n u else u) ∧
   ∀ (n : Nat) (s : State), n ∈ allSeats → TablesWhole s → ListsPlaced s → s.standsOnce n →
     (s.seat n).floorState = .speaking → (s.seat n).exhausted = true →
     let t := closeTurn n .allowance .allowance s
     t.still = s.still ∧ releasedFrom s n t)

/-! ## Voices and the wall (04, 06) -/

/-- The table of 04 R73: a gate opens at or below the open band and notes its opening time, an open gate hangs at or
above the close band, a hang opens again or closes when it has run for the hang time, and in between the gate stays.
VOICE_EVALUATION (R68, R73): each running channel is evaluated by its floor's gate settings, a stopped one stands as
it was, and beside the channels all that may change is what the floor controllers own and the cameras' shots.
HANG_EXPIRY closes a hanging gate. VOICE_RELEASE (02 R35) closes a speaker of a VOICE floor whose gate is not OPEN;
that the commanded step does so at HANG too, where the manual holds the count at zero, is the model's: the command is
the event itself (log entry 2). The gate update of a floor (02 R34, R35): in another mode than VOICE no action; on a
VOICE floor the release count of a speaker rises while its gate is CLOSED and is 0 otherwise, those whose count has
reached the release time are closed with their turn accounted, the others stand, and the grant pass follows. The grant
pass (R36): nothing while the floor is not LIVE or no slot is free, in OPEN and CHAIR_ONLY, and in REQUEST with auto
grant off; with auto grant on the queue is granted from its head while a slot is free; on a VOICE floor the voice
candidates (IDLE, gate OPEN, admitted) are granted while a slot is free, by opening time and then by seat number, each
with a fresh turn timer and a release count of 0 (R32). -/
def Obligations.VoicesAreEvaluated : Prop :=
  (∀ (g : GateSettings) (now : Nat) (c : Chan), g.inRange →
     let band := bandOf c.msPeak
     let d := c.evaluate g now
     d.band = band ∧ d.peak = min c.peak band ∧ d.msPeak = 0 ∧
     match c.gate with
     | .closed => if band ≤ g.openBand then d.gate = .opened ∧ d.opening = some now
         else d.gate = .closed ∧ d.opening = c.opening
     | .opened => d.opening = c.opening ∧
         if g.closeBand ≤ band then d.gate = .hang ∧ d.hang = some 0 else d.gate = .opened
     | .hang => d.opening = c.opening ∧
         if band ≤ g.openBand then d.gate = .opened ∧ d.hang = none
         else if g.hangTime ≤ c.hang.getD 0 + 1 then d.gate = .closed ∧ d.hang = none
         else d.gate = .hang ∧ d.hang = some (c.hang.getD 0 + 1)) ∧
  ((∀ s : State, TablesWhole s → ∃ t, exec .voiceEvaluation s = .next t ∧
     (∀ c ∈ allChans, t.chan c =
       if s.chanRunning c then (s.chan c).evaluate (s.floor (s.chanFloor c)).gate s.now else s.chan c) ∧
     t.still = ({ s with chans := t.chans } : State).still) ∧
   (∀ (c : Nat) (s : State), s.chanRunning c = true → (s.chan c).gate = .hang →
     ∃ t, exec (.hangExpiry c) s = .next t ∧
       t.core = (s.modChan c (fun r => { r with gate := .closed, hang := none })).core) ∧
   ∀ (n : Nat) (s : State), (s.seat n).floorState = .speaking → (s.seat n).release.isSome →
     (s.floor (s.seatFloor n)).settings.mode = .voice → (s.chan n).gate ≠ .opened →
     ∃ t, exec (.voiceRelease n) s = .next t ∧ t.still = s.still ∧ (t.seat n).floorState = .idle ∧
       (t.seat n).accTurns = min 255 ((s.seat n).accTurns + 1) ∧ n ∉ (t.floor (s.seatFloor n)).grantOrder) ∧
  (∀ (f : Floor) (s : State),
     ((s.floor f).settings.mode ≠ .voice → gateUpdate f s = s) ∧
     ((s.floor f).settings.mode = .voice → TablesWhole s → SettingsInRange s → ListsPlaced s → SeatsStandOnce s →
       let t := gateUpdate f s
       let r := s.floor f
       let count (n : Nat) : Option Nat :=
         (s.seat n).release.map (fun x => if (s.chan n).gate = .closed then x + 1 else 0)
       let runOut (n : Nat) : Bool := r.settings.voiceRelease * 1000 ≤ (count n).getD 0
       let kept := r.grantOrder.filter (fun n => !runOut n)
       t.still = s.still ∧ (t.floor f).queue = r.queue ∧ (t.floor f).stack = r.stack ∧ (t.floor f).susp = r.susp ∧
       (∀ n ∈ kept, (t.seat n).floorState = .speaking ∧ (t.seat n).release = count n ∧
         (t.seat n).turn = (s.seat n).turn ∧ turnsOf n false s t) ∧
       (∀ n ∈ r.grantOrder, runOut n = true → (t.seat n).floorState = .idle ∧ turnsOf n true s t) ∧
       grantsVoices f kept s t)) ∧
  (∀ (f : Floor) (s : State),
     let r := s.floor f
     let t := grantPass f s
     (s.live f = false ∨ s.slotFree f = false ∨ r.settings.mode = .openMic ∨ r.settings.mode = .chairOnly ∨
       r.settings.mode = .request ∧ r.settings.autoGrant = false → t = s) ∧
     (s.live f = true → r.stack = [] → TablesWhole s → SettingsInRange s → ListsPlaced s → SeatsStandOnce s →
       t.still = s.still ∧
       (r.settings.mode = .request → r.settings.autoGrant = true →
         let free := r.settings.openMicLimit - r.grantOrder.length
         (t.floor f).grantOrder = r.grantOrder ++ r.queue.take free ∧ (t.floor f).queue = r.queue.drop free ∧
         (∀ n ∈ r.queue.take free, grantedTurn f n s t) ∧ ∀ n, n ∉ r.queue.take free → t.seat n = s.seat n) ∧
       (r.settings.mode = .voice → grantsVoices f r.grantOrder s t ∧
         ∀ n, n ∉ (t.floor f).grantOrder ∨ n ∈ r.grantOrder → t.seat n = s.seat n)))

/-- WALL_READING_CHANGE (06 R106, R107): the reading is taken and, in FOLLOW, timed from its start; mode, target and
partition stand. SETTLE_COMPLETE (R107, R109): the target is the partition that the settled reading gives, and it
becomes the partition at once unless a floor runs a meeting. A commanded completion is the event itself, however long
the reading has stood (log entry 2). -/
def Obligations.WallReadingsSetTheTarget : Prop :=
  (∀ (r : WallReading) (s : State), s.part.reading ≠ r →
    ∃ t, exec (.wallReadingChange r) s = .next t ∧ t.part.reading = r ∧
      t.part.settle = (if s.part.mode = .follow then settleFrom r else none) ∧ t.part.settled = false ∧
      t.part.mode = s.part.mode ∧ t.part.target = s.part.target ∧ t.part.partition = s.part.partition) ∧
  ∀ (v : WallReading) (k : Nat) (s : State), PartitionLaw s → s.part.mode = .follow → s.part.settled = false →
    s.part.settle = some (v, k) →
    ∃ t, exec .settleComplete s = .next t ∧
      let p : Partition := match v with
        | .closed => .split
        | _ => .combined
      t.part.settled = true ∧ t.part.settle = some (v, 10000) ∧ t.part.target = p ∧
      t.part.partition = if s.anyRuns then s.part.partition else p

/-! ## Power (11) -/

/-- SLEEP (11 R198): ALREADY, STATE; then the room is in SLEEP with the idle count at 0, each RUNNING branch is in
BEACON and each other branch as it was, and every channel stands stopped. DIM_ENTRY (R197) puts an ACTIVE room with
both floors VACANT into DIM. A commanded DIM_ENTRY is the event itself, whatever the idle count (log entry 2). -/
def Obligations.SleepAndDimRestTheRoom : Prop :=
  (∀ (h : Head) (s : State), s.readyFor h →
    ∃ t, exec (.sleep h (.fields ())) s = .next t ∧
      match s.pwr.state with
      | .sleep => turnsAway h .already s t
      | .waking => turnsAway h .state s t
      | _ =>
        if !s.bothVacant then turnsAway h .state s t
        else t.answers h .ok [] ∧ t.pwr = { s.pwr with state := .sleep, carried := none, idle := 0, idleRem := 0 } ∧
          (∀ b, (t.br b).state = if (s.br b).state = .running then .beacon else (s.br b).state) ∧
          (∀ c ∈ allChans, (t.chan c).gate = .closed ∧ (t.chan c).hang = none) ∧ t.seats = s.seats ∧
          t.floorA = s.floorA ∧ t.floorB = s.floorB) ∧
  ∀ s : State, s.pwr.state = .active → s.bothVacant = true →
    ∃ t, exec .dimEntry s = .next t ∧ t.pwr = { s.pwr with state := .dim, carried := none } ∧
      (∀ c ∈ allChans, (t.chan c).gate = .closed ∧ (t.chan c).hang = none) ∧ t.seats = s.seats ∧
      t.floorA = s.floorA ∧ t.floorB = s.floorB ∧ t.br0 = s.br0 ∧ t.br1 = s.br1

/-- WAKE (11 R199, R200): while ACTIVE it restarts the idle count; while WAKING it is answered ALREADY, and STATE
while the wake mask bars it; from DIM the room is ACTIVE at once; from SLEEP it is WAKING, with each BEACON branch
ENUMERATING, unless both branches are DOWN and the room is ACTIVE already. TRUNK_LOCK is noted once, and WAKE_TIMEOUT
makes the room ACTIVE whatever the enumerations, with no wake left; each commanded one is the event itself, whatever
the frames and the time since the wake start (log entry 2). -/
def Obligations.WakeRousesTheRoom : Prop :=
  (∀ (h : Head) (s : State), s.readyFor h →
     ∃ t, exec (.wake h (.fields ())) s = .next t ∧
       match s.pwr.state with
       | .active => accepts h (restPower s) t
       | .waking => turnsAway h .already s t
       | .dim =>
         if !s.pwr.maskConsole then turnsAway h .state s t
         else accepts h { s with pwr := { s.pwr with state := .active, idle := 0, idleRem := 0 } } t
       | .sleep =>
         if !s.pwr.maskConsole then turnsAway h .state s t
         else t.answers h .ok [] ∧
           t.pwr.state = (if (s.br .b0).state = .down ∧ (s.br .b1).state = .down then .active else .waking) ∧
           t.pwr.pendingEvent = none ∧
           ∀ b, (t.br b).state = if (s.br b).state = .beacon then .enumerating else (s.br b).state) ∧
  ((∀ s : State, s.pwr.state = .waking → s.pwr.progress = .started →
     ∃ t, exec .trunkLock s = .next t ∧
       t.core = ({ s with pwr := { s.pwr with progress := .trunkLock } } : State).core) ∧
   ∀ s : State, s.pwr.state = .waking →
     ∃ t, exec .wakeTimeout s = .next t ∧ t.pwr.state = .active ∧ t.pwr.progress = .none ∧ t.pwr.start = none ∧
       t.pwr.pendingEvent = none)

/-- A key PRESS outside ACTIVE (11 R199, R201), unless masked: from SLEEP it begins the wake with the press pending
and carried, in WAKING it becomes the pending event if there is none, and any other key event changes the detector
alone. A CARD_IN that reaches the power manager does the same. -/
def Obligations.KeysAndCardsWakeTheRoom : Prop :=
  (∀ (n : Nat) (k : Key) (e : KeyEvent) (s : State), s.givesKeys n = true → s.pwr.state ≠ .active →
    ∃ t, exec (.keyToPower n k e) s = .next t ∧
      let u := s.modDets n (SeatDets.mod k (Detector.after e))
      if e ≠ .press ∨ s.pwr.maskKey = false then t.core = u.core
      else match s.pwr.state with
        | .active => False
        | .dim => t.pwr.state = .active
        | .sleep => ((s.br .b0).state ≠ .down ∨ (s.br .b1).state ≠ .down) →
            t.pwr.state = .waking ∧ t.pwr.pendingEvent = some (.key n k) ∧ t.pwr.carried = some (n, k) ∧
            t.pwr.start = some s.now
        | .waking =>
          if s.pwr.pendingEvent = none then
            t.core = ({ u with pwr := { u.pwr with pendingEvent := some (.key n k), carried := some (n, k) } } :
              State).core
          else t.core = u.core) ∧
  (∀ (b : Branch) (p : Nat) (c : CardId) (n : Nat) (s : State), s.pwr.state ≠ .active →
    (s.br b).state.carriesLane = true → s.seatAt? ⟨b, p⟩ = some n →
    ∃ t, exec (.cardToPower b p c) s = .next t ∧
      if s.pwr.maskCard = false then t.core = s.core
      else match s.pwr.state with
        | .active => False
        | .dim => t.pwr.state = .active
        | .sleep => t.pwr.state = .waking ∧ t.pwr.pendingEvent = some (.card n c) ∧ t.pwr.start = some s.now
        | .waking =>
          if s.pwr.pendingEvent = none then
            t.core = ({ s with pwr := { s.pwr with pendingEvent := some (.card n c) } } : State).core
          else t.core = s.core)

/-! ## The trunk (09, 12 R206) -/

/-- What an up-slot does to its entry (09 R167, R168, R170; 12 R206): a good slot moves the runs, gives status,
waiting and fault flags, and, in RUNNING, the sample; a bad one counts in the window and the runs, and the bad-sample
hold gives the last good sample for 16 frames and then 0. NODE_LINK_LOST, NODE_LINK_RECOVERED and LINK_WINDOW_END
(R167 to R169, R171): a lost entry is LOST, counts as an error, and the seat bound there is released (02 R43) and has
its detectors, its card count and its test ended; a recovered entry is OK with its runs at 0; at the end of a window
that was spent whole 32 bad slots make an entry DEGRADED and 4 or fewer make it OK again, and every window begins at
0. No other entry changes. The commanded steps are the events themselves, whatever the runs and the window's age (log
entry 2). -/
def Obligations.UpSlotsAndLinksAreJudged : Prop :=
  (∀ (running : Bool) (f : UpFrame) (e : NodeEntry),
     let slot := slotAt f e.position
     let x := e.takeSlot running f
     x.position = e.position ∧ x.kind = e.kind ∧ x.serial = e.serial ∧ x.link = e.link ∧
     (slotGood running slot = true →
       x.window = e.window ∧ (e.link ≠ .lost → x.badRun = 0 ∧ x.goodRun = e.goodRun) ∧
       (e.link = .lost → x.goodRun = min 1600 (e.goodRun + 1) ∧ x.badRun = e.badRun) ∧
       ∀ y, slot = some y →
         x.status = some (y.status, y.wall) ∧ x.waiting = y.status.getLsbD 4 ∧ x.fault = y.status.getLsbD 2 ∧
         (running = true → x.current = y.sampleHigh ++ y.sampleLow ∧ x.held = x.current ∧ x.badSamples = 0)) ∧
     (slotGood running slot = false →
       x.window = min (e.window + 1) 65535 ∧ x.goodRun = 0 ∧
       (e.link ≠ .lost → x.badRun = min 1600 (e.badRun + 1)) ∧
       x.status = e.status ∧ x.waiting = e.waiting ∧ x.fault = e.fault ∧
       (running = true → x.badSamples = min 17 (e.badSamples + 1) ∧ x.held = e.held ∧
         x.current = if e.badSamples < 16 then e.held else 0)) ∧
     (running = false → x.current = e.current ∧ x.held = e.held ∧ x.badSamples = e.badSamples)) ∧
  ((∀ (b : Branch) (p : Nat) (s : State) (e : NodeEntry), (s.br b).state.carriesLane = true →
     s.entry? ⟨b, p⟩ = some e → e.link ≠ .lost →
     ∃ t, exec (.nodeLinkLost b p) s = .next t ∧
       (t.entry? ⟨b, p⟩).map (fun x => (x.kind, x.serial, x.link)) = some (e.kind, e.serial, .lost) ∧
       (∀ d : Binding, d ≠ ⟨b, p⟩ → t.entry? d = s.entry? d) ∧
       (t.br b).counter = (s.br b).counter.count .lostEntry 1 ∧
       (∀ n, s.seatAt? ⟨b, p⟩ = some n →
         (t.seat n).cardClear = 0 ∧ t.detectors n = Reset.dets ∧ t.underTest n = false ∧
         (TablesWhole s → ListsPlaced s → s.standsOnce n → releasedFrom s n t)) ∧
       (∀ n, (t.seat n).binding = (s.seat n).binding ∧ (t.seat n).role = (s.seat n).role ∧
         (t.seat n).presence = (s.seat n).presence) ∧
       ((s.lane b).turn = .free → (t.lane b).turn = .free)) ∧
   (∀ (b : Branch) (p : Nat) (s : State), (s.br b).state.carriesLane = true →
     (s.entry? ⟨b, p⟩).map (·.link) = some .lost →
     ∃ t, exec (.nodeLinkRecovered b p) s = .next t ∧
       t.core = (s.modEntry ⟨b, p⟩ (fun e => { e with link := .ok, badRun := 0, goodRun := 0 })).core) ∧
   (∀ s : State, NodeTablesInOrder s →
     let window (running : Bool) (e : NodeEntry) : NodeEntry :=
       { e with link := e.judged, window := 0, whole := running && e.judged != .lost }
     ∃ t, exec .linkWindowEnd s = .next t ∧
       t.core = ({ s with
         windowDue := false
         br0 := { s.br0 with table := s.br0.table.map (window (s.br0.state == .running)) }
         br1 := { s.br1 with table := s.br1.table.map (window (s.br1.state == .running)) } } : State).core) ∧
   ∀ e : NodeEntry, e.judged =
     if e.whole = false ∨ e.link = .lost then e.link
     else if e.link = .ok then (if 32 ≤ e.window then .degraded else .ok)
     else if e.window ≤ 4 then .ok else .degraded)

/-- UP_FRAME (09 R161, R163, R167; 12 R206). A frame without its marker is not received, and consecutive counts begin
again (that the wake's does too is the model's, log entry 36). In DOWN a frame before the 16th is counted, for the
wake also, and the 16th does what BRANCH_UP does (BranchesComeUpAndGoDown); in ENUMERATING a frame only counts for the
wake. In RUNNING and BEACON each entry takes its slot, an entry whose run has reached its limit changes its link, and
the bad slots are counted; a frame that brings no lane element, meets no turn and moves no link changes nothing else
than what the voice detector, the calendar and the path test's checker take. An element that completes no message goes
to the lane (TurnsAreOfferedInRotation says what it does there); one that completes a message does, once the slots of
its frame are taken, what LANE_MESSAGE_COMPLETE does (CompletedMessagesAreJudged). The branch state, the positions and the links stand so unless the frame's element completes, in SLEEP with cards unmasked,
a CARD_IN: from a bound seat it begins the wake (11 R199, R200), and the BEACON branch is ENUMERATING with an empty
table. That the kind octet of a frame is not read is the model's (log entry 53). -/
def Obligations.UpFramesAreTaken : Prop :=
  ∀ (b : Branch) (f : UpFrame) (s : State),
    let octets := (s.lane b).receiving ++ [f.element]
    let completes : Prop := (∃ p g, (s.lane b).turn = .receiving p g) ∧ f.flags.getLsbD 6 = true ∧
      f.flags.getLsbD 5 = false ∧ messageDone octets = true
    let wakes : Prop := s.pwr.state = .sleep ∧ s.pwr.maskCard = true ∧ completes ∧ octets.getD 2 0 = 0x01
    (f.marker ≠ 0x7E → exec (.upFrame b f) s = .next (s.modBr b (fun r =>
      { r with upCount := 0, fullCount := if r.fullCount < 16 then 0 else r.fullCount }))) ∧
    (f.marker = 0x7E → (s.br b).state = .down → (s.br b).upCount < 15 →
      ∃ t, exec (.upFrame b f) s = .next t ∧
        t.core = (s.modBr b (fun r =>
          { r with frameSeen := true, upCount := r.upCount + 1, fullCount := min 16 (r.fullCount + 1) })).core) ∧
    (f.marker = 0x7E → (s.br b).state = .down → 15 ≤ (s.br b).upCount →
      exec (.upFrame b f) s = exec (.branchUp b) (s.modBr b (fun r =>
        { r with frameSeen := true, upCount := r.upCount + 1, fullCount := min 16 (r.fullCount + 1) }))) ∧
    (f.marker = 0x7E → (s.br b).state = .enumerating →
      ∃ t, exec (.upFrame b f) s = .next t ∧
        t.core = (s.modBr b (fun r => { r with frameSeen := true, fullCount := min 16 (r.fullCount + 1) })).core) ∧
    (∀ (c : CardId) (n p g : Nat), f.marker = 0x7E → (s.br b).state = .beacon → wakes →
      (s.lane b).turn = .receiving p g → Fmt.crc16 octets = 0 → octets.getD 1 0 = (⟨b, p⟩ : Binding).octet →
      s.taken (octets.headD 0) = true → cardOf (payloadOf octets) = some c → s.isSeatNode ⟨b, p⟩ = true →
      s.seatAt? ⟨b, p⟩ = some n → (∀ e ∈ (s.br b).table, (e.takeSlot false f).reaches false = false) →
      ∃ t, exec (.upFrame b f) s = .next t ∧ t.pwr.state = .waking ∧ t.pwr.pendingEvent = some (.card n c) ∧
        t.pwr.start = some s.now ∧ (t.br b).state = .enumerating ∧ (t.br b).table = [] ∧ (t.lane b).places = []) ∧
    (f.marker = 0x7E → (s.br b).state.carriesLane = true →
      let running : Bool := (s.br b).state == .running
      let v := takeStations b running f (s.modBr b (fun r =>
        { r with frameSeen := true, fullCount := if running then min 16 (r.fullCount + 1) else r.fullCount }))
      ((∀ e ∈ (s.br b).table, (e.takeSlot running f).reaches running = false) → v.lane b = s.lane b) ∧
      ∀ p g, (v.lane b).turn = .receiving p g → f.flags.getLsbD 6 = true → f.flags.getLsbD 5 = false →
        let whole := (v.lane b).receiving ++ [f.element]
        messageDone whole = true → exec (.upFrame b f) s = exec (.laneMessageComplete b p whole) v) ∧
    (f.marker = 0x7E → (s.br b).state.carriesLane = true → NodeTablesInOrder s → ¬ wakes →
      let running : Bool := (s.br b).state == .running
      ∃ t, exec (.upFrame b f) s = .next t ∧
        (t.br b).state = (s.br b).state ∧ (t.br b).frameSeen = true ∧
        (t.br b).table.map (·.position) = (s.br b).table.map (·.position) ∧
        (∀ e ∈ (s.br b).table, let x := e.takeSlot running f
          ∃ y, t.entry? ⟨b, e.position⟩ = some y ∧ y.kind = e.kind ∧ y.serial = e.serial ∧ y.current = x.current ∧
            y.link = if x.reaches running then (if e.link = .lost then .ok else .lost) else e.link) ∧
        ((∀ e ∈ (s.br b).table, (e.takeSlot running f).reaches running = false) → ¬ completes →
          let l := (takeElement b (if f.flags.getLsbD 6 then some (f.element, f.flags.getLsbD 5) else none) s).lane b
          t.lane b = { l with out := (t.lane b).out }) ∧
        ((f.flags.getLsbD 6 = false → (s.lane b).turn = .free →
          (∀ e ∈ (s.br b).table, (e.takeSlot running f).reaches running = false) →
          t.br b = { s.br b with
            frameSeen := true
            fullCount := if running then min 16 ((s.br b).fullCount + 1) else (s.br b).fullCount
            counter := (s.br b).counter.count .slotCheck (slotErrors running f (s.br b).table)
            table := (s.br b).table.map (NodeEntry.takeSlot running f) } ∧
          t.test = s.test.map (fun x =>
            if running = true ∧ x.branch = b then x.check ((goodSlot true (slotAt f x.position)).map slotSample) else x) ∧
          t.lane b = { s.lane b with out := (t.lane b).out } ∧ t.floorA = s.floorA ∧ t.floorB = s.floorB ∧
          t.pwr = s.pwr ∧
          (∀ n, { t.seat n with cardFlag := (s.seat n).cardFlag } = s.seat n) ∧
          (TablesWhole s → ∀ e ∈ (s.br b).table, ∀ c, s.outputAt ⟨b, e.position⟩ = some c →
            (t.chan c).msPeak = (if running && s.chanRunning c then
              max (s.chan c).msPeak (magnitude (e.takeSlot running f).current) else (s.chan c).msPeak) ∧
            (c ≤ 48 → (t.seat c).cardFlag = match goodSlot running (slotAt f e.position) with
              | some y => y.status.getLsbD 3
              | none => (s.seat c).cardFlag)))))

/-- DOWN_FRAME (05 R83, R84, R97, R103; 09 R162, R164, R173 to R175; 12 R206): every frame of a branch, in each branch
state, makes the branch's computation, which takes the contributor sets and open counts and counts the clamped outputs
bound there; it sends an EMPTY frame in DOWN, a ROLL in ENUMERATING, a BEACON frame without slots in BEACON, and in
RUNNING the 24 down-slots with the mix outputs, lamps (02 R26) and checks, the one that TEST_INSERT names with a
failing check, and the insertion is answered OK. The octets of a down-frame: the marker, the kind, the lane flags (bit
7 hold, bit 6 element present, bit 5 start), the element, the lane-turn position or, in a ROLL frame, the roll octet
(bit 7 the restart mark, bits 4 to 0 the position), then each down-slot: the sample, the control octet (bits 7 to 5
the lamp, bit 4 speaker enable, bit 3 loop) and the check. That an EMPTY frame's lane octets are clear is the model's
(log entry 53). -/
def Obligations.DownFramesCarryTheSlots : Prop :=
  (∀ (b : Branch) (s : State),
     (∃ t, exec (.downFrame b) s = .next t ∧ t.latestA = (s.contributors .A, s.openCount .A) ∧
       t.latestB = (s.contributors .B, s.openCount .B) ∧
       (TablesWhole s → ∀ c ∈ allChans, t.satur.getD (c - 1) 0 =
         if c ∈ s.outputsOf b ∧ s.outputRuns c = true ∧ clips (s.mixValue c) = true
         then min (s.satur.getD (c - 1) 0 + 1) 65535 else s.satur.getD (c - 1) 0)) ∧
     ((s.br b).state = .down → ∃ t, exec (.downFrame b) s = .next t ∧
       t = { s.modBr b (fun r => { r with lastDown := some ⟨.empty, false, none, 0, none, []⟩ }) with
         latestA := t.latestA, latestB := t.latestB, satur := t.satur }) ∧
     ((s.br b).state = .enumerating → ∃ t, exec (.downFrame b) s = .next t ∧
       t = { s.modBr b (fun r =>
           { r with lastDown := some ⟨.roll, false, none, 0, r.roll.map (fun x => (x.restart, x.position)), []⟩,
                    roll := r.roll.map (fun x => { x with restart := false }) }) with
         latestA := t.latestA, latestB := t.latestB, satur := t.satur }) ∧
     ((s.br b).state = .beacon → ∃ t d, exec (.downFrame b) s = .next t ∧ (t.br b).lastDown = some d ∧
       d.kind = .beacon ∧ d.slots = [] ∧ d.roll = none ∧ d.element = (s.lane b).nextElement ∧
       d.hold = decide (4 ≤ (s.lane b).places.length) ∧ d.turn = ((offerTurn b s).lane b).turn.octet) ∧
     ((s.br b).state = .running → TablesWhole s → ∃ t d, exec (.downFrame b) s = .next t ∧
       (t.br b).lastDown = some d ∧ d.kind = .running ∧ d.roll = none ∧ d.element = (s.lane b).nextElement ∧
       d.hold = decide (4 ≤ (s.lane b).places.length) ∧ d.turn = ((offerTurn b s).lane b).turn.octet ∧
       d.slots.length = 24 ∧
       (∀ p x, 1 ≤ p → d.slots[p - 1]? = some x →
         (x.check = Fmt.crc8 (Fmt.sample x.sample ++ [controlOctet x.lamp x.enable x.loop]) ↔
           (s.br b).insertion.map (·.1) ≠ some p) ∧
         match s.outputAt ⟨b, p⟩ with
         | none => x.sample = 0 ∧ x.lamp = .off ∧ x.enable = false ∧ x.loop = false
         | some c => x.lamp = (if c ≤ 48 then s.lamp c else .off) ∧
           match s.test.filter (·.seat = c) with
           | some y => x.sample = (next16 y.gen).2 ∧ x.enable = false ∧ x.loop = true
           | none => x.sample = (s.output c).1 ∧ x.enable = (s.output c).2 ∧ x.loop = false) ∧
       (t.br b).insertion = none ∧
       (∀ p h, (s.br b).insertion = some (p, h) → t.answers h .ok [] ∧ t.cru.phase = .idle) ∧
       t.test = s.test.map (fun y => if y.branch = b then { y with gen := (next16 y.gen).1 } else y) ∧
       t.seats = s.seats ∧ t.chans = s.chans ∧ t.floorA = s.floorA ∧ t.floorB = s.floorB ∧ t.pwr = s.pwr ∧
       (t.br b).table = (s.br b).table)) ∧
  ((∀ d : DownFrame, ∃ flags fourth : Octet,
     d.octets = [0x7E, (match d.kind with
       | .empty => 0
       | .running => 1
       | .roll => 2
       | .beacon => 3), flags, (d.element.map (·.1)).getD 0, fourth] ++ d.slots.flatMap DownSlot.octets ∧
     flags.getLsbD 7 = d.hold ∧ flags.getLsbD 6 = d.element.isSome ∧ flags.getLsbD 5 = (d.element.map (·.2)).getD false ∧
     (∀ k < 5, flags.getLsbD k = false) ∧
     match d.roll with
     | none => d.turn < 256 → fourth.toNat = d.turn
     | some (restart, p) => p ≤ 25 → fourth.getLsbD 7 = restart ∧ fourth.toNat % 128 = p) ∧
   ∀ x : DownSlot, ∃ high low control : Octet,
     x.octets = [high, low, control, x.check] ∧ high ++ low = x.sample ∧ control.toNat / 32 = x.lamp.ctorIdx ∧
     control.getLsbD 4 = x.enable ∧ control.getLsbD 3 = x.loop ∧ control.toNat % 8 = 0)

/-- BRANCH_UP (09 R161, R164): a DOWN branch has an empty node table, what was bound on it is UNBOUND and no other
binding changes, and it is ENUMERATING from position 1 with the restart mark, or in BEACON during SLEEP. BRANCH_DOWN
(R161, R169; 10 R182, R188): a branch that is not DOWN is DOWN, every entry of its table is LOST, and its lane's turn
and inbound places are free. Each seat that loses its binding or its link so is IDLE and off its floor's lists (02
R43; how a turn is accounted that a seat of the same branch gets meanwhile is log entry 49). A commanded rise or fall
is the event itself, whatever the frames counted (log entry 2). -/
def Obligations.BranchesComeUpAndGoDown : Prop :=
  ∀ (b : Branch) (s : State),
    ((s.br b).state = .down → ∃ t, exec (.branchUp b) s = .next t ∧
      (t.br b).state = (if s.pwr.state = .sleep then .beacon else .enumerating) ∧ (t.br b).table = [] ∧
      (t.br b).roll = (if s.pwr.state = .sleep then none else some ⟨1, true, 0, 0, []⟩) ∧
      let left (d : Option Binding) : Option Binding := if d.map (·.branch) = some b then none else d
      (∀ n ∈ allSeats, (t.seat n).binding = left (s.seat n).binding) ∧
      (∀ l, (t.line l).binding = left (s.line l).binding) ∧
      (∀ k ∈ List.range' 1 8, (t.screen k).binding = left (s.screen k).binding) ∧
      (∀ k ∈ List.range' 1 4, (t.camera k).binding = left (s.camera k).binding) ∧
      (TablesWhole s → ListsPlaced s → SeatsStandOnce s →
        ∀ n ∈ allSeats, (s.seat n).binding.map (·.branch) = some b → t.released n)) ∧
    ((s.br b).state ≠ .down → exec (.branchUp b) s = .next s) ∧
    ((s.br b).state = .down → exec (.branchDown b) s = .next s) ∧
    ((s.br b).state ≠ .down → ∃ t, exec (.branchDown b) s = .next t ∧
      (t.br b).state = .down ∧ (t.br b).roll = none ∧
      (t.br b).table.map (fun e => (e.position, e.kind, e.serial)) =
        (s.br b).table.map (fun e => (e.position, e.kind, e.serial)) ∧
      (∀ e ∈ (t.br b).table, e.link = .lost) ∧ (t.lane b).turn = .free ∧ (t.lane b).places = [] ∧
      (TablesWhole s → ListsPlaced s → SeatsStandOnce s →
        ∀ e ∈ (s.br b).table, e.link ≠ .lost → ∀ n, s.seatAt? ⟨b, e.position⟩ = some n → t.released n))

/-- ROLL_REPLY and ROLL_SILENCE (09 R164 to R166): a good reply adds an entry with link OK at the position being given
to those found, and its end-of-chain flag ends the enumeration, whose table is what has been found; a damaged one is
awaited again, and the fourth ends the enumeration with what has been found; so does a reply at position 25, and so
does silence. That a damaged reply at position 25 ends the enumeration too is log entry 25, and how the ends bind is
log entry 34: the seats that the ending branch's table holds bind through the tables with branch 0 first, and lines,
screens and cameras through both. A commanded silence is the event itself, whatever its count (log entry 2). -/
def Obligations.EnumerationTakesReplies : Prop :=
  ∀ (b : Branch) (s : State), (s.br b).state = .enumerating →
    (∀ (r : RollReply) (roll : Roll), (s.br b).roll = some roll →
      let found := roll.found ++ [newEntry roll.position r]
      ∃ t, exec (.rollReply b r) s = .next t ∧
        if 25 ≤ roll.position then enumerates b roll.found s t
        else if r.check = Fmt.crc8 (r.kind :: Fmt.serial r.serial) then
          if r.kind.getLsbD 7 then enumerates b found s t
          else t.core = (s.modBr b (fun x =>
            { x with roll := some ⟨roll.position + 1, roll.restart, 0, 0, found⟩ })).core
        else if 3 ≤ roll.damaged then enumerates b roll.found s t
        else t.core = (s.modBr b (fun x =>
          { x with roll := some { roll with damaged := roll.damaged + 1, wait := 0 } })).core) ∧
    (∀ (p : Nat) (r : RollReply), let e := newEntry p r
      e.position = p ∧ e.kind = nodeKindOfCode (r.kind.toNat % 8) ∧ e.serial = r.serial ∧ e.link = .ok ∧
      e.badRun = 0 ∧ e.goodRun = 0 ∧ e.window = 0 ∧ e.current = 0 ∧ e.held = 0) ∧
    (∃ t, exec (.rollSilence b) s = .next t ∧ enumerates b (s.br b).found s t)

/-! ## Lanes and queues (10) -/

/-- LANE_MESSAGE_COMPLETE (10 R180, R184, R185): a message that can be taken ends the reception at its position; a bad
CRC and a source that is not its position are counted and discard it; a message for the hub that is no card message is
kept for the console request unit; one that is not for the hub is relayed at once, kept waiting, or dropped and
counted. A message that finds no place changes nothing. A message for a node whose branch's lane is stopped waits in
that branch's queue (log entry 27). That a message which finds no place changes nothing, and that a commanded one may
come from a position that does not hold the turn, are the model's (log entry 2). Card messages that the hub takes are
left out here by hypothesis: CARD_IN and CARD_OUT have statements of their own. -/
def Obligations.CompletedMessagesAreJudged : Prop :=
  ∀ (b : Branch) (p : Nat) (octets : List Octet) (s : State), (s.br b).state.carriesLane = true →
    let l := s.lane b
    let here : Bool := match l.turn with
      | .free => true
      | .offered q _ => q == p
      | .receiving q _ => q == p
    let fits : Bool := l.placeFree || (here && match l.turn with
      | .receiving _ _ => true
      | _ => false)
    let u := if here then s.modLane b (fun l =>
        { l with turn := .free, last := p, places := l.places.filter (fun x => x.use != .receiving) }) else s
    let d : Binding := ⟨b, p⟩
    let dest := octets.headD 0
    let kind := octets.getD 2 0
    let request := requestOf b (octets.getD 1 0) kind (payloadOf octets)
    ∃ t, exec (.laneMessageComplete b p octets) s = .next t ∧
      if !fits then t.core = s.core
      else if Fmt.crc16 octets ≠ 0 then
        t.core = ((u.modBr b (fun r => { r with counter := r.counter.count .laneCrc 1 })).modLane b (fun l =>
          { l with counts := { l.counts with crc := min (l.counts.crc + 1) 65535 } })).core
      else if octets.getD 1 0 ≠ d.octet then
        t.core = (u.modLane b (fun l =>
          { l with counts := { l.counts with source := min (l.counts.source + 1) 65535 } })).core
      else if u.taken dest = true ∧ dest.toNat < 0x80 then
        (kind ≠ 0x01 → kind ≠ 0x02 → t.core = (keepPlace d octets (.request request) u).core)
      else if u.taken dest = true then
        (kind ≠ 0x01 → kind ≠ 0x02 → t.core = (relay d octets (some request) u).core)
      else match u.relayBranch b dest with
        | none => t.core = (u.modLane b (fun l =>
            { l with counts := { l.counts with relayDrop := min (l.counts.relayDrop + 1) 65535 } })).core
        | some c =>
          if u.atOnce c then t.core = u.core ∧ .relayed octets ∈ (t.lane c).out
          else t.core = (keepPlace d octets (.relay c) u).core

/-- TURN_OFFER, TURN_OFFER_LAPSE and RECEPTION_GAP_TIMEOUT (10 R181, R182): with the turn FREE and no lane hold the
turn is offered to the first waiting node after the one served last, wrapping round; a lapse frees the turn; a gap
frees it, discards the reception with its place and counts a framing error. Nothing else changes. The commanded lapse
and timeout are the events themselves, whatever their counts (log entry 2). The lane part of an up-frame (R181 to
R183), as `takeElement` takes it: none, an element, or an element with the start flag. A start element from the
position that holds the offer begins a reception in an inbound place; without one the offer waits, and lapses at the
8th frame. A start element while the turn is FREE counts a hold violation under the lane hold and a framing error
without it. During a reception an element joins the message, a gap is counted and the 5th frame of one discards the
reception, and so does a start element or the 66th element of a message whose length octet is above 60; a discard
frees the place and the turn. That a start element during a reception is counted as the framing error of the discard
alone, and one that meets an offer with no free place as a hold violation, are the model's (log entry 60). -/
def Obligations.TurnsAreOfferedInRotation : Prop :=
  (∀ (b : Branch) (s : State),
     (NodeTablesInOrder s → (s.br b).state.carriesLane = true → (s.lane b).turn = .free →
       (s.lane b).places.length < 4 →
       let asks (p : Nat) : Prop := ∃ e ∈ (s.br b).table, e.position = p ∧ e.link ≠ .lost ∧ e.waiting = true
       let last := (s.lane b).last
       ((∀ p, ¬ asks p) → exec (.turnOffer b) s = .next s) ∧
       ((∃ p, asks p) → ∃ p, asks p ∧
         exec (.turnOffer b) s = .next (s.modLane b (fun l => { l with turn := .offered p 0 })) ∧
         ∀ q, asks q → if last < p then q ≤ last ∨ p ≤ q else q ≤ last ∧ p ≤ q)) ∧
     ((s.br b).state.carriesLane = false ∨ (s.lane b).turn ≠ .free ∨ 4 ≤ (s.lane b).places.length →
       exec (.turnOffer b) s = .next s) ∧
     (∀ p w, (s.lane b).turn = .offered p w →
       exec (.turnOfferLapse b) s = .next (s.modLane b (fun l => { l with turn := .free, last := p }))) ∧
     (∀ p g, (s.lane b).turn = .receiving p g →
       exec (.receptionGapTimeout b) s = .next (s.modLane b (fun l =>
         { l with turn := .free, last := p, places := l.places.filter (fun x => x.use != .receiving),
                  counts := { l.counts with framing := min (l.counts.framing + 1) 65535 } })))) ∧
  (∀ (b : Branch) (s : State),
     let l := s.lane b
     let becomes (e : Option (Octet × Bool)) (x : Lane) : Prop := takeElement b e s = s.modLane b (fun _ => x)
     let framed : LaneCounts := { l.counts with framing := min (l.counts.framing + 1) 65535 }
     let violated : LaneCounts := { l.counts with holdViolation := min (l.counts.holdViolation + 1) 65535 }
     let discarded (p : Nat) : Lane := { l with
       turn := .free, last := p, places := l.places.filter (fun x => x.use != .receiving), counts := framed }
     (l.turn = .free →
       (∀ o, becomes (some (o, true)) { l with counts := if 4 ≤ l.places.length then violated else framed }) ∧
       (∀ o, takeElement b (some (o, false)) s = s) ∧ takeElement b none s = s) ∧
     (∀ p w, l.turn = .offered p w →
       (∀ o, l.places.length < 4 →
         becomes (some (o, true)) { l with turn := .receiving p 0, places := l.places ++ [⟨[o], p, .receiving, 0⟩] }) ∧
       (∀ o, 4 ≤ l.places.length → becomes (some (o, true)) { l with counts := violated }) ∧
       (∀ e, (∀ o, e ≠ some (o, true)) →
         becomes e (if w < 7 then { l with turn := .offered p (w + 1) } else { l with turn := .free, last := p }))) ∧
     (∀ p g, l.turn = .receiving p g →
       becomes none (if g < 4 then { l with turn := .receiving p (g + 1) } else discarded p) ∧
       (∀ o, becomes (some (o, true)) (discarded p)) ∧
       (∀ o,
         let octets := l.receiving ++ [o]
         let length := (octets.getD 3 0).toNat
         (octets.length < 4 ∨ length ≤ 60 ∧ octets.length ≠ length + 6 ∨ 60 < length ∧ octets.length < 66 →
           becomes (some (o, false)) { l with turn := .receiving p 0, places := l.places.map (fun x =>
             if x.use == .receiving then { x with octets := x.octets ++ [o] } else x) }) ∧
         (60 < length → 66 ≤ octets.length → becomes (some (o, false)) (discarded p)) ∧
         (4 ≤ octets.length → length ≤ 60 → octets.length = length + 6 →
           takeElement b (some (o, false)) s = completeReception ⟨b, p⟩ octets s))))

/-- The outbound queue (10 R185, R187 to R189, R193; 08 R151). OUTBOUND_MESSAGE_SENT takes the head out, makes the
warm reset due when it was the answer to RESET, and offers the place to the source whose turn it is. ANSWER_PLACED,
RELAY_PLACED, REPORT_PLACED and DIRECTIVE_HANDED_ON put the waiting message at the tail of a queue with room, and
nothing of it waits any more. The rotation: a freed place goes to the first waiting source, counted from the source
served last in the cycle answer, relay, directive, report. The waiting directives: a newer one of the same kind and
target keeps its predecessor's place; a screen's POWER stands just before its SHOW; any other joins the tail. Reports
(R189, R190): one is made while its kind is enabled (HELLO always is) and a report address is known, and a GATE, NODE
or CARD report must pass its edge select too; one that is delivered goes to the tail of the outbound queue of a valid
address while a place is free and no source waits, with the lost count, which returns to 0; else it joins the report
queue, which at 32 discards its oldest and counts it as lost. HELLO is made once, when a DEFAULT address becomes
known. That the reports of a command are delivered at its end, in the order made, is log entry 12; that a message
placed at once does not move the rotation is log entry 11. -/
def Obligations.OutboundQueuesAreServed : Prop :=
  (∀ (b : Branch) (s : State),
     (∀ m rest, (s.lane b).out = m :: rest → (s.lane b).out.length ≤ 16 →
       let v := s.modLane b (fun l => { l with out := rest, sent := 0 })
       let u := if m.isReset then { v with cru := { v.cru with phase := .resetDue } } else v
       ∃ t, exec (.outboundMessageSent b) s = .next t ∧
         match u.nextSource b with
         | none => t = u
         | some src => (∃ m', (t.lane b).out = rest ++ [m']) ∧ (t.lane b).rotation = src ∧ (t.lane b).sent = 0 ∧
           t.cru.phase = u.cru.phase ∧ t.seats = s.seats ∧ t.floorA = s.floorA ∧ t.floorB = s.floorB) ∧
     ((s.lane b).out = [] → exec (.outboundMessageSent b) s = .next s) ∧
     ((s.lane b).out.length < 16 →
       (∀ m, s.cru.waiting = some (b, m) → exec .answerPlaced s = .next
         (({ s with cru := { s.cru with waiting := none } } : State).modLane b (fun l =>
           { l with out := l.out ++ [m], rotation := .answer }))) ∧
       (s.relaysFor b ≠ [] → ∃ x ∈ s.relaysFor b, (∀ y ∈ s.relaysFor b, x.stamp ≤ y.stamp) ∧
         ∃ t, exec (.relayPlaced b) s = .next t ∧ (t.lane b).out = (s.lane b).out ++ [.relayed x.octets] ∧
           (t.lane b).rotation = .relay ∧
           ∀ c, (t.lane c).places =
             (s.lane c).places.filterMap (fun y => if y.stamp = x.stamp then y.relayed else some y)) ∧
       (∀ d r rs, s.cru.address = some d → d.branch = b → s.addressValid = true → s.cru.reports = r :: rs →
         exec .reportPlaced s = .next (({ s with cru := { s.cru with reports := rs, lost := 0 } } : State).modLane b
           (fun l => { l with out := l.out ++ [reportMessage d s.cru.lost r], rotation := .report }))) ∧
       ((∃ d ∈ s.sd.waiting, s.targetBranch d.target = some b) → b = .b0 ∨ s.canPlace .b0 .directive = false →
         ∃ d ∈ s.sd.waiting, ∃ node, s.targetNode d.target = some node ∧ node.branch = b ∧
           ∃ t, exec .directiveHandedOn s = .next t ∧
             (t.lane b).out = (s.lane b).out ++ [directiveMessage node d] ∧ (t.lane b).rotation = .directive ∧
             t.sd.waiting = s.sd.waiting.filter (fun x => x.target != d.target)))) ∧
  ((∀ (b : Branch) (s : State),
     let after (x : Source) : Nat := (x.ctorIdx + 3 - (s.lane b).rotation.ctorIdx) % 4
     ((∀ x, s.waitsFor b x = false) → s.nextSource b = none) ∧
     ((∃ x, s.waitsFor b x = true) → ∃ src, s.nextSource b = some src ∧ s.waitsFor b src = true ∧
       ∀ x, s.waitsFor b x = true → after src ≤ after x)) ∧
   (∀ (d : Directive) (w : List Directive), (∃ x ∈ w, x.target = d.target) →
     joinWaiting d w = w.map (fun x => if x.target = d.target then d else x)) ∧
   (∀ (d : Directive) (w : List Directive), (∀ x ∈ w, x.target ≠ d.target) →
     (∀ k, d.target = .screenPower k → ∀ x ∈ w, x.target ≠ .screenShow k) →
     (∀ k, d.target = .screenShow k → ∀ x ∈ w, x.target ≠ .screenPower k) → joinWaiting d w = w ++ [d]) ∧
   (∀ (k : Nat) (d x : Directive) (w v : List Directive), d.target = .screenPower k → x.target = .screenShow k →
     (∀ y ∈ w ++ v, y.target ≠ .screenPower k ∧ y.target ≠ .screenShow k) →
     joinWaiting d (w ++ x :: v) = w ++ d :: x :: v) ∧
   ∀ (k : Nat) (d x : Directive) (w v : List Directive), d.target = .screenShow k → x.target = .screenPower k →
     (∀ y ∈ w ++ v, y.target ≠ .screenPower k ∧ y.target ≠ .screenShow k) →
     joinWaiting d (w ++ x :: v) = w ++ x :: d :: v) ∧
  ((∀ (k : ReportKind) (body : List Octet) (s : State),
     report k body s = if s.cru.address ≠ none ∧ (k = .hello ∨ s.cru.enables.getD k.ctorIdx false = true) then
       { s with cru := { s.cru with made := s.cru.made ++ [⟨k, s.now % 4294967296, body⟩] } } else s) ∧
   (∀ (c : Nat) (cause : GateCause) (s : State), s.cru.gateAll = false → (s.chan c).gate ≠ .opened →
     gateReport c cause s = s) ∧
   (∀ (d : Binding) (e : NodeEntry) (new : Link) (s : State), s.cru.linkAll = false → new ≠ .lost →
     nodeReport d e new s = s) ∧
   (∀ (n : Nat) (card : CardId) (o : CardOutcome) (right : Option Nat) (c : CardCause) (s : State),
     s.cru.cardEvery = false → cardReport n card o right c false s = s) ∧
   (∀ (r : Report) (c : Cru), c.push r =
     if c.reports.length < 32 then { c with reports := c.reports ++ [r] }
     else { c with reports := c.reports.tail ++ [r], lost := min (c.lost + 1) 65535 }) ∧
   (∀ (r : Report) (s : State),
     let atOnce (d : Binding) : Prop := s.cru.address = some d ∧ s.addressValid = true ∧
       (s.lane d.branch).out.length < 16 ∧ ∀ x, s.waitsFor d.branch x = false
     (∀ d, atOnce d → deliverReport r s = ({ s with cru := { s.cru with lost := 0 } } : State).modLane d.branch
       (fun l => { l with out := l.out ++ [reportMessage d s.cru.lost r] })) ∧
     ((∀ d, ¬ atOnce d) → deliverReport r s = { s with cru := s.cru.push r })) ∧
   (∀ (d : Binding) (lost : Nat) (r : Report), reportMessage d lost r = .own d.octet 0x11
     (Fmt.o1 r.kind.ctorIdx ++ Fmt.o2 lost ++ Fmt.o4 r.ms ++ r.body) .plain) ∧
   (∀ s : State, s.addressValid = false → s.cru.reports.length ≤ 32 →
     let all := s.cru.reports ++ s.cru.made
     deliver s = { s with cru := { s.cru with
       made := [], reports := all.drop (all.length - 32), lost := if all.length ≤ 32 then s.cru.lost
         else min (s.cru.lost + (all.length - 32)) 65535 } }) ∧
   (∀ s : State, deliver s = s.cru.made.foldl (fun s r => deliverReport r s)
     { s with cru := { s.cru with made := [] } }) ∧
   ∀ s : State,
     (∀ d, s.cru.addressSet = false → s.lowest .console = some d →
       chooseAddress s = { s with cru := { s.cru with
         address := some d, hello := none, made := s.cru.made ++ match s.cru.hello with
           | some k => [⟨.hello, s.now % 4294967296, Fmt.o1 k.ctorIdx⟩]
           | none => [] } }) ∧
     (s.cru.addressSet = false → s.lowest .console = none →
       chooseAddress s = { s with cru := { s.cru with address := none } }))

/-! ## The mix (05) -/

/-- Stage 1 and stage 4 of an output: a mute term makes the contribution mute; else the applied gain is the sum of the
terms, clamped into -120 to 24. The scaled value is the accumulator over 4096, rounded with halves upward. -/
def Obligations.GainsAddAndScalingRounds : Prop :=
  (∀ terms : List Gain, .mute ∈ terms → appliedGain terms = .mute) ∧
  (∀ gs : List Int, appliedGain (gs.map .db) = .db (max (-120) (min 24 gs.sum))) ∧
  (∀ (s : State) (f : Floor) (n d c : Nat), appliedGain (s.terms f n c d) = .mute → s.contribution f n d c = 0) ∧
  (∀ (s : State) (f : Floor) (n d c : Nat) (g : Int), appliedGain (s.terms f n c d) = .db g →
    s.contribution f n d c = s.inputSample c * (linearFactor g : Int)) ∧
  ∀ acc : Int, 4096 * scale acc ≤ acc + 2048 ∧ acc + 2048 < 4096 * (scale acc + 1)

/-- Stage 2 of an output: the factor of each gain from -120 to 24 is 4096 times 10 to the power of a fortieth of the
gain, rounded to the nearest integer (said without roots: both sides to the fortieth power). -/
def Obligations.LinearFactorsAreTheNearest : Prop :=
  factors.length = 145 ∧ linearFactor 0 = 4096 ∧
  ∀ k : Nat, k < 145 →
    let l := linearFactor ((k : Int) - 120)
    4 ≤ l ∧ l ≤ 16306 ∧ (2 * l - 1) ^ 40 * 10 ^ 120 ≤ 8192 ^ 40 * 10 ^ k ∧
    8192 ^ 40 * 10 ^ k < (2 * l + 1) ^ 40 * 10 ^ 120

/-- The outputs of the mix (05 R84, R90, R95, R97): 0 with the speaker off unless the room is ACTIVE, the output's
floor LIVE and its seat not under test; else the speaker is on, the sample is the scaled sum of the contributions,
clamped into the sample range, its own source adds nothing, and no sample of its own source changes it. The seven gain
terms (R87 to R92): the trim of the seat or line; the closed-gate attenuation for a CLOSED gate; the nominal gain of
the open count, which counts the contributors (R86: SPEAKING and PRIORITY seats and bound lines of the floor) whose
gate is OPEN or HANG; the priority duck for a line under a hold; mute for the own source, the proximity duck for a
neighbour of the seat; the talker duck for a contributing seat whose own gate is OPEN or HANG; the level of the floor
or the line. -/
def Obligations.OutputsNeverHearThemselves : Prop :=
  (∀ (s : State) (d : Nat),
     (s.pwr.state ≠ .active ∨ s.live (s.chanFloor d) = false ∨ (d ≤ 48 ∧ s.underTest d = true) →
       s.output d = (0, false)) ∧
     (s.pwr.state = .active → s.live (s.chanFloor d) = true → (d ≤ 48 → s.underTest d = false) →
       (s.output d).2 = true ∧
       (s.output d).1.toInt = max (-32768) (min 32767 (scale
         ((s.contributors (s.chanFloor d)).map
           (s.contribution (s.chanFloor d) (s.openCount (s.chanFloor d)) d)).sum))) ∧
     (∀ f n, s.contribution f n d d = 0) ∧
     (∀ (at_ : Binding) (x : Sample),
       (if d ≤ 48 then (s.seat d).binding else (s.line (d - 48)).binding) = some at_ →
       (∀ c ∈ s.contributors (s.chanFloor d), c ≠ d →
         (if c ≤ 48 then (s.seat c).binding else (s.line (c - 48)).binding) ≠ some at_) →
       (s.modEntry at_ (fun e => { e with current := x })).output d = s.output d)) ∧
  ((∀ (s : State) (f : Floor) (n c d : Nat),
     let open_ (x : Nat) : Prop := (s.chan x).gate ≠ .closed
     ∃ trim gate nom duck route talker level : Gain,
       s.terms f n c d = [trim, gate, nom, duck, route, talker, level] ∧
       trim = .db (if c ≤ 48 then (s.seat c).trim else (s.line (c - 48)).trim) ∧
       (open_ c → gate = .db 0) ∧ (¬ open_ c → gate = (s.floor f).mix.closedGate) ∧
       nom = .db (nominalGain n) ∧
       duck = (if 48 < c ∧ (s.floor f).stack ≠ [] then (s.floor f).mix.priorityDuck else .db 0) ∧
       route = (if c = d then .mute
         else if d ≤ 48 ∧ c ≤ 48 ∧ c ∈ (s.seat d).neighbours then (s.floor f).mix.proximityDuck else .db 0) ∧
       (d ≤ 48 → d ∈ s.contributors f → open_ d → talker = (s.floor f).mix.talkerDuck) ∧
       (48 < d ∨ d ∉ s.contributors f ∨ ¬ open_ d → talker = .db 0) ∧
       level = .db (if d ≤ 48 then (s.floor f).mix.level else (s.line (d - 48)).level)) ∧
   (List.range 11).map nominalGain = [0, 0, -6, -10, -12, -14, -16, -17, -18, -19, -20] ∧
   (∀ (s : State) (f : Floor),
     s.openCount f = ((s.contributors f).filter (fun x => (s.chan x).gate != .closed)).length) ∧
   ∀ (s : State) (f : Floor) (x : Nat), x ∈ s.contributors f ↔
     (x ∈ allSeats ∧ s.seatFloor x = f ∧
       ((s.seat x).floorState = .speaking ∨ (s.seat x).floorState = .priority)) ∨
     ∃ l ∈ [1, 2], x = 48 + l ∧ (s.line l).binding.isSome = true ∧ s.chanFloor x = f)

/-! ## The laws that every step keeps -/

/-- A room that dims or sleeps has both floors VACANT (11 R196), and a pending target partition stands only while a
floor runs a meeting (06 R109, R110): every step keeps each of the two. -/
def Obligations.EveryStepKeepsThePowerAndPartitionLaws : Prop :=
  (∀ s t : State, PowerLaw s → step s = .next t → PowerLaw t) ∧
  (∀ s t : State, PartitionLaw s → step s = .next t → PartitionLaw t)

/-- The outbound queues, the inbound places and the report queue stay within their bounds (10 R183, R188, R189). -/
def Obligations.EveryStepKeepsTheQueuesBounded : Prop :=
  ∀ s t : State, QueuesBounded s → step s = .next t → QueuesBounded t

/-- Every setting of the floors and the profiles stays within its range (02 section 2.2, 04 R71, 05 section 5.5, 07
section 7.2). -/
def Obligations.EveryStepKeepsTheSettingsInRange : Prop :=
  ∀ s t : State, SettingsInRange s → step s = .next t → SettingsInRange t

/-- The tables keep their sizes, and the room clock its range (07 R117). -/
def Obligations.EveryStepKeepsTheTablesWhole : Prop :=
  ∀ s t : State, TablesWhole s ∧ ClockInRange s → step s = .next t → TablesWhole t ∧ ClockInRange t

/-- The booking table and the roster pool stay as 07 R120 to R122 say: no two bookings in conflict, and no more pool
entries in use than there are; and a floor in WALK_IN serves no booking (R127). -/
def Obligations.EveryStepKeepsTheCalendarSound : Prop :=
  ∀ s t : State, CalendarSound s → step s = .next t → CalendarSound t

/-- The lists of a floor name its own seats, and are empty while it is not LIVE (02 R17 to R19, R44, 03 R46), with the
hub's tables of the manual's sizes. With that, every seat keeps its one place in the lists of its floor, the one its
floor state says, and the holds their order: with an empty stack nothing is suspended, under a hold nobody speaks, the
top holder is PRIORITY and a lower one PRIORITY_WAIT, and no chair seat waits in the queue (02 R18, R19, R31; 03 R47,
R49, R54, R55). -/
def Obligations.EveryStepKeepsTheListsPlaced : Prop :=
  (∀ s t : State, TablesWhole s → ListsPlaced s → step s = .next t → ListsPlaced t) ∧
  (∀ s t : State, TablesWhole s → ListsPlaced s → SeatsStandOnce s → step s = .next t → SeatsStandOnce t)

/-- The node tables stay in the order of their chains (09 R164, R165). -/
def Obligations.EveryStepKeepsTheNodeTablesInOrder : Prop :=
  ∀ s t : State, NodeTablesInOrder s → step s = .next t → NodeTablesInOrder t

/-- The laws hold right after a power-on reset. -/
def Obligations.TheLawsHoldAtReset : Prop :=
  let s := State.reset
  PowerLaw s ∧ QueuesBounded s ∧ SettingsInRange s ∧ TablesWhole s ∧ ClockInRange s ∧ CalendarSound s ∧
  ListsPlaced s ∧ SeatsStandOnce s ∧ PartitionLaw s ∧ NodeTablesInOrder s
end

