-- ==== Sys2Proof/Laws/State.lean ====
section
/-! SUPPORT. One lemma for each field that an update of a numbered record leaves as it was, so that no proof unfolds a
record update; and what a record that was updated reads as. -/

namespace Sys2Proof.Machine

namespace State

/-! ## modSeat -/

@[simp] theorem modSeat_pending (n : Nat) (f : SeatRec → SeatRec) (s : State) : (s.modSeat n f).pending = s.pending := by cases n <;> rfl
@[simp] theorem modSeat_now (n : Nat) (f : SeatRec → SeatRec) (s : State) : (s.modSeat n f).now = s.now := by cases n <;> rfl
@[simp] theorem modSeat_floorA (n : Nat) (f : SeatRec → SeatRec) (s : State) : (s.modSeat n f).floorA = s.floorA := by cases n <;> rfl
@[simp] theorem modSeat_floorB (n : Nat) (f : SeatRec → SeatRec) (s : State) : (s.modSeat n f).floorB = s.floorB := by cases n <;> rfl
@[simp] theorem modSeat_chans (n : Nat) (f : SeatRec → SeatRec) (s : State) : (s.modSeat n f).chans = s.chans := by cases n <;> rfl
@[simp] theorem modSeat_dets (n : Nat) (f : SeatRec → SeatRec) (s : State) : (s.modSeat n f).dets = s.dets := by cases n <;> rfl
@[simp] theorem modSeat_line1 (n : Nat) (f : SeatRec → SeatRec) (s : State) : (s.modSeat n f).line1 = s.line1 := by cases n <;> rfl
@[simp] theorem modSeat_line2 (n : Nat) (f : SeatRec → SeatRec) (s : State) : (s.modSeat n f).line2 = s.line2 := by cases n <;> rfl
@[simp] theorem modSeat_latestA (n : Nat) (f : SeatRec → SeatRec) (s : State) : (s.modSeat n f).latestA = s.latestA := by cases n <;> rfl
@[simp] theorem modSeat_latestB (n : Nat) (f : SeatRec → SeatRec) (s : State) : (s.modSeat n f).latestB = s.latestB := by cases n <;> rfl
@[simp] theorem modSeat_satur (n : Nat) (f : SeatRec → SeatRec) (s : State) : (s.modSeat n f).satur = s.satur := by cases n <;> rfl
@[simp] theorem modSeat_part (n : Nat) (f : SeatRec → SeatRec) (s : State) : (s.modSeat n f).part = s.part := by cases n <;> rfl
@[simp] theorem modSeat_clock (n : Nat) (f : SeatRec → SeatRec) (s : State) : (s.modSeat n f).clock = s.clock := by cases n <;> rfl
@[simp] theorem modSeat_profiles (n : Nat) (f : SeatRec → SeatRec) (s : State) : (s.modSeat n f).profiles = s.profiles := by cases n <;> rfl
@[simp] theorem modSeat_bookings (n : Nat) (f : SeatRec → SeatRec) (s : State) : (s.modSeat n f).bookings = s.bookings := by cases n <;> rfl
@[simp] theorem modSeat_staging (n : Nat) (f : SeatRec → SeatRec) (s : State) : (s.modSeat n f).staging = s.staging := by cases n <;> rfl
@[simp] theorem modSeat_sd (n : Nat) (f : SeatRec → SeatRec) (s : State) : (s.modSeat n f).sd = s.sd := by cases n <;> rfl
@[simp] theorem modSeat_pwr (n : Nat) (f : SeatRec → SeatRec) (s : State) : (s.modSeat n f).pwr = s.pwr := by cases n <;> rfl
@[simp] theorem modSeat_br0 (n : Nat) (f : SeatRec → SeatRec) (s : State) : (s.modSeat n f).br0 = s.br0 := by cases n <;> rfl
@[simp] theorem modSeat_br1 (n : Nat) (f : SeatRec → SeatRec) (s : State) : (s.modSeat n f).br1 = s.br1 := by cases n <;> rfl
@[simp] theorem modSeat_test (n : Nat) (f : SeatRec → SeatRec) (s : State) : (s.modSeat n f).test = s.test := by cases n <;> rfl
@[simp] theorem modSeat_windowDue (n : Nat) (f : SeatRec → SeatRec) (s : State) : (s.modSeat n f).windowDue = s.windowDue := by cases n <;> rfl
@[simp] theorem modSeat_lane0 (n : Nat) (f : SeatRec → SeatRec) (s : State) : (s.modSeat n f).lane0 = s.lane0 := by cases n <;> rfl
@[simp] theorem modSeat_lane1 (n : Nat) (f : SeatRec → SeatRec) (s : State) : (s.modSeat n f).lane1 = s.lane1 := by cases n <;> rfl
@[simp] theorem modSeat_stamp (n : Nat) (f : SeatRec → SeatRec) (s : State) : (s.modSeat n f).stamp = s.stamp := by cases n <;> rfl
@[simp] theorem modSeat_filter (n : Nat) (f : SeatRec → SeatRec) (s : State) : (s.modSeat n f).filter = s.filter := by cases n <;> rfl
@[simp] theorem modSeat_cru (n : Nat) (f : SeatRec → SeatRec) (s : State) : (s.modSeat n f).cru = s.cru := by cases n <;> rfl

/-! ## modFloor -/

@[simp] theorem modFloor_pending (g : Floor) (f : FloorRec → FloorRec) (s : State) : (s.modFloor g f).pending = s.pending := by cases g <;> rfl
@[simp] theorem modFloor_now (g : Floor) (f : FloorRec → FloorRec) (s : State) : (s.modFloor g f).now = s.now := by cases g <;> rfl
@[simp] theorem modFloor_seats (g : Floor) (f : FloorRec → FloorRec) (s : State) : (s.modFloor g f).seats = s.seats := by cases g <;> rfl
@[simp] theorem modFloor_chans (g : Floor) (f : FloorRec → FloorRec) (s : State) : (s.modFloor g f).chans = s.chans := by cases g <;> rfl
@[simp] theorem modFloor_dets (g : Floor) (f : FloorRec → FloorRec) (s : State) : (s.modFloor g f).dets = s.dets := by cases g <;> rfl
@[simp] theorem modFloor_line1 (g : Floor) (f : FloorRec → FloorRec) (s : State) : (s.modFloor g f).line1 = s.line1 := by cases g <;> rfl
@[simp] theorem modFloor_line2 (g : Floor) (f : FloorRec → FloorRec) (s : State) : (s.modFloor g f).line2 = s.line2 := by cases g <;> rfl
@[simp] theorem modFloor_latestA (g : Floor) (f : FloorRec → FloorRec) (s : State) : (s.modFloor g f).latestA = s.latestA := by cases g <;> rfl
@[simp] theorem modFloor_latestB (g : Floor) (f : FloorRec → FloorRec) (s : State) : (s.modFloor g f).latestB = s.latestB := by cases g <;> rfl
@[simp] theorem modFloor_satur (g : Floor) (f : FloorRec → FloorRec) (s : State) : (s.modFloor g f).satur = s.satur := by cases g <;> rfl
@[simp] theorem modFloor_part (g : Floor) (f : FloorRec → FloorRec) (s : State) : (s.modFloor g f).part = s.part := by cases g <;> rfl
@[simp] theorem modFloor_clock (g : Floor) (f : FloorRec → FloorRec) (s : State) : (s.modFloor g f).clock = s.clock := by cases g <;> rfl
@[simp] theorem modFloor_profiles (g : Floor) (f : FloorRec → FloorRec) (s : State) : (s.modFloor g f).profiles = s.profiles := by cases g <;> rfl
@[simp] theorem modFloor_bookings (g : Floor) (f : FloorRec → FloorRec) (s : State) : (s.modFloor g f).bookings = s.bookings := by cases g <;> rfl
@[simp] theorem modFloor_staging (g : Floor) (f : FloorRec → FloorRec) (s : State) : (s.modFloor g f).staging = s.staging := by cases g <;> rfl
@[simp] theorem modFloor_sd (g : Floor) (f : FloorRec → FloorRec) (s : State) : (s.modFloor g f).sd = s.sd := by cases g <;> rfl
@[simp] theorem modFloor_pwr (g : Floor) (f : FloorRec → FloorRec) (s : State) : (s.modFloor g f).pwr = s.pwr := by cases g <;> rfl
@[simp] theorem modFloor_br0 (g : Floor) (f : FloorRec → FloorRec) (s : State) : (s.modFloor g f).br0 = s.br0 := by cases g <;> rfl
@[simp] theorem modFloor_br1 (g : Floor) (f : FloorRec → FloorRec) (s : State) : (s.modFloor g f).br1 = s.br1 := by cases g <;> rfl
@[simp] theorem modFloor_test (g : Floor) (f : FloorRec → FloorRec) (s : State) : (s.modFloor g f).test = s.test := by cases g <;> rfl
@[simp] theorem modFloor_windowDue (g : Floor) (f : FloorRec → FloorRec) (s : State) : (s.modFloor g f).windowDue = s.windowDue := by cases g <;> rfl
@[simp] theorem modFloor_lane0 (g : Floor) (f : FloorRec → FloorRec) (s : State) : (s.modFloor g f).lane0 = s.lane0 := by cases g <;> rfl
@[simp] theorem modFloor_lane1 (g : Floor) (f : FloorRec → FloorRec) (s : State) : (s.modFloor g f).lane1 = s.lane1 := by cases g <;> rfl
@[simp] theorem modFloor_stamp (g : Floor) (f : FloorRec → FloorRec) (s : State) : (s.modFloor g f).stamp = s.stamp := by cases g <;> rfl
@[simp] theorem modFloor_filter (g : Floor) (f : FloorRec → FloorRec) (s : State) : (s.modFloor g f).filter = s.filter := by cases g <;> rfl
@[simp] theorem modFloor_cru (g : Floor) (f : FloorRec → FloorRec) (s : State) : (s.modFloor g f).cru = s.cru := by cases g <;> rfl

/-! ## modMeeting -/

@[simp] theorem modMeeting_pending (g : Floor) (f : Meeting → Meeting) (s : State) : (s.modMeeting g f).pending = s.pending := by cases g <;> rfl
@[simp] theorem modMeeting_now (g : Floor) (f : Meeting → Meeting) (s : State) : (s.modMeeting g f).now = s.now := by cases g <;> rfl
@[simp] theorem modMeeting_seats (g : Floor) (f : Meeting → Meeting) (s : State) : (s.modMeeting g f).seats = s.seats := by cases g <;> rfl
@[simp] theorem modMeeting_chans (g : Floor) (f : Meeting → Meeting) (s : State) : (s.modMeeting g f).chans = s.chans := by cases g <;> rfl
@[simp] theorem modMeeting_dets (g : Floor) (f : Meeting → Meeting) (s : State) : (s.modMeeting g f).dets = s.dets := by cases g <;> rfl
@[simp] theorem modMeeting_line1 (g : Floor) (f : Meeting → Meeting) (s : State) : (s.modMeeting g f).line1 = s.line1 := by cases g <;> rfl
@[simp] theorem modMeeting_line2 (g : Floor) (f : Meeting → Meeting) (s : State) : (s.modMeeting g f).line2 = s.line2 := by cases g <;> rfl
@[simp] theorem modMeeting_latestA (g : Floor) (f : Meeting → Meeting) (s : State) : (s.modMeeting g f).latestA = s.latestA := by cases g <;> rfl
@[simp] theorem modMeeting_latestB (g : Floor) (f : Meeting → Meeting) (s : State) : (s.modMeeting g f).latestB = s.latestB := by cases g <;> rfl
@[simp] theorem modMeeting_satur (g : Floor) (f : Meeting → Meeting) (s : State) : (s.modMeeting g f).satur = s.satur := by cases g <;> rfl
@[simp] theorem modMeeting_part (g : Floor) (f : Meeting → Meeting) (s : State) : (s.modMeeting g f).part = s.part := by cases g <;> rfl
@[simp] theorem modMeeting_clock (g : Floor) (f : Meeting → Meeting) (s : State) : (s.modMeeting g f).clock = s.clock := by cases g <;> rfl
@[simp] theorem modMeeting_profiles (g : Floor) (f : Meeting → Meeting) (s : State) : (s.modMeeting g f).profiles = s.profiles := by cases g <;> rfl
@[simp] theorem modMeeting_bookings (g : Floor) (f : Meeting → Meeting) (s : State) : (s.modMeeting g f).bookings = s.bookings := by cases g <;> rfl
@[simp] theorem modMeeting_staging (g : Floor) (f : Meeting → Meeting) (s : State) : (s.modMeeting g f).staging = s.staging := by cases g <;> rfl
@[simp] theorem modMeeting_sd (g : Floor) (f : Meeting → Meeting) (s : State) : (s.modMeeting g f).sd = s.sd := by cases g <;> rfl
@[simp] theorem modMeeting_pwr (g : Floor) (f : Meeting → Meeting) (s : State) : (s.modMeeting g f).pwr = s.pwr := by cases g <;> rfl
@[simp] theorem modMeeting_br0 (g : Floor) (f : Meeting → Meeting) (s : State) : (s.modMeeting g f).br0 = s.br0 := by cases g <;> rfl
@[simp] theorem modMeeting_br1 (g : Floor) (f : Meeting → Meeting) (s : State) : (s.modMeeting g f).br1 = s.br1 := by cases g <;> rfl
@[simp] theorem modMeeting_test (g : Floor) (f : Meeting → Meeting) (s : State) : (s.modMeeting g f).test = s.test := by cases g <;> rfl
@[simp] theorem modMeeting_windowDue (g : Floor) (f : Meeting → Meeting) (s : State) : (s.modMeeting g f).windowDue = s.windowDue := by cases g <;> rfl
@[simp] theorem modMeeting_lane0 (g : Floor) (f : Meeting → Meeting) (s : State) : (s.modMeeting g f).lane0 = s.lane0 := by cases g <;> rfl
@[simp] theorem modMeeting_lane1 (g : Floor) (f : Meeting → Meeting) (s : State) : (s.modMeeting g f).lane1 = s.lane1 := by cases g <;> rfl
@[simp] theorem modMeeting_stamp (g : Floor) (f : Meeting → Meeting) (s : State) : (s.modMeeting g f).stamp = s.stamp := by cases g <;> rfl
@[simp] theorem modMeeting_filter (g : Floor) (f : Meeting → Meeting) (s : State) : (s.modMeeting g f).filter = s.filter := by cases g <;> rfl
@[simp] theorem modMeeting_cru (g : Floor) (f : Meeting → Meeting) (s : State) : (s.modMeeting g f).cru = s.cru := by cases g <;> rfl

/-! ## modBr -/

@[simp] theorem modBr_pending (b : Branch) (f : BranchRec → BranchRec) (s : State) : (s.modBr b f).pending = s.pending := by cases b <;> rfl
@[simp] theorem modBr_now (b : Branch) (f : BranchRec → BranchRec) (s : State) : (s.modBr b f).now = s.now := by cases b <;> rfl
@[simp] theorem modBr_seats (b : Branch) (f : BranchRec → BranchRec) (s : State) : (s.modBr b f).seats = s.seats := by cases b <;> rfl
@[simp] theorem modBr_floorA (b : Branch) (f : BranchRec → BranchRec) (s : State) : (s.modBr b f).floorA = s.floorA := by cases b <;> rfl
@[simp] theorem modBr_floorB (b : Branch) (f : BranchRec → BranchRec) (s : State) : (s.modBr b f).floorB = s.floorB := by cases b <;> rfl
@[simp] theorem modBr_chans (b : Branch) (f : BranchRec → BranchRec) (s : State) : (s.modBr b f).chans = s.chans := by cases b <;> rfl
@[simp] theorem modBr_dets (b : Branch) (f : BranchRec → BranchRec) (s : State) : (s.modBr b f).dets = s.dets := by cases b <;> rfl
@[simp] theorem modBr_line1 (b : Branch) (f : BranchRec → BranchRec) (s : State) : (s.modBr b f).line1 = s.line1 := by cases b <;> rfl
@[simp] theorem modBr_line2 (b : Branch) (f : BranchRec → BranchRec) (s : State) : (s.modBr b f).line2 = s.line2 := by cases b <;> rfl
@[simp] theorem modBr_latestA (b : Branch) (f : BranchRec → BranchRec) (s : State) : (s.modBr b f).latestA = s.latestA := by cases b <;> rfl
@[simp] theorem modBr_latestB (b : Branch) (f : BranchRec → BranchRec) (s : State) : (s.modBr b f).latestB = s.latestB := by cases b <;> rfl
@[simp] theorem modBr_satur (b : Branch) (f : BranchRec → BranchRec) (s : State) : (s.modBr b f).satur = s.satur := by cases b <;> rfl
@[simp] theorem modBr_part (b : Branch) (f : BranchRec → BranchRec) (s : State) : (s.modBr b f).part = s.part := by cases b <;> rfl
@[simp] theorem modBr_clock (b : Branch) (f : BranchRec → BranchRec) (s : State) : (s.modBr b f).clock = s.clock := by cases b <;> rfl
@[simp] theorem modBr_profiles (b : Branch) (f : BranchRec → BranchRec) (s : State) : (s.modBr b f).profiles = s.profiles := by cases b <;> rfl
@[simp] theorem modBr_bookings (b : Branch) (f : BranchRec → BranchRec) (s : State) : (s.modBr b f).bookings = s.bookings := by cases b <;> rfl
@[simp] theorem modBr_staging (b : Branch) (f : BranchRec → BranchRec) (s : State) : (s.modBr b f).staging = s.staging := by cases b <;> rfl
@[simp] theorem modBr_sd (b : Branch) (f : BranchRec → BranchRec) (s : State) : (s.modBr b f).sd = s.sd := by cases b <;> rfl
@[simp] theorem modBr_pwr (b : Branch) (f : BranchRec → BranchRec) (s : State) : (s.modBr b f).pwr = s.pwr := by cases b <;> rfl
@[simp] theorem modBr_test (b : Branch) (f : BranchRec → BranchRec) (s : State) : (s.modBr b f).test = s.test := by cases b <;> rfl
@[simp] theorem modBr_windowDue (b : Branch) (f : BranchRec → BranchRec) (s : State) : (s.modBr b f).windowDue = s.windowDue := by cases b <;> rfl
@[simp] theorem modBr_lane0 (b : Branch) (f : BranchRec → BranchRec) (s : State) : (s.modBr b f).lane0 = s.lane0 := by cases b <;> rfl
@[simp] theorem modBr_lane1 (b : Branch) (f : BranchRec → BranchRec) (s : State) : (s.modBr b f).lane1 = s.lane1 := by cases b <;> rfl
@[simp] theorem modBr_stamp (b : Branch) (f : BranchRec → BranchRec) (s : State) : (s.modBr b f).stamp = s.stamp := by cases b <;> rfl
@[simp] theorem modBr_filter (b : Branch) (f : BranchRec → BranchRec) (s : State) : (s.modBr b f).filter = s.filter := by cases b <;> rfl
@[simp] theorem modBr_cru (b : Branch) (f : BranchRec → BranchRec) (s : State) : (s.modBr b f).cru = s.cru := by cases b <;> rfl

/-! ## modEntry -/

@[simp] theorem modEntry_pending (d : Binding) (f : NodeEntry → NodeEntry) (s : State) : (s.modEntry d f).pending = s.pending := by
  unfold modEntry; cases d.branch <;> rfl
@[simp] theorem modEntry_now (d : Binding) (f : NodeEntry → NodeEntry) (s : State) : (s.modEntry d f).now = s.now := by
  unfold modEntry; cases d.branch <;> rfl
@[simp] theorem modEntry_seats (d : Binding) (f : NodeEntry → NodeEntry) (s : State) : (s.modEntry d f).seats = s.seats := by
  unfold modEntry; cases d.branch <;> rfl
@[simp] theorem modEntry_floorA (d : Binding) (f : NodeEntry → NodeEntry) (s : State) : (s.modEntry d f).floorA = s.floorA := by
  unfold modEntry; cases d.branch <;> rfl
@[simp] theorem modEntry_floorB (d : Binding) (f : NodeEntry → NodeEntry) (s : State) : (s.modEntry d f).floorB = s.floorB := by
  unfold modEntry; cases d.branch <;> rfl
@[simp] theorem modEntry_chans (d : Binding) (f : NodeEntry → NodeEntry) (s : State) : (s.modEntry d f).chans = s.chans := by
  unfold modEntry; cases d.branch <;> rfl
@[simp] theorem modEntry_dets (d : Binding) (f : NodeEntry → NodeEntry) (s : State) : (s.modEntry d f).dets = s.dets := by
  unfold modEntry; cases d.branch <;> rfl
@[simp] theorem modEntry_line1 (d : Binding) (f : NodeEntry → NodeEntry) (s : State) : (s.modEntry d f).line1 = s.line1 := by
  unfold modEntry; cases d.branch <;> rfl
@[simp] theorem modEntry_line2 (d : Binding) (f : NodeEntry → NodeEntry) (s : State) : (s.modEntry d f).line2 = s.line2 := by
  unfold modEntry; cases d.branch <;> rfl
@[simp] theorem modEntry_latestA (d : Binding) (f : NodeEntry → NodeEntry) (s : State) : (s.modEntry d f).latestA = s.latestA := by
  unfold modEntry; cases d.branch <;> rfl
@[simp] theorem modEntry_latestB (d : Binding) (f : NodeEntry → NodeEntry) (s : State) : (s.modEntry d f).latestB = s.latestB := by
  unfold modEntry; cases d.branch <;> rfl
@[simp] theorem modEntry_satur (d : Binding) (f : NodeEntry → NodeEntry) (s : State) : (s.modEntry d f).satur = s.satur := by
  unfold modEntry; cases d.branch <;> rfl
@[simp] theorem modEntry_part (d : Binding) (f : NodeEntry → NodeEntry) (s : State) : (s.modEntry d f).part = s.part := by
  unfold modEntry; cases d.branch <;> rfl
@[simp] theorem modEntry_clock (d : Binding) (f : NodeEntry → NodeEntry) (s : State) : (s.modEntry d f).clock = s.clock := by
  unfold modEntry; cases d.branch <;> rfl
@[simp] theorem modEntry_profiles (d : Binding) (f : NodeEntry → NodeEntry) (s : State) : (s.modEntry d f).profiles = s.profiles := by
  unfold modEntry; cases d.branch <;> rfl
@[simp] theorem modEntry_bookings (d : Binding) (f : NodeEntry → NodeEntry) (s : State) : (s.modEntry d f).bookings = s.bookings := by
  unfold modEntry; cases d.branch <;> rfl
@[simp] theorem modEntry_staging (d : Binding) (f : NodeEntry → NodeEntry) (s : State) : (s.modEntry d f).staging = s.staging := by
  unfold modEntry; cases d.branch <;> rfl
@[simp] theorem modEntry_sd (d : Binding) (f : NodeEntry → NodeEntry) (s : State) : (s.modEntry d f).sd = s.sd := by
  unfold modEntry; cases d.branch <;> rfl
@[simp] theorem modEntry_pwr (d : Binding) (f : NodeEntry → NodeEntry) (s : State) : (s.modEntry d f).pwr = s.pwr := by
  unfold modEntry; cases d.branch <;> rfl
@[simp] theorem modEntry_test (d : Binding) (f : NodeEntry → NodeEntry) (s : State) : (s.modEntry d f).test = s.test := by
  unfold modEntry; cases d.branch <;> rfl
@[simp] theorem modEntry_windowDue (d : Binding) (f : NodeEntry → NodeEntry) (s : State) : (s.modEntry d f).windowDue = s.windowDue := by
  unfold modEntry; cases d.branch <;> rfl
@[simp] theorem modEntry_lane0 (d : Binding) (f : NodeEntry → NodeEntry) (s : State) : (s.modEntry d f).lane0 = s.lane0 := by
  unfold modEntry; cases d.branch <;> rfl
@[simp] theorem modEntry_lane1 (d : Binding) (f : NodeEntry → NodeEntry) (s : State) : (s.modEntry d f).lane1 = s.lane1 := by
  unfold modEntry; cases d.branch <;> rfl
@[simp] theorem modEntry_stamp (d : Binding) (f : NodeEntry → NodeEntry) (s : State) : (s.modEntry d f).stamp = s.stamp := by
  unfold modEntry; cases d.branch <;> rfl
@[simp] theorem modEntry_filter (d : Binding) (f : NodeEntry → NodeEntry) (s : State) : (s.modEntry d f).filter = s.filter := by
  unfold modEntry; cases d.branch <;> rfl
@[simp] theorem modEntry_cru (d : Binding) (f : NodeEntry → NodeEntry) (s : State) : (s.modEntry d f).cru = s.cru := by
  unfold modEntry; cases d.branch <;> rfl

/-! ## modLane -/

@[simp] theorem modLane_pending (b : Branch) (f : Lane → Lane) (s : State) : (s.modLane b f).pending = s.pending := by cases b <;> rfl
@[simp] theorem modLane_now (b : Branch) (f : Lane → Lane) (s : State) : (s.modLane b f).now = s.now := by cases b <;> rfl
@[simp] theorem modLane_seats (b : Branch) (f : Lane → Lane) (s : State) : (s.modLane b f).seats = s.seats := by cases b <;> rfl
@[simp] theorem modLane_floorA (b : Branch) (f : Lane → Lane) (s : State) : (s.modLane b f).floorA = s.floorA := by cases b <;> rfl
@[simp] theorem modLane_floorB (b : Branch) (f : Lane → Lane) (s : State) : (s.modLane b f).floorB = s.floorB := by cases b <;> rfl
@[simp] theorem modLane_chans (b : Branch) (f : Lane → Lane) (s : State) : (s.modLane b f).chans = s.chans := by cases b <;> rfl
@[simp] theorem modLane_dets (b : Branch) (f : Lane → Lane) (s : State) : (s.modLane b f).dets = s.dets := by cases b <;> rfl
@[simp] theorem modLane_line1 (b : Branch) (f : Lane → Lane) (s : State) : (s.modLane b f).line1 = s.line1 := by cases b <;> rfl
@[simp] theorem modLane_line2 (b : Branch) (f : Lane → Lane) (s : State) : (s.modLane b f).line2 = s.line2 := by cases b <;> rfl
@[simp] theorem modLane_latestA (b : Branch) (f : Lane → Lane) (s : State) : (s.modLane b f).latestA = s.latestA := by cases b <;> rfl
@[simp] theorem modLane_latestB (b : Branch) (f : Lane → Lane) (s : State) : (s.modLane b f).latestB = s.latestB := by cases b <;> rfl
@[simp] theorem modLane_satur (b : Branch) (f : Lane → Lane) (s : State) : (s.modLane b f).satur = s.satur := by cases b <;> rfl
@[simp] theorem modLane_part (b : Branch) (f : Lane → Lane) (s : State) : (s.modLane b f).part = s.part := by cases b <;> rfl
@[simp] theorem modLane_clock (b : Branch) (f : Lane → Lane) (s : State) : (s.modLane b f).clock = s.clock := by cases b <;> rfl
@[simp] theorem modLane_profiles (b : Branch) (f : Lane → Lane) (s : State) : (s.modLane b f).profiles = s.profiles := by cases b <;> rfl
@[simp] theorem modLane_bookings (b : Branch) (f : Lane → Lane) (s : State) : (s.modLane b f).bookings = s.bookings := by cases b <;> rfl
@[simp] theorem modLane_staging (b : Branch) (f : Lane → Lane) (s : State) : (s.modLane b f).staging = s.staging := by cases b <;> rfl
@[simp] theorem modLane_sd (b : Branch) (f : Lane → Lane) (s : State) : (s.modLane b f).sd = s.sd := by cases b <;> rfl
@[simp] theorem modLane_pwr (b : Branch) (f : Lane → Lane) (s : State) : (s.modLane b f).pwr = s.pwr := by cases b <;> rfl
@[simp] theorem modLane_br0 (b : Branch) (f : Lane → Lane) (s : State) : (s.modLane b f).br0 = s.br0 := by cases b <;> rfl
@[simp] theorem modLane_br1 (b : Branch) (f : Lane → Lane) (s : State) : (s.modLane b f).br1 = s.br1 := by cases b <;> rfl
@[simp] theorem modLane_test (b : Branch) (f : Lane → Lane) (s : State) : (s.modLane b f).test = s.test := by cases b <;> rfl
@[simp] theorem modLane_windowDue (b : Branch) (f : Lane → Lane) (s : State) : (s.modLane b f).windowDue = s.windowDue := by cases b <;> rfl
@[simp] theorem modLane_stamp (b : Branch) (f : Lane → Lane) (s : State) : (s.modLane b f).stamp = s.stamp := by cases b <;> rfl
@[simp] theorem modLane_filter (b : Branch) (f : Lane → Lane) (s : State) : (s.modLane b f).filter = s.filter := by cases b <;> rfl
@[simp] theorem modLane_cru (b : Branch) (f : Lane → Lane) (s : State) : (s.modLane b f).cru = s.cru := by cases b <;> rfl

/-! ## modChan -/

@[simp] theorem modChan_pending (c : Nat) (f : Chan → Chan) (s : State) : (s.modChan c f).pending = s.pending := by cases c <;> rfl
@[simp] theorem modChan_now (c : Nat) (f : Chan → Chan) (s : State) : (s.modChan c f).now = s.now := by cases c <;> rfl
@[simp] theorem modChan_seats (c : Nat) (f : Chan → Chan) (s : State) : (s.modChan c f).seats = s.seats := by cases c <;> rfl
@[simp] theorem modChan_floorA (c : Nat) (f : Chan → Chan) (s : State) : (s.modChan c f).floorA = s.floorA := by cases c <;> rfl
@[simp] theorem modChan_floorB (c : Nat) (f : Chan → Chan) (s : State) : (s.modChan c f).floorB = s.floorB := by cases c <;> rfl
@[simp] theorem modChan_dets (c : Nat) (f : Chan → Chan) (s : State) : (s.modChan c f).dets = s.dets := by cases c <;> rfl
@[simp] theorem modChan_line1 (c : Nat) (f : Chan → Chan) (s : State) : (s.modChan c f).line1 = s.line1 := by cases c <;> rfl
@[simp] theorem modChan_line2 (c : Nat) (f : Chan → Chan) (s : State) : (s.modChan c f).line2 = s.line2 := by cases c <;> rfl
@[simp] theorem modChan_latestA (c : Nat) (f : Chan → Chan) (s : State) : (s.modChan c f).latestA = s.latestA := by cases c <;> rfl
@[simp] theorem modChan_latestB (c : Nat) (f : Chan → Chan) (s : State) : (s.modChan c f).latestB = s.latestB := by cases c <;> rfl
@[simp] theorem modChan_satur (c : Nat) (f : Chan → Chan) (s : State) : (s.modChan c f).satur = s.satur := by cases c <;> rfl
@[simp] theorem modChan_part (c : Nat) (f : Chan → Chan) (s : State) : (s.modChan c f).part = s.part := by cases c <;> rfl
@[simp] theorem modChan_clock (c : Nat) (f : Chan → Chan) (s : State) : (s.modChan c f).clock = s.clock := by cases c <;> rfl
@[simp] theorem modChan_profiles (c : Nat) (f : Chan → Chan) (s : State) : (s.modChan c f).profiles = s.profiles := by cases c <;> rfl
@[simp] theorem modChan_bookings (c : Nat) (f : Chan → Chan) (s : State) : (s.modChan c f).bookings = s.bookings := by cases c <;> rfl
@[simp] theorem modChan_staging (c : Nat) (f : Chan → Chan) (s : State) : (s.modChan c f).staging = s.staging := by cases c <;> rfl
@[simp] theorem modChan_sd (c : Nat) (f : Chan → Chan) (s : State) : (s.modChan c f).sd = s.sd := by cases c <;> rfl
@[simp] theorem modChan_pwr (c : Nat) (f : Chan → Chan) (s : State) : (s.modChan c f).pwr = s.pwr := by cases c <;> rfl
@[simp] theorem modChan_br0 (c : Nat) (f : Chan → Chan) (s : State) : (s.modChan c f).br0 = s.br0 := by cases c <;> rfl
@[simp] theorem modChan_br1 (c : Nat) (f : Chan → Chan) (s : State) : (s.modChan c f).br1 = s.br1 := by cases c <;> rfl
@[simp] theorem modChan_test (c : Nat) (f : Chan → Chan) (s : State) : (s.modChan c f).test = s.test := by cases c <;> rfl
@[simp] theorem modChan_windowDue (c : Nat) (f : Chan → Chan) (s : State) : (s.modChan c f).windowDue = s.windowDue := by cases c <;> rfl
@[simp] theorem modChan_lane0 (c : Nat) (f : Chan → Chan) (s : State) : (s.modChan c f).lane0 = s.lane0 := by cases c <;> rfl
@[simp] theorem modChan_lane1 (c : Nat) (f : Chan → Chan) (s : State) : (s.modChan c f).lane1 = s.lane1 := by cases c <;> rfl
@[simp] theorem modChan_stamp (c : Nat) (f : Chan → Chan) (s : State) : (s.modChan c f).stamp = s.stamp := by cases c <;> rfl
@[simp] theorem modChan_filter (c : Nat) (f : Chan → Chan) (s : State) : (s.modChan c f).filter = s.filter := by cases c <;> rfl
@[simp] theorem modChan_cru (c : Nat) (f : Chan → Chan) (s : State) : (s.modChan c f).cru = s.cru := by cases c <;> rfl

/-! ## modDets -/

@[simp] theorem modDets_pending (n : Nat) (f : SeatDets → SeatDets) (s : State) : (s.modDets n f).pending = s.pending := by cases n <;> rfl
@[simp] theorem modDets_now (n : Nat) (f : SeatDets → SeatDets) (s : State) : (s.modDets n f).now = s.now := by cases n <;> rfl
@[simp] theorem modDets_seats (n : Nat) (f : SeatDets → SeatDets) (s : State) : (s.modDets n f).seats = s.seats := by cases n <;> rfl
@[simp] theorem modDets_floorA (n : Nat) (f : SeatDets → SeatDets) (s : State) : (s.modDets n f).floorA = s.floorA := by cases n <;> rfl
@[simp] theorem modDets_floorB (n : Nat) (f : SeatDets → SeatDets) (s : State) : (s.modDets n f).floorB = s.floorB := by cases n <;> rfl
@[simp] theorem modDets_chans (n : Nat) (f : SeatDets → SeatDets) (s : State) : (s.modDets n f).chans = s.chans := by cases n <;> rfl
@[simp] theorem modDets_line1 (n : Nat) (f : SeatDets → SeatDets) (s : State) : (s.modDets n f).line1 = s.line1 := by cases n <;> rfl
@[simp] theorem modDets_line2 (n : Nat) (f : SeatDets → SeatDets) (s : State) : (s.modDets n f).line2 = s.line2 := by cases n <;> rfl
@[simp] theorem modDets_latestA (n : Nat) (f : SeatDets → SeatDets) (s : State) : (s.modDets n f).latestA = s.latestA := by cases n <;> rfl
@[simp] theorem modDets_latestB (n : Nat) (f : SeatDets → SeatDets) (s : State) : (s.modDets n f).latestB = s.latestB := by cases n <;> rfl
@[simp] theorem modDets_satur (n : Nat) (f : SeatDets → SeatDets) (s : State) : (s.modDets n f).satur = s.satur := by cases n <;> rfl
@[simp] theorem modDets_part (n : Nat) (f : SeatDets → SeatDets) (s : State) : (s.modDets n f).part = s.part := by cases n <;> rfl
@[simp] theorem modDets_clock (n : Nat) (f : SeatDets → SeatDets) (s : State) : (s.modDets n f).clock = s.clock := by cases n <;> rfl
@[simp] theorem modDets_profiles (n : Nat) (f : SeatDets → SeatDets) (s : State) : (s.modDets n f).profiles = s.profiles := by cases n <;> rfl
@[simp] theorem modDets_bookings (n : Nat) (f : SeatDets → SeatDets) (s : State) : (s.modDets n f).bookings = s.bookings := by cases n <;> rfl
@[simp] theorem modDets_staging (n : Nat) (f : SeatDets → SeatDets) (s : State) : (s.modDets n f).staging = s.staging := by cases n <;> rfl
@[simp] theorem modDets_sd (n : Nat) (f : SeatDets → SeatDets) (s : State) : (s.modDets n f).sd = s.sd := by cases n <;> rfl
@[simp] theorem modDets_pwr (n : Nat) (f : SeatDets → SeatDets) (s : State) : (s.modDets n f).pwr = s.pwr := by cases n <;> rfl
@[simp] theorem modDets_br0 (n : Nat) (f : SeatDets → SeatDets) (s : State) : (s.modDets n f).br0 = s.br0 := by cases n <;> rfl
@[simp] theorem modDets_br1 (n : Nat) (f : SeatDets → SeatDets) (s : State) : (s.modDets n f).br1 = s.br1 := by cases n <;> rfl
@[simp] theorem modDets_test (n : Nat) (f : SeatDets → SeatDets) (s : State) : (s.modDets n f).test = s.test := by cases n <;> rfl
@[simp] theorem modDets_windowDue (n : Nat) (f : SeatDets → SeatDets) (s : State) : (s.modDets n f).windowDue = s.windowDue := by cases n <;> rfl
@[simp] theorem modDets_lane0 (n : Nat) (f : SeatDets → SeatDets) (s : State) : (s.modDets n f).lane0 = s.lane0 := by cases n <;> rfl
@[simp] theorem modDets_lane1 (n : Nat) (f : SeatDets → SeatDets) (s : State) : (s.modDets n f).lane1 = s.lane1 := by cases n <;> rfl
@[simp] theorem modDets_stamp (n : Nat) (f : SeatDets → SeatDets) (s : State) : (s.modDets n f).stamp = s.stamp := by cases n <;> rfl
@[simp] theorem modDets_filter (n : Nat) (f : SeatDets → SeatDets) (s : State) : (s.modDets n f).filter = s.filter := by cases n <;> rfl
@[simp] theorem modDets_cru (n : Nat) (f : SeatDets → SeatDets) (s : State) : (s.modDets n f).cru = s.cru := by cases n <;> rfl

/-! ## modScreen -/

@[simp] theorem modScreen_pending (k : Nat) (f : ScreenRec → ScreenRec) (s : State) : (s.modScreen k f).pending = s.pending := by cases k <;> rfl
@[simp] theorem modScreen_now (k : Nat) (f : ScreenRec → ScreenRec) (s : State) : (s.modScreen k f).now = s.now := by cases k <;> rfl
@[simp] theorem modScreen_seats (k : Nat) (f : ScreenRec → ScreenRec) (s : State) : (s.modScreen k f).seats = s.seats := by cases k <;> rfl
@[simp] theorem modScreen_floorA (k : Nat) (f : ScreenRec → ScreenRec) (s : State) : (s.modScreen k f).floorA = s.floorA := by cases k <;> rfl
@[simp] theorem modScreen_floorB (k : Nat) (f : ScreenRec → ScreenRec) (s : State) : (s.modScreen k f).floorB = s.floorB := by cases k <;> rfl
@[simp] theorem modScreen_chans (k : Nat) (f : ScreenRec → ScreenRec) (s : State) : (s.modScreen k f).chans = s.chans := by cases k <;> rfl
@[simp] theorem modScreen_dets (k : Nat) (f : ScreenRec → ScreenRec) (s : State) : (s.modScreen k f).dets = s.dets := by cases k <;> rfl
@[simp] theorem modScreen_line1 (k : Nat) (f : ScreenRec → ScreenRec) (s : State) : (s.modScreen k f).line1 = s.line1 := by cases k <;> rfl
@[simp] theorem modScreen_line2 (k : Nat) (f : ScreenRec → ScreenRec) (s : State) : (s.modScreen k f).line2 = s.line2 := by cases k <;> rfl
@[simp] theorem modScreen_latestA (k : Nat) (f : ScreenRec → ScreenRec) (s : State) : (s.modScreen k f).latestA = s.latestA := by cases k <;> rfl
@[simp] theorem modScreen_latestB (k : Nat) (f : ScreenRec → ScreenRec) (s : State) : (s.modScreen k f).latestB = s.latestB := by cases k <;> rfl
@[simp] theorem modScreen_satur (k : Nat) (f : ScreenRec → ScreenRec) (s : State) : (s.modScreen k f).satur = s.satur := by cases k <;> rfl
@[simp] theorem modScreen_part (k : Nat) (f : ScreenRec → ScreenRec) (s : State) : (s.modScreen k f).part = s.part := by cases k <;> rfl
@[simp] theorem modScreen_clock (k : Nat) (f : ScreenRec → ScreenRec) (s : State) : (s.modScreen k f).clock = s.clock := by cases k <;> rfl
@[simp] theorem modScreen_profiles (k : Nat) (f : ScreenRec → ScreenRec) (s : State) : (s.modScreen k f).profiles = s.profiles := by cases k <;> rfl
@[simp] theorem modScreen_bookings (k : Nat) (f : ScreenRec → ScreenRec) (s : State) : (s.modScreen k f).bookings = s.bookings := by cases k <;> rfl
@[simp] theorem modScreen_staging (k : Nat) (f : ScreenRec → ScreenRec) (s : State) : (s.modScreen k f).staging = s.staging := by cases k <;> rfl
@[simp] theorem modScreen_pwr (k : Nat) (f : ScreenRec → ScreenRec) (s : State) : (s.modScreen k f).pwr = s.pwr := by cases k <;> rfl
@[simp] theorem modScreen_br0 (k : Nat) (f : ScreenRec → ScreenRec) (s : State) : (s.modScreen k f).br0 = s.br0 := by cases k <;> rfl
@[simp] theorem modScreen_br1 (k : Nat) (f : ScreenRec → ScreenRec) (s : State) : (s.modScreen k f).br1 = s.br1 := by cases k <;> rfl
@[simp] theorem modScreen_test (k : Nat) (f : ScreenRec → ScreenRec) (s : State) : (s.modScreen k f).test = s.test := by cases k <;> rfl
@[simp] theorem modScreen_windowDue (k : Nat) (f : ScreenRec → ScreenRec) (s : State) : (s.modScreen k f).windowDue = s.windowDue := by cases k <;> rfl
@[simp] theorem modScreen_lane0 (k : Nat) (f : ScreenRec → ScreenRec) (s : State) : (s.modScreen k f).lane0 = s.lane0 := by cases k <;> rfl
@[simp] theorem modScreen_lane1 (k : Nat) (f : ScreenRec → ScreenRec) (s : State) : (s.modScreen k f).lane1 = s.lane1 := by cases k <;> rfl
@[simp] theorem modScreen_stamp (k : Nat) (f : ScreenRec → ScreenRec) (s : State) : (s.modScreen k f).stamp = s.stamp := by cases k <;> rfl
@[simp] theorem modScreen_filter (k : Nat) (f : ScreenRec → ScreenRec) (s : State) : (s.modScreen k f).filter = s.filter := by cases k <;> rfl
@[simp] theorem modScreen_cru (k : Nat) (f : ScreenRec → ScreenRec) (s : State) : (s.modScreen k f).cru = s.cru := by cases k <;> rfl

/-! ## modCamera -/

@[simp] theorem modCamera_pending (k : Nat) (f : CameraRec → CameraRec) (s : State) : (s.modCamera k f).pending = s.pending := by cases k <;> rfl
@[simp] theorem modCamera_now (k : Nat) (f : CameraRec → CameraRec) (s : State) : (s.modCamera k f).now = s.now := by cases k <;> rfl
@[simp] theorem modCamera_seats (k : Nat) (f : CameraRec → CameraRec) (s : State) : (s.modCamera k f).seats = s.seats := by cases k <;> rfl
@[simp] theorem modCamera_floorA (k : Nat) (f : CameraRec → CameraRec) (s : State) : (s.modCamera k f).floorA = s.floorA := by cases k <;> rfl
@[simp] theorem modCamera_floorB (k : Nat) (f : CameraRec → CameraRec) (s : State) : (s.modCamera k f).floorB = s.floorB := by cases k <;> rfl
@[simp] theorem modCamera_chans (k : Nat) (f : CameraRec → CameraRec) (s : State) : (s.modCamera k f).chans = s.chans := by cases k <;> rfl
@[simp] theorem modCamera_dets (k : Nat) (f : CameraRec → CameraRec) (s : State) : (s.modCamera k f).dets = s.dets := by cases k <;> rfl
@[simp] theorem modCamera_line1 (k : Nat) (f : CameraRec → CameraRec) (s : State) : (s.modCamera k f).line1 = s.line1 := by cases k <;> rfl
@[simp] theorem modCamera_line2 (k : Nat) (f : CameraRec → CameraRec) (s : State) : (s.modCamera k f).line2 = s.line2 := by cases k <;> rfl
@[simp] theorem modCamera_latestA (k : Nat) (f : CameraRec → CameraRec) (s : State) : (s.modCamera k f).latestA = s.latestA := by cases k <;> rfl
@[simp] theorem modCamera_latestB (k : Nat) (f : CameraRec → CameraRec) (s : State) : (s.modCamera k f).latestB = s.latestB := by cases k <;> rfl
@[simp] theorem modCamera_satur (k : Nat) (f : CameraRec → CameraRec) (s : State) : (s.modCamera k f).satur = s.satur := by cases k <;> rfl
@[simp] theorem modCamera_part (k : Nat) (f : CameraRec → CameraRec) (s : State) : (s.modCamera k f).part = s.part := by cases k <;> rfl
@[simp] theorem modCamera_clock (k : Nat) (f : CameraRec → CameraRec) (s : State) : (s.modCamera k f).clock = s.clock := by cases k <;> rfl
@[simp] theorem modCamera_profiles (k : Nat) (f : CameraRec → CameraRec) (s : State) : (s.modCamera k f).profiles = s.profiles := by cases k <;> rfl
@[simp] theorem modCamera_bookings (k : Nat) (f : CameraRec → CameraRec) (s : State) : (s.modCamera k f).bookings = s.bookings := by cases k <;> rfl
@[simp] theorem modCamera_staging (k : Nat) (f : CameraRec → CameraRec) (s : State) : (s.modCamera k f).staging = s.staging := by cases k <;> rfl
@[simp] theorem modCamera_pwr (k : Nat) (f : CameraRec → CameraRec) (s : State) : (s.modCamera k f).pwr = s.pwr := by cases k <;> rfl
@[simp] theorem modCamera_br0 (k : Nat) (f : CameraRec → CameraRec) (s : State) : (s.modCamera k f).br0 = s.br0 := by cases k <;> rfl
@[simp] theorem modCamera_br1 (k : Nat) (f : CameraRec → CameraRec) (s : State) : (s.modCamera k f).br1 = s.br1 := by cases k <;> rfl
@[simp] theorem modCamera_test (k : Nat) (f : CameraRec → CameraRec) (s : State) : (s.modCamera k f).test = s.test := by cases k <;> rfl
@[simp] theorem modCamera_windowDue (k : Nat) (f : CameraRec → CameraRec) (s : State) : (s.modCamera k f).windowDue = s.windowDue := by cases k <;> rfl
@[simp] theorem modCamera_lane0 (k : Nat) (f : CameraRec → CameraRec) (s : State) : (s.modCamera k f).lane0 = s.lane0 := by cases k <;> rfl
@[simp] theorem modCamera_lane1 (k : Nat) (f : CameraRec → CameraRec) (s : State) : (s.modCamera k f).lane1 = s.lane1 := by cases k <;> rfl
@[simp] theorem modCamera_stamp (k : Nat) (f : CameraRec → CameraRec) (s : State) : (s.modCamera k f).stamp = s.stamp := by cases k <;> rfl
@[simp] theorem modCamera_filter (k : Nat) (f : CameraRec → CameraRec) (s : State) : (s.modCamera k f).filter = s.filter := by cases k <;> rfl
@[simp] theorem modCamera_cru (k : Nat) (f : CameraRec → CameraRec) (s : State) : (s.modCamera k f).cru = s.cru := by cases k <;> rfl

/-! ## modPlate -/

@[simp] theorem modPlate_pending (n : Nat) (f : Plate → Plate) (s : State) : (s.modPlate n f).pending = s.pending := by cases n <;> rfl
@[simp] theorem modPlate_now (n : Nat) (f : Plate → Plate) (s : State) : (s.modPlate n f).now = s.now := by cases n <;> rfl
@[simp] theorem modPlate_seats (n : Nat) (f : Plate → Plate) (s : State) : (s.modPlate n f).seats = s.seats := by cases n <;> rfl
@[simp] theorem modPlate_floorA (n : Nat) (f : Plate → Plate) (s : State) : (s.modPlate n f).floorA = s.floorA := by cases n <;> rfl
@[simp] theorem modPlate_floorB (n : Nat) (f : Plate → Plate) (s : State) : (s.modPlate n f).floorB = s.floorB := by cases n <;> rfl
@[simp] theorem modPlate_chans (n : Nat) (f : Plate → Plate) (s : State) : (s.modPlate n f).chans = s.chans := by cases n <;> rfl
@[simp] theorem modPlate_dets (n : Nat) (f : Plate → Plate) (s : State) : (s.modPlate n f).dets = s.dets := by cases n <;> rfl
@[simp] theorem modPlate_line1 (n : Nat) (f : Plate → Plate) (s : State) : (s.modPlate n f).line1 = s.line1 := by cases n <;> rfl
@[simp] theorem modPlate_line2 (n : Nat) (f : Plate → Plate) (s : State) : (s.modPlate n f).line2 = s.line2 := by cases n <;> rfl
@[simp] theorem modPlate_latestA (n : Nat) (f : Plate → Plate) (s : State) : (s.modPlate n f).latestA = s.latestA := by cases n <;> rfl
@[simp] theorem modPlate_latestB (n : Nat) (f : Plate → Plate) (s : State) : (s.modPlate n f).latestB = s.latestB := by cases n <;> rfl
@[simp] theorem modPlate_satur (n : Nat) (f : Plate → Plate) (s : State) : (s.modPlate n f).satur = s.satur := by cases n <;> rfl
@[simp] theorem modPlate_part (n : Nat) (f : Plate → Plate) (s : State) : (s.modPlate n f).part = s.part := by cases n <;> rfl
@[simp] theorem modPlate_clock (n : Nat) (f : Plate → Plate) (s : State) : (s.modPlate n f).clock = s.clock := by cases n <;> rfl
@[simp] theorem modPlate_profiles (n : Nat) (f : Plate → Plate) (s : State) : (s.modPlate n f).profiles = s.profiles := by cases n <;> rfl
@[simp] theorem modPlate_bookings (n : Nat) (f : Plate → Plate) (s : State) : (s.modPlate n f).bookings = s.bookings := by cases n <;> rfl
@[simp] theorem modPlate_staging (n : Nat) (f : Plate → Plate) (s : State) : (s.modPlate n f).staging = s.staging := by cases n <;> rfl
@[simp] theorem modPlate_pwr (n : Nat) (f : Plate → Plate) (s : State) : (s.modPlate n f).pwr = s.pwr := by cases n <;> rfl
@[simp] theorem modPlate_br0 (n : Nat) (f : Plate → Plate) (s : State) : (s.modPlate n f).br0 = s.br0 := by cases n <;> rfl
@[simp] theorem modPlate_br1 (n : Nat) (f : Plate → Plate) (s : State) : (s.modPlate n f).br1 = s.br1 := by cases n <;> rfl
@[simp] theorem modPlate_test (n : Nat) (f : Plate → Plate) (s : State) : (s.modPlate n f).test = s.test := by cases n <;> rfl
@[simp] theorem modPlate_windowDue (n : Nat) (f : Plate → Plate) (s : State) : (s.modPlate n f).windowDue = s.windowDue := by cases n <;> rfl
@[simp] theorem modPlate_lane0 (n : Nat) (f : Plate → Plate) (s : State) : (s.modPlate n f).lane0 = s.lane0 := by cases n <;> rfl
@[simp] theorem modPlate_lane1 (n : Nat) (f : Plate → Plate) (s : State) : (s.modPlate n f).lane1 = s.lane1 := by cases n <;> rfl
@[simp] theorem modPlate_stamp (n : Nat) (f : Plate → Plate) (s : State) : (s.modPlate n f).stamp = s.stamp := by cases n <;> rfl
@[simp] theorem modPlate_filter (n : Nat) (f : Plate → Plate) (s : State) : (s.modPlate n f).filter = s.filter := by cases n <;> rfl
@[simp] theorem modPlate_cru (n : Nat) (f : Plate → Plate) (s : State) : (s.modPlate n f).cru = s.cru := by cases n <;> rfl

/-! ## modBooking -/

@[simp] theorem modBooking_pending (id : Nat) (f : Booking → Booking) (s : State) : (s.modBooking id f).pending = s.pending := rfl
@[simp] theorem modBooking_now (id : Nat) (f : Booking → Booking) (s : State) : (s.modBooking id f).now = s.now := rfl
@[simp] theorem modBooking_seats (id : Nat) (f : Booking → Booking) (s : State) : (s.modBooking id f).seats = s.seats := rfl
@[simp] theorem modBooking_floorA (id : Nat) (f : Booking → Booking) (s : State) : (s.modBooking id f).floorA = s.floorA := rfl
@[simp] theorem modBooking_floorB (id : Nat) (f : Booking → Booking) (s : State) : (s.modBooking id f).floorB = s.floorB := rfl
@[simp] theorem modBooking_chans (id : Nat) (f : Booking → Booking) (s : State) : (s.modBooking id f).chans = s.chans := rfl
@[simp] theorem modBooking_dets (id : Nat) (f : Booking → Booking) (s : State) : (s.modBooking id f).dets = s.dets := rfl
@[simp] theorem modBooking_line1 (id : Nat) (f : Booking → Booking) (s : State) : (s.modBooking id f).line1 = s.line1 := rfl
@[simp] theorem modBooking_line2 (id : Nat) (f : Booking → Booking) (s : State) : (s.modBooking id f).line2 = s.line2 := rfl
@[simp] theorem modBooking_latestA (id : Nat) (f : Booking → Booking) (s : State) : (s.modBooking id f).latestA = s.latestA := rfl
@[simp] theorem modBooking_latestB (id : Nat) (f : Booking → Booking) (s : State) : (s.modBooking id f).latestB = s.latestB := rfl
@[simp] theorem modBooking_satur (id : Nat) (f : Booking → Booking) (s : State) : (s.modBooking id f).satur = s.satur := rfl
@[simp] theorem modBooking_part (id : Nat) (f : Booking → Booking) (s : State) : (s.modBooking id f).part = s.part := rfl
@[simp] theorem modBooking_clock (id : Nat) (f : Booking → Booking) (s : State) : (s.modBooking id f).clock = s.clock := rfl
@[simp] theorem modBooking_profiles (id : Nat) (f : Booking → Booking) (s : State) : (s.modBooking id f).profiles = s.profiles := rfl
@[simp] theorem modBooking_staging (id : Nat) (f : Booking → Booking) (s : State) : (s.modBooking id f).staging = s.staging := rfl
@[simp] theorem modBooking_sd (id : Nat) (f : Booking → Booking) (s : State) : (s.modBooking id f).sd = s.sd := rfl
@[simp] theorem modBooking_pwr (id : Nat) (f : Booking → Booking) (s : State) : (s.modBooking id f).pwr = s.pwr := rfl
@[simp] theorem modBooking_br0 (id : Nat) (f : Booking → Booking) (s : State) : (s.modBooking id f).br0 = s.br0 := rfl
@[simp] theorem modBooking_br1 (id : Nat) (f : Booking → Booking) (s : State) : (s.modBooking id f).br1 = s.br1 := rfl
@[simp] theorem modBooking_test (id : Nat) (f : Booking → Booking) (s : State) : (s.modBooking id f).test = s.test := rfl
@[simp] theorem modBooking_windowDue (id : Nat) (f : Booking → Booking) (s : State) : (s.modBooking id f).windowDue = s.windowDue := rfl
@[simp] theorem modBooking_lane0 (id : Nat) (f : Booking → Booking) (s : State) : (s.modBooking id f).lane0 = s.lane0 := rfl
@[simp] theorem modBooking_lane1 (id : Nat) (f : Booking → Booking) (s : State) : (s.modBooking id f).lane1 = s.lane1 := rfl
@[simp] theorem modBooking_stamp (id : Nat) (f : Booking → Booking) (s : State) : (s.modBooking id f).stamp = s.stamp := rfl
@[simp] theorem modBooking_filter (id : Nat) (f : Booking → Booking) (s : State) : (s.modBooking id f).filter = s.filter := rfl
@[simp] theorem modBooking_cru (id : Nat) (f : Booking → Booking) (s : State) : (s.modBooking id f).cru = s.cru := rfl

/-! ## modLine -/

@[simp] theorem modLine_pending (l : Nat) (f : LineRec → LineRec) (s : State) : (s.modLine l f).pending = s.pending := by
  unfold modLine; split
  · rfl
  · split <;> rfl
@[simp] theorem modLine_now (l : Nat) (f : LineRec → LineRec) (s : State) : (s.modLine l f).now = s.now := by
  unfold modLine; split
  · rfl
  · split <;> rfl
@[simp] theorem modLine_seats (l : Nat) (f : LineRec → LineRec) (s : State) : (s.modLine l f).seats = s.seats := by
  unfold modLine; split
  · rfl
  · split <;> rfl
@[simp] theorem modLine_floorA (l : Nat) (f : LineRec → LineRec) (s : State) : (s.modLine l f).floorA = s.floorA := by
  unfold modLine; split
  · rfl
  · split <;> rfl
@[simp] theorem modLine_floorB (l : Nat) (f : LineRec → LineRec) (s : State) : (s.modLine l f).floorB = s.floorB := by
  unfold modLine; split
  · rfl
  · split <;> rfl
@[simp] theorem modLine_chans (l : Nat) (f : LineRec → LineRec) (s : State) : (s.modLine l f).chans = s.chans := by
  unfold modLine; split
  · rfl
  · split <;> rfl
@[simp] theorem modLine_dets (l : Nat) (f : LineRec → LineRec) (s : State) : (s.modLine l f).dets = s.dets := by
  unfold modLine; split
  · rfl
  · split <;> rfl
@[simp] theorem modLine_latestA (l : Nat) (f : LineRec → LineRec) (s : State) : (s.modLine l f).latestA = s.latestA := by
  unfold modLine; split
  · rfl
  · split <;> rfl
@[simp] theorem modLine_latestB (l : Nat) (f : LineRec → LineRec) (s : State) : (s.modLine l f).latestB = s.latestB := by
  unfold modLine; split
  · rfl
  · split <;> rfl
@[simp] theorem modLine_satur (l : Nat) (f : LineRec → LineRec) (s : State) : (s.modLine l f).satur = s.satur := by
  unfold modLine; split
  · rfl
  · split <;> rfl
@[simp] theorem modLine_part (l : Nat) (f : LineRec → LineRec) (s : State) : (s.modLine l f).part = s.part := by
  unfold modLine; split
  · rfl
  · split <;> rfl
@[simp] theorem modLine_clock (l : Nat) (f : LineRec → LineRec) (s : State) : (s.modLine l f).clock = s.clock := by
  unfold modLine; split
  · rfl
  · split <;> rfl
@[simp] theorem modLine_profiles (l : Nat) (f : LineRec → LineRec) (s : State) : (s.modLine l f).profiles = s.profiles := by
  unfold modLine; split
  · rfl
  · split <;> rfl
@[simp] theorem modLine_bookings (l : Nat) (f : LineRec → LineRec) (s : State) : (s.modLine l f).bookings = s.bookings := by
  unfold modLine; split
  · rfl
  · split <;> rfl
@[simp] theorem modLine_staging (l : Nat) (f : LineRec → LineRec) (s : State) : (s.modLine l f).staging = s.staging := by
  unfold modLine; split
  · rfl
  · split <;> rfl
@[simp] theorem modLine_sd (l : Nat) (f : LineRec → LineRec) (s : State) : (s.modLine l f).sd = s.sd := by
  unfold modLine; split
  · rfl
  · split <;> rfl
@[simp] theorem modLine_pwr (l : Nat) (f : LineRec → LineRec) (s : State) : (s.modLine l f).pwr = s.pwr := by
  unfold modLine; split
  · rfl
  · split <;> rfl
@[simp] theorem modLine_br0 (l : Nat) (f : LineRec → LineRec) (s : State) : (s.modLine l f).br0 = s.br0 := by
  unfold modLine; split
  · rfl
  · split <;> rfl
@[simp] theorem modLine_br1 (l : Nat) (f : LineRec → LineRec) (s : State) : (s.modLine l f).br1 = s.br1 := by
  unfold modLine; split
  · rfl
  · split <;> rfl
@[simp] theorem modLine_test (l : Nat) (f : LineRec → LineRec) (s : State) : (s.modLine l f).test = s.test := by
  unfold modLine; split
  · rfl
  · split <;> rfl
@[simp] theorem modLine_windowDue (l : Nat) (f : LineRec → LineRec) (s : State) : (s.modLine l f).windowDue = s.windowDue := by
  unfold modLine; split
  · rfl
  · split <;> rfl
@[simp] theorem modLine_lane0 (l : Nat) (f : LineRec → LineRec) (s : State) : (s.modLine l f).lane0 = s.lane0 := by
  unfold modLine; split
  · rfl
  · split <;> rfl
@[simp] theorem modLine_lane1 (l : Nat) (f : LineRec → LineRec) (s : State) : (s.modLine l f).lane1 = s.lane1 := by
  unfold modLine; split
  · rfl
  · split <;> rfl
@[simp] theorem modLine_stamp (l : Nat) (f : LineRec → LineRec) (s : State) : (s.modLine l f).stamp = s.stamp := by
  unfold modLine; split
  · rfl
  · split <;> rfl
@[simp] theorem modLine_filter (l : Nat) (f : LineRec → LineRec) (s : State) : (s.modLine l f).filter = s.filter := by
  unfold modLine; split
  · rfl
  · split <;> rfl
@[simp] theorem modLine_cru (l : Nat) (f : LineRec → LineRec) (s : State) : (s.modLine l f).cru = s.cru := by
  unfold modLine; split
  · rfl
  · split <;> rfl

end State

/-- `forAll` keeps what each of its steps keeps. -/
theorem forAll_keeps {α β : Type} (p : State → β) (f : α → State → State) (h : ∀ a s, p (f a s) = p s) (l : List α)
    (s : State) : p (forAll l f s) = p s := by
  induction l generalizing s with
  | nil => rfl
  | cons a l ih => exact (ih (f a s)).trans (h a s)

end Sys2Proof.Machine
end

