-- ==== Sys2Proof/Laws/Outputs.lean ====
section
/-! SUPPORT. What the shared operations that send messages leave as it was: reports and answers write the lanes and the
console request unit alone (10 R187 to R189), directives the lanes and the screen director (08 R151), the refresh all
three. -/

namespace Sys2Proof.Machine

/-! ## pushOut -/

@[simp] theorem pushOut_pending (b : Branch) (m : OutMsg) (s : State) : (pushOut b m s).pending = s.pending := by unfold pushOut; simp
@[simp] theorem pushOut_now (b : Branch) (m : OutMsg) (s : State) : (pushOut b m s).now = s.now := by unfold pushOut; simp
@[simp] theorem pushOut_seats (b : Branch) (m : OutMsg) (s : State) : (pushOut b m s).seats = s.seats := by unfold pushOut; simp
@[simp] theorem pushOut_floorA (b : Branch) (m : OutMsg) (s : State) : (pushOut b m s).floorA = s.floorA := by unfold pushOut; simp
@[simp] theorem pushOut_floorB (b : Branch) (m : OutMsg) (s : State) : (pushOut b m s).floorB = s.floorB := by unfold pushOut; simp
@[simp] theorem pushOut_chans (b : Branch) (m : OutMsg) (s : State) : (pushOut b m s).chans = s.chans := by unfold pushOut; simp
@[simp] theorem pushOut_dets (b : Branch) (m : OutMsg) (s : State) : (pushOut b m s).dets = s.dets := by unfold pushOut; simp
@[simp] theorem pushOut_line1 (b : Branch) (m : OutMsg) (s : State) : (pushOut b m s).line1 = s.line1 := by unfold pushOut; simp
@[simp] theorem pushOut_line2 (b : Branch) (m : OutMsg) (s : State) : (pushOut b m s).line2 = s.line2 := by unfold pushOut; simp
@[simp] theorem pushOut_latestA (b : Branch) (m : OutMsg) (s : State) : (pushOut b m s).latestA = s.latestA := by unfold pushOut; simp
@[simp] theorem pushOut_latestB (b : Branch) (m : OutMsg) (s : State) : (pushOut b m s).latestB = s.latestB := by unfold pushOut; simp
@[simp] theorem pushOut_satur (b : Branch) (m : OutMsg) (s : State) : (pushOut b m s).satur = s.satur := by unfold pushOut; simp
@[simp] theorem pushOut_part (b : Branch) (m : OutMsg) (s : State) : (pushOut b m s).part = s.part := by unfold pushOut; simp
@[simp] theorem pushOut_clock (b : Branch) (m : OutMsg) (s : State) : (pushOut b m s).clock = s.clock := by unfold pushOut; simp
@[simp] theorem pushOut_profiles (b : Branch) (m : OutMsg) (s : State) : (pushOut b m s).profiles = s.profiles := by unfold pushOut; simp
@[simp] theorem pushOut_bookings (b : Branch) (m : OutMsg) (s : State) : (pushOut b m s).bookings = s.bookings := by unfold pushOut; simp
@[simp] theorem pushOut_staging (b : Branch) (m : OutMsg) (s : State) : (pushOut b m s).staging = s.staging := by unfold pushOut; simp
@[simp] theorem pushOut_sd (b : Branch) (m : OutMsg) (s : State) : (pushOut b m s).sd = s.sd := by unfold pushOut; simp
@[simp] theorem pushOut_pwr (b : Branch) (m : OutMsg) (s : State) : (pushOut b m s).pwr = s.pwr := by unfold pushOut; simp
@[simp] theorem pushOut_br0 (b : Branch) (m : OutMsg) (s : State) : (pushOut b m s).br0 = s.br0 := by unfold pushOut; simp
@[simp] theorem pushOut_br1 (b : Branch) (m : OutMsg) (s : State) : (pushOut b m s).br1 = s.br1 := by unfold pushOut; simp
@[simp] theorem pushOut_test (b : Branch) (m : OutMsg) (s : State) : (pushOut b m s).test = s.test := by unfold pushOut; simp
@[simp] theorem pushOut_windowDue (b : Branch) (m : OutMsg) (s : State) : (pushOut b m s).windowDue = s.windowDue := by unfold pushOut; simp
@[simp] theorem pushOut_stamp (b : Branch) (m : OutMsg) (s : State) : (pushOut b m s).stamp = s.stamp := by unfold pushOut; simp
@[simp] theorem pushOut_filter (b : Branch) (m : OutMsg) (s : State) : (pushOut b m s).filter = s.filter := by unfold pushOut; simp
@[simp] theorem pushOut_cru (b : Branch) (m : OutMsg) (s : State) : (pushOut b m s).cru = s.cru := by unfold pushOut; simp

/-! ## report -/

@[simp] theorem report_pending (k : ReportKind) (body : List Octet) (s : State) : (report k body s).pending = s.pending := by unfold report; split <;> rfl
@[simp] theorem report_now (k : ReportKind) (body : List Octet) (s : State) : (report k body s).now = s.now := by unfold report; split <;> rfl
@[simp] theorem report_seats (k : ReportKind) (body : List Octet) (s : State) : (report k body s).seats = s.seats := by unfold report; split <;> rfl
@[simp] theorem report_floorA (k : ReportKind) (body : List Octet) (s : State) : (report k body s).floorA = s.floorA := by unfold report; split <;> rfl
@[simp] theorem report_floorB (k : ReportKind) (body : List Octet) (s : State) : (report k body s).floorB = s.floorB := by unfold report; split <;> rfl
@[simp] theorem report_chans (k : ReportKind) (body : List Octet) (s : State) : (report k body s).chans = s.chans := by unfold report; split <;> rfl
@[simp] theorem report_dets (k : ReportKind) (body : List Octet) (s : State) : (report k body s).dets = s.dets := by unfold report; split <;> rfl
@[simp] theorem report_line1 (k : ReportKind) (body : List Octet) (s : State) : (report k body s).line1 = s.line1 := by unfold report; split <;> rfl
@[simp] theorem report_line2 (k : ReportKind) (body : List Octet) (s : State) : (report k body s).line2 = s.line2 := by unfold report; split <;> rfl
@[simp] theorem report_latestA (k : ReportKind) (body : List Octet) (s : State) : (report k body s).latestA = s.latestA := by unfold report; split <;> rfl
@[simp] theorem report_latestB (k : ReportKind) (body : List Octet) (s : State) : (report k body s).latestB = s.latestB := by unfold report; split <;> rfl
@[simp] theorem report_satur (k : ReportKind) (body : List Octet) (s : State) : (report k body s).satur = s.satur := by unfold report; split <;> rfl
@[simp] theorem report_part (k : ReportKind) (body : List Octet) (s : State) : (report k body s).part = s.part := by unfold report; split <;> rfl
@[simp] theorem report_clock (k : ReportKind) (body : List Octet) (s : State) : (report k body s).clock = s.clock := by unfold report; split <;> rfl
@[simp] theorem report_profiles (k : ReportKind) (body : List Octet) (s : State) : (report k body s).profiles = s.profiles := by unfold report; split <;> rfl
@[simp] theorem report_bookings (k : ReportKind) (body : List Octet) (s : State) : (report k body s).bookings = s.bookings := by unfold report; split <;> rfl
@[simp] theorem report_staging (k : ReportKind) (body : List Octet) (s : State) : (report k body s).staging = s.staging := by unfold report; split <;> rfl
@[simp] theorem report_sd (k : ReportKind) (body : List Octet) (s : State) : (report k body s).sd = s.sd := by unfold report; split <;> rfl
@[simp] theorem report_pwr (k : ReportKind) (body : List Octet) (s : State) : (report k body s).pwr = s.pwr := by unfold report; split <;> rfl
@[simp] theorem report_br0 (k : ReportKind) (body : List Octet) (s : State) : (report k body s).br0 = s.br0 := by unfold report; split <;> rfl
@[simp] theorem report_br1 (k : ReportKind) (body : List Octet) (s : State) : (report k body s).br1 = s.br1 := by unfold report; split <;> rfl
@[simp] theorem report_test (k : ReportKind) (body : List Octet) (s : State) : (report k body s).test = s.test := by unfold report; split <;> rfl
@[simp] theorem report_windowDue (k : ReportKind) (body : List Octet) (s : State) : (report k body s).windowDue = s.windowDue := by unfold report; split <;> rfl
@[simp] theorem report_stamp (k : ReportKind) (body : List Octet) (s : State) : (report k body s).stamp = s.stamp := by unfold report; split <;> rfl
@[simp] theorem report_filter (k : ReportKind) (body : List Octet) (s : State) : (report k body s).filter = s.filter := by unfold report; split <;> rfl
@[simp] theorem report_lane0 (k : ReportKind) (body : List Octet) (s : State) : (report k body s).lane0 = s.lane0 := by unfold report; split <;> rfl
@[simp] theorem report_lane1 (k : ReportKind) (body : List Octet) (s : State) : (report k body s).lane1 = s.lane1 := by unfold report; split <;> rfl

/-! ## deliver -/

@[simp] theorem deliverReport_pending (r : Report) (s : State) : (deliverReport r s).pending = s.pending := by unfold deliverReport; split <;> (try split) <;> simp
@[simp] theorem deliverReport_now (r : Report) (s : State) : (deliverReport r s).now = s.now := by unfold deliverReport; split <;> (try split) <;> simp
@[simp] theorem deliverReport_seats (r : Report) (s : State) : (deliverReport r s).seats = s.seats := by unfold deliverReport; split <;> (try split) <;> simp
@[simp] theorem deliverReport_floorA (r : Report) (s : State) : (deliverReport r s).floorA = s.floorA := by unfold deliverReport; split <;> (try split) <;> simp
@[simp] theorem deliverReport_floorB (r : Report) (s : State) : (deliverReport r s).floorB = s.floorB := by unfold deliverReport; split <;> (try split) <;> simp
@[simp] theorem deliverReport_chans (r : Report) (s : State) : (deliverReport r s).chans = s.chans := by unfold deliverReport; split <;> (try split) <;> simp
@[simp] theorem deliverReport_dets (r : Report) (s : State) : (deliverReport r s).dets = s.dets := by unfold deliverReport; split <;> (try split) <;> simp
@[simp] theorem deliverReport_line1 (r : Report) (s : State) : (deliverReport r s).line1 = s.line1 := by unfold deliverReport; split <;> (try split) <;> simp
@[simp] theorem deliverReport_line2 (r : Report) (s : State) : (deliverReport r s).line2 = s.line2 := by unfold deliverReport; split <;> (try split) <;> simp
@[simp] theorem deliverReport_latestA (r : Report) (s : State) : (deliverReport r s).latestA = s.latestA := by unfold deliverReport; split <;> (try split) <;> simp
@[simp] theorem deliverReport_latestB (r : Report) (s : State) : (deliverReport r s).latestB = s.latestB := by unfold deliverReport; split <;> (try split) <;> simp
@[simp] theorem deliverReport_satur (r : Report) (s : State) : (deliverReport r s).satur = s.satur := by unfold deliverReport; split <;> (try split) <;> simp
@[simp] theorem deliverReport_part (r : Report) (s : State) : (deliverReport r s).part = s.part := by unfold deliverReport; split <;> (try split) <;> simp
@[simp] theorem deliverReport_clock (r : Report) (s : State) : (deliverReport r s).clock = s.clock := by unfold deliverReport; split <;> (try split) <;> simp
@[simp] theorem deliverReport_profiles (r : Report) (s : State) : (deliverReport r s).profiles = s.profiles := by unfold deliverReport; split <;> (try split) <;> simp
@[simp] theorem deliverReport_bookings (r : Report) (s : State) : (deliverReport r s).bookings = s.bookings := by unfold deliverReport; split <;> (try split) <;> simp
@[simp] theorem deliverReport_staging (r : Report) (s : State) : (deliverReport r s).staging = s.staging := by unfold deliverReport; split <;> (try split) <;> simp
@[simp] theorem deliverReport_sd (r : Report) (s : State) : (deliverReport r s).sd = s.sd := by unfold deliverReport; split <;> (try split) <;> simp
@[simp] theorem deliverReport_pwr (r : Report) (s : State) : (deliverReport r s).pwr = s.pwr := by unfold deliverReport; split <;> (try split) <;> simp
@[simp] theorem deliverReport_br0 (r : Report) (s : State) : (deliverReport r s).br0 = s.br0 := by unfold deliverReport; split <;> (try split) <;> simp
@[simp] theorem deliverReport_br1 (r : Report) (s : State) : (deliverReport r s).br1 = s.br1 := by unfold deliverReport; split <;> (try split) <;> simp
@[simp] theorem deliverReport_test (r : Report) (s : State) : (deliverReport r s).test = s.test := by unfold deliverReport; split <;> (try split) <;> simp
@[simp] theorem deliverReport_windowDue (r : Report) (s : State) : (deliverReport r s).windowDue = s.windowDue := by unfold deliverReport; split <;> (try split) <;> simp
@[simp] theorem deliverReport_stamp (r : Report) (s : State) : (deliverReport r s).stamp = s.stamp := by unfold deliverReport; split <;> (try split) <;> simp
@[simp] theorem deliverReport_filter (r : Report) (s : State) : (deliverReport r s).filter = s.filter := by unfold deliverReport; split <;> (try split) <;> simp

@[simp] theorem deliver_pending (s : State) : (deliver s).pending = s.pending := forAll_keeps (·.pending) _ deliverReport_pending _ _
@[simp] theorem deliver_now (s : State) : (deliver s).now = s.now := forAll_keeps (·.now) _ deliverReport_now _ _
@[simp] theorem deliver_seats (s : State) : (deliver s).seats = s.seats := forAll_keeps (·.seats) _ deliverReport_seats _ _
@[simp] theorem deliver_floorA (s : State) : (deliver s).floorA = s.floorA := forAll_keeps (·.floorA) _ deliverReport_floorA _ _
@[simp] theorem deliver_floorB (s : State) : (deliver s).floorB = s.floorB := forAll_keeps (·.floorB) _ deliverReport_floorB _ _
@[simp] theorem deliver_chans (s : State) : (deliver s).chans = s.chans := forAll_keeps (·.chans) _ deliverReport_chans _ _
@[simp] theorem deliver_dets (s : State) : (deliver s).dets = s.dets := forAll_keeps (·.dets) _ deliverReport_dets _ _
@[simp] theorem deliver_line1 (s : State) : (deliver s).line1 = s.line1 := forAll_keeps (·.line1) _ deliverReport_line1 _ _
@[simp] theorem deliver_line2 (s : State) : (deliver s).line2 = s.line2 := forAll_keeps (·.line2) _ deliverReport_line2 _ _
@[simp] theorem deliver_latestA (s : State) : (deliver s).latestA = s.latestA := forAll_keeps (·.latestA) _ deliverReport_latestA _ _
@[simp] theorem deliver_latestB (s : State) : (deliver s).latestB = s.latestB := forAll_keeps (·.latestB) _ deliverReport_latestB _ _
@[simp] theorem deliver_satur (s : State) : (deliver s).satur = s.satur := forAll_keeps (·.satur) _ deliverReport_satur _ _
@[simp] theorem deliver_part (s : State) : (deliver s).part = s.part := forAll_keeps (·.part) _ deliverReport_part _ _
@[simp] theorem deliver_clock (s : State) : (deliver s).clock = s.clock := forAll_keeps (·.clock) _ deliverReport_clock _ _
@[simp] theorem deliver_profiles (s : State) : (deliver s).profiles = s.profiles := forAll_keeps (·.profiles) _ deliverReport_profiles _ _
@[simp] theorem deliver_bookings (s : State) : (deliver s).bookings = s.bookings := forAll_keeps (·.bookings) _ deliverReport_bookings _ _
@[simp] theorem deliver_staging (s : State) : (deliver s).staging = s.staging := forAll_keeps (·.staging) _ deliverReport_staging _ _
@[simp] theorem deliver_sd (s : State) : (deliver s).sd = s.sd := forAll_keeps (·.sd) _ deliverReport_sd _ _
@[simp] theorem deliver_pwr (s : State) : (deliver s).pwr = s.pwr := forAll_keeps (·.pwr) _ deliverReport_pwr _ _
@[simp] theorem deliver_br0 (s : State) : (deliver s).br0 = s.br0 := forAll_keeps (·.br0) _ deliverReport_br0 _ _
@[simp] theorem deliver_br1 (s : State) : (deliver s).br1 = s.br1 := forAll_keeps (·.br1) _ deliverReport_br1 _ _
@[simp] theorem deliver_test (s : State) : (deliver s).test = s.test := forAll_keeps (·.test) _ deliverReport_test _ _
@[simp] theorem deliver_windowDue (s : State) : (deliver s).windowDue = s.windowDue := forAll_keeps (·.windowDue) _ deliverReport_windowDue _ _
@[simp] theorem deliver_stamp (s : State) : (deliver s).stamp = s.stamp := forAll_keeps (·.stamp) _ deliverReport_stamp _ _
@[simp] theorem deliver_filter (s : State) : (deliver s).filter = s.filter := forAll_keeps (·.filter) _ deliverReport_filter _ _

/-! ## reportIf -/

@[simp] theorem reportIf_pending (c : Bool) (k : ReportKind) (body : List Octet) (s : State) : (reportIf c k body s).pending = s.pending := by unfold reportIf; split <;> simp
@[simp] theorem reportIf_now (c : Bool) (k : ReportKind) (body : List Octet) (s : State) : (reportIf c k body s).now = s.now := by unfold reportIf; split <;> simp
@[simp] theorem reportIf_seats (c : Bool) (k : ReportKind) (body : List Octet) (s : State) : (reportIf c k body s).seats = s.seats := by unfold reportIf; split <;> simp
@[simp] theorem reportIf_floorA (c : Bool) (k : ReportKind) (body : List Octet) (s : State) : (reportIf c k body s).floorA = s.floorA := by unfold reportIf; split <;> simp
@[simp] theorem reportIf_floorB (c : Bool) (k : ReportKind) (body : List Octet) (s : State) : (reportIf c k body s).floorB = s.floorB := by unfold reportIf; split <;> simp
@[simp] theorem reportIf_chans (c : Bool) (k : ReportKind) (body : List Octet) (s : State) : (reportIf c k body s).chans = s.chans := by unfold reportIf; split <;> simp
@[simp] theorem reportIf_dets (c : Bool) (k : ReportKind) (body : List Octet) (s : State) : (reportIf c k body s).dets = s.dets := by unfold reportIf; split <;> simp
@[simp] theorem reportIf_line1 (c : Bool) (k : ReportKind) (body : List Octet) (s : State) : (reportIf c k body s).line1 = s.line1 := by unfold reportIf; split <;> simp
@[simp] theorem reportIf_line2 (c : Bool) (k : ReportKind) (body : List Octet) (s : State) : (reportIf c k body s).line2 = s.line2 := by unfold reportIf; split <;> simp
@[simp] theorem reportIf_latestA (c : Bool) (k : ReportKind) (body : List Octet) (s : State) : (reportIf c k body s).latestA = s.latestA := by unfold reportIf; split <;> simp
@[simp] theorem reportIf_latestB (c : Bool) (k : ReportKind) (body : List Octet) (s : State) : (reportIf c k body s).latestB = s.latestB := by unfold reportIf; split <;> simp
@[simp] theorem reportIf_satur (c : Bool) (k : ReportKind) (body : List Octet) (s : State) : (reportIf c k body s).satur = s.satur := by unfold reportIf; split <;> simp
@[simp] theorem reportIf_part (c : Bool) (k : ReportKind) (body : List Octet) (s : State) : (reportIf c k body s).part = s.part := by unfold reportIf; split <;> simp
@[simp] theorem reportIf_clock (c : Bool) (k : ReportKind) (body : List Octet) (s : State) : (reportIf c k body s).clock = s.clock := by unfold reportIf; split <;> simp
@[simp] theorem reportIf_profiles (c : Bool) (k : ReportKind) (body : List Octet) (s : State) : (reportIf c k body s).profiles = s.profiles := by unfold reportIf; split <;> simp
@[simp] theorem reportIf_bookings (c : Bool) (k : ReportKind) (body : List Octet) (s : State) : (reportIf c k body s).bookings = s.bookings := by unfold reportIf; split <;> simp
@[simp] theorem reportIf_staging (c : Bool) (k : ReportKind) (body : List Octet) (s : State) : (reportIf c k body s).staging = s.staging := by unfold reportIf; split <;> simp
@[simp] theorem reportIf_sd (c : Bool) (k : ReportKind) (body : List Octet) (s : State) : (reportIf c k body s).sd = s.sd := by unfold reportIf; split <;> simp
@[simp] theorem reportIf_pwr (c : Bool) (k : ReportKind) (body : List Octet) (s : State) : (reportIf c k body s).pwr = s.pwr := by unfold reportIf; split <;> simp
@[simp] theorem reportIf_br0 (c : Bool) (k : ReportKind) (body : List Octet) (s : State) : (reportIf c k body s).br0 = s.br0 := by unfold reportIf; split <;> simp
@[simp] theorem reportIf_br1 (c : Bool) (k : ReportKind) (body : List Octet) (s : State) : (reportIf c k body s).br1 = s.br1 := by unfold reportIf; split <;> simp
@[simp] theorem reportIf_test (c : Bool) (k : ReportKind) (body : List Octet) (s : State) : (reportIf c k body s).test = s.test := by unfold reportIf; split <;> simp
@[simp] theorem reportIf_windowDue (c : Bool) (k : ReportKind) (body : List Octet) (s : State) : (reportIf c k body s).windowDue = s.windowDue := by unfold reportIf; split <;> simp
@[simp] theorem reportIf_stamp (c : Bool) (k : ReportKind) (body : List Octet) (s : State) : (reportIf c k body s).stamp = s.stamp := by unfold reportIf; split <;> simp
@[simp] theorem reportIf_filter (c : Bool) (k : ReportKind) (body : List Octet) (s : State) : (reportIf c k body s).filter = s.filter := by unfold reportIf; split <;> simp
@[simp] theorem reportIf_lane0 (c : Bool) (k : ReportKind) (body : List Octet) (s : State) : (reportIf c k body s).lane0 = s.lane0 := by unfold reportIf; split <;> simp
@[simp] theorem reportIf_lane1 (c : Bool) (k : ReportKind) (body : List Octet) (s : State) : (reportIf c k body s).lane1 = s.lane1 := by unfold reportIf; split <;> simp

/-! ## placeAnswer -/

@[simp] theorem placeAnswer_pending (b : Branch) (m : OutMsg) (s : State) : (placeAnswer b m s).pending = s.pending := by unfold placeAnswer; split <;> simp
@[simp] theorem placeAnswer_now (b : Branch) (m : OutMsg) (s : State) : (placeAnswer b m s).now = s.now := by unfold placeAnswer; split <;> simp
@[simp] theorem placeAnswer_seats (b : Branch) (m : OutMsg) (s : State) : (placeAnswer b m s).seats = s.seats := by unfold placeAnswer; split <;> simp
@[simp] theorem placeAnswer_floorA (b : Branch) (m : OutMsg) (s : State) : (placeAnswer b m s).floorA = s.floorA := by unfold placeAnswer; split <;> simp
@[simp] theorem placeAnswer_floorB (b : Branch) (m : OutMsg) (s : State) : (placeAnswer b m s).floorB = s.floorB := by unfold placeAnswer; split <;> simp
@[simp] theorem placeAnswer_chans (b : Branch) (m : OutMsg) (s : State) : (placeAnswer b m s).chans = s.chans := by unfold placeAnswer; split <;> simp
@[simp] theorem placeAnswer_dets (b : Branch) (m : OutMsg) (s : State) : (placeAnswer b m s).dets = s.dets := by unfold placeAnswer; split <;> simp
@[simp] theorem placeAnswer_line1 (b : Branch) (m : OutMsg) (s : State) : (placeAnswer b m s).line1 = s.line1 := by unfold placeAnswer; split <;> simp
@[simp] theorem placeAnswer_line2 (b : Branch) (m : OutMsg) (s : State) : (placeAnswer b m s).line2 = s.line2 := by unfold placeAnswer; split <;> simp
@[simp] theorem placeAnswer_latestA (b : Branch) (m : OutMsg) (s : State) : (placeAnswer b m s).latestA = s.latestA := by unfold placeAnswer; split <;> simp
@[simp] theorem placeAnswer_latestB (b : Branch) (m : OutMsg) (s : State) : (placeAnswer b m s).latestB = s.latestB := by unfold placeAnswer; split <;> simp
@[simp] theorem placeAnswer_satur (b : Branch) (m : OutMsg) (s : State) : (placeAnswer b m s).satur = s.satur := by unfold placeAnswer; split <;> simp
@[simp] theorem placeAnswer_part (b : Branch) (m : OutMsg) (s : State) : (placeAnswer b m s).part = s.part := by unfold placeAnswer; split <;> simp
@[simp] theorem placeAnswer_clock (b : Branch) (m : OutMsg) (s : State) : (placeAnswer b m s).clock = s.clock := by unfold placeAnswer; split <;> simp
@[simp] theorem placeAnswer_profiles (b : Branch) (m : OutMsg) (s : State) : (placeAnswer b m s).profiles = s.profiles := by unfold placeAnswer; split <;> simp
@[simp] theorem placeAnswer_bookings (b : Branch) (m : OutMsg) (s : State) : (placeAnswer b m s).bookings = s.bookings := by unfold placeAnswer; split <;> simp
@[simp] theorem placeAnswer_staging (b : Branch) (m : OutMsg) (s : State) : (placeAnswer b m s).staging = s.staging := by unfold placeAnswer; split <;> simp
@[simp] theorem placeAnswer_sd (b : Branch) (m : OutMsg) (s : State) : (placeAnswer b m s).sd = s.sd := by unfold placeAnswer; split <;> simp
@[simp] theorem placeAnswer_pwr (b : Branch) (m : OutMsg) (s : State) : (placeAnswer b m s).pwr = s.pwr := by unfold placeAnswer; split <;> simp
@[simp] theorem placeAnswer_br0 (b : Branch) (m : OutMsg) (s : State) : (placeAnswer b m s).br0 = s.br0 := by unfold placeAnswer; split <;> simp
@[simp] theorem placeAnswer_br1 (b : Branch) (m : OutMsg) (s : State) : (placeAnswer b m s).br1 = s.br1 := by unfold placeAnswer; split <;> simp
@[simp] theorem placeAnswer_test (b : Branch) (m : OutMsg) (s : State) : (placeAnswer b m s).test = s.test := by unfold placeAnswer; split <;> simp
@[simp] theorem placeAnswer_windowDue (b : Branch) (m : OutMsg) (s : State) : (placeAnswer b m s).windowDue = s.windowDue := by unfold placeAnswer; split <;> simp
@[simp] theorem placeAnswer_stamp (b : Branch) (m : OutMsg) (s : State) : (placeAnswer b m s).stamp = s.stamp := by unfold placeAnswer; split <;> simp
@[simp] theorem placeAnswer_filter (b : Branch) (m : OutMsg) (s : State) : (placeAnswer b m s).filter = s.filter := by unfold placeAnswer; split <;> simp

/-! ## answer -/

@[simp] theorem answer_pending (h : Head) (c : Code) (data : List Octet) (s : State) : (answer h c data s).pending = s.pending := by unfold answer; simp
@[simp] theorem answer_now (h : Head) (c : Code) (data : List Octet) (s : State) : (answer h c data s).now = s.now := by unfold answer; simp
@[simp] theorem answer_seats (h : Head) (c : Code) (data : List Octet) (s : State) : (answer h c data s).seats = s.seats := by unfold answer; simp
@[simp] theorem answer_floorA (h : Head) (c : Code) (data : List Octet) (s : State) : (answer h c data s).floorA = s.floorA := by unfold answer; simp
@[simp] theorem answer_floorB (h : Head) (c : Code) (data : List Octet) (s : State) : (answer h c data s).floorB = s.floorB := by unfold answer; simp
@[simp] theorem answer_chans (h : Head) (c : Code) (data : List Octet) (s : State) : (answer h c data s).chans = s.chans := by unfold answer; simp
@[simp] theorem answer_dets (h : Head) (c : Code) (data : List Octet) (s : State) : (answer h c data s).dets = s.dets := by unfold answer; simp
@[simp] theorem answer_line1 (h : Head) (c : Code) (data : List Octet) (s : State) : (answer h c data s).line1 = s.line1 := by unfold answer; simp
@[simp] theorem answer_line2 (h : Head) (c : Code) (data : List Octet) (s : State) : (answer h c data s).line2 = s.line2 := by unfold answer; simp
@[simp] theorem answer_latestA (h : Head) (c : Code) (data : List Octet) (s : State) : (answer h c data s).latestA = s.latestA := by unfold answer; simp
@[simp] theorem answer_latestB (h : Head) (c : Code) (data : List Octet) (s : State) : (answer h c data s).latestB = s.latestB := by unfold answer; simp
@[simp] theorem answer_satur (h : Head) (c : Code) (data : List Octet) (s : State) : (answer h c data s).satur = s.satur := by unfold answer; simp
@[simp] theorem answer_part (h : Head) (c : Code) (data : List Octet) (s : State) : (answer h c data s).part = s.part := by unfold answer; simp
@[simp] theorem answer_clock (h : Head) (c : Code) (data : List Octet) (s : State) : (answer h c data s).clock = s.clock := by unfold answer; simp
@[simp] theorem answer_profiles (h : Head) (c : Code) (data : List Octet) (s : State) : (answer h c data s).profiles = s.profiles := by unfold answer; simp
@[simp] theorem answer_bookings (h : Head) (c : Code) (data : List Octet) (s : State) : (answer h c data s).bookings = s.bookings := by unfold answer; simp
@[simp] theorem answer_staging (h : Head) (c : Code) (data : List Octet) (s : State) : (answer h c data s).staging = s.staging := by unfold answer; simp
@[simp] theorem answer_sd (h : Head) (c : Code) (data : List Octet) (s : State) : (answer h c data s).sd = s.sd := by unfold answer; simp
@[simp] theorem answer_pwr (h : Head) (c : Code) (data : List Octet) (s : State) : (answer h c data s).pwr = s.pwr := by unfold answer; simp
@[simp] theorem answer_br0 (h : Head) (c : Code) (data : List Octet) (s : State) : (answer h c data s).br0 = s.br0 := by unfold answer; simp
@[simp] theorem answer_br1 (h : Head) (c : Code) (data : List Octet) (s : State) : (answer h c data s).br1 = s.br1 := by unfold answer; simp
@[simp] theorem answer_test (h : Head) (c : Code) (data : List Octet) (s : State) : (answer h c data s).test = s.test := by unfold answer; simp
@[simp] theorem answer_windowDue (h : Head) (c : Code) (data : List Octet) (s : State) : (answer h c data s).windowDue = s.windowDue := by unfold answer; simp
@[simp] theorem answer_stamp (h : Head) (c : Code) (data : List Octet) (s : State) : (answer h c data s).stamp = s.stamp := by unfold answer; simp
@[simp] theorem answer_filter (h : Head) (c : Code) (data : List Octet) (s : State) : (answer h c data s).filter = s.filter := by unfold answer; simp

/-! ## shown -/

@[simp] theorem shown_pending (t : Target) (s : State) : (shown t s).pending = s.pending := by unfold shown; cases t <;> simp
@[simp] theorem shown_now (t : Target) (s : State) : (shown t s).now = s.now := by unfold shown; cases t <;> simp
@[simp] theorem shown_seats (t : Target) (s : State) : (shown t s).seats = s.seats := by unfold shown; cases t <;> simp
@[simp] theorem shown_floorA (t : Target) (s : State) : (shown t s).floorA = s.floorA := by unfold shown; cases t <;> simp
@[simp] theorem shown_floorB (t : Target) (s : State) : (shown t s).floorB = s.floorB := by unfold shown; cases t <;> simp
@[simp] theorem shown_chans (t : Target) (s : State) : (shown t s).chans = s.chans := by unfold shown; cases t <;> simp
@[simp] theorem shown_dets (t : Target) (s : State) : (shown t s).dets = s.dets := by unfold shown; cases t <;> simp
@[simp] theorem shown_line1 (t : Target) (s : State) : (shown t s).line1 = s.line1 := by unfold shown; cases t <;> simp
@[simp] theorem shown_line2 (t : Target) (s : State) : (shown t s).line2 = s.line2 := by unfold shown; cases t <;> simp
@[simp] theorem shown_latestA (t : Target) (s : State) : (shown t s).latestA = s.latestA := by unfold shown; cases t <;> simp
@[simp] theorem shown_latestB (t : Target) (s : State) : (shown t s).latestB = s.latestB := by unfold shown; cases t <;> simp
@[simp] theorem shown_satur (t : Target) (s : State) : (shown t s).satur = s.satur := by unfold shown; cases t <;> simp
@[simp] theorem shown_part (t : Target) (s : State) : (shown t s).part = s.part := by unfold shown; cases t <;> simp
@[simp] theorem shown_clock (t : Target) (s : State) : (shown t s).clock = s.clock := by unfold shown; cases t <;> simp
@[simp] theorem shown_profiles (t : Target) (s : State) : (shown t s).profiles = s.profiles := by unfold shown; cases t <;> simp
@[simp] theorem shown_bookings (t : Target) (s : State) : (shown t s).bookings = s.bookings := by unfold shown; cases t <;> simp
@[simp] theorem shown_staging (t : Target) (s : State) : (shown t s).staging = s.staging := by unfold shown; cases t <;> simp
@[simp] theorem shown_pwr (t : Target) (s : State) : (shown t s).pwr = s.pwr := by unfold shown; cases t <;> simp
@[simp] theorem shown_br0 (t : Target) (s : State) : (shown t s).br0 = s.br0 := by unfold shown; cases t <;> simp
@[simp] theorem shown_br1 (t : Target) (s : State) : (shown t s).br1 = s.br1 := by unfold shown; cases t <;> simp
@[simp] theorem shown_test (t : Target) (s : State) : (shown t s).test = s.test := by unfold shown; cases t <;> simp
@[simp] theorem shown_windowDue (t : Target) (s : State) : (shown t s).windowDue = s.windowDue := by unfold shown; cases t <;> simp
@[simp] theorem shown_lane0 (t : Target) (s : State) : (shown t s).lane0 = s.lane0 := by unfold shown; cases t <;> simp
@[simp] theorem shown_lane1 (t : Target) (s : State) : (shown t s).lane1 = s.lane1 := by unfold shown; cases t <;> simp
@[simp] theorem shown_stamp (t : Target) (s : State) : (shown t s).stamp = s.stamp := by unfold shown; cases t <;> simp
@[simp] theorem shown_filter (t : Target) (s : State) : (shown t s).filter = s.filter := by unfold shown; cases t <;> simp
@[simp] theorem shown_cru (t : Target) (s : State) : (shown t s).cru = s.cru := by unfold shown; cases t <;> simp

/-! ## handOn -/

@[simp] theorem handOn_pending (d : Directive) (s : State) : (handOn d s).pending = s.pending := by
  unfold handOn; dsimp only; split
  · rfl
  · split
    · simp
    · split <;> simp
@[simp] theorem handOn_now (d : Directive) (s : State) : (handOn d s).now = s.now := by
  unfold handOn; dsimp only; split
  · rfl
  · split
    · simp
    · split <;> simp
@[simp] theorem handOn_seats (d : Directive) (s : State) : (handOn d s).seats = s.seats := by
  unfold handOn; dsimp only; split
  · rfl
  · split
    · simp
    · split <;> simp
@[simp] theorem handOn_floorA (d : Directive) (s : State) : (handOn d s).floorA = s.floorA := by
  unfold handOn; dsimp only; split
  · rfl
  · split
    · simp
    · split <;> simp
@[simp] theorem handOn_floorB (d : Directive) (s : State) : (handOn d s).floorB = s.floorB := by
  unfold handOn; dsimp only; split
  · rfl
  · split
    · simp
    · split <;> simp
@[simp] theorem handOn_chans (d : Directive) (s : State) : (handOn d s).chans = s.chans := by
  unfold handOn; dsimp only; split
  · rfl
  · split
    · simp
    · split <;> simp
@[simp] theorem handOn_dets (d : Directive) (s : State) : (handOn d s).dets = s.dets := by
  unfold handOn; dsimp only; split
  · rfl
  · split
    · simp
    · split <;> simp
@[simp] theorem handOn_line1 (d : Directive) (s : State) : (handOn d s).line1 = s.line1 := by
  unfold handOn; dsimp only; split
  · rfl
  · split
    · simp
    · split <;> simp
@[simp] theorem handOn_line2 (d : Directive) (s : State) : (handOn d s).line2 = s.line2 := by
  unfold handOn; dsimp only; split
  · rfl
  · split
    · simp
    · split <;> simp
@[simp] theorem handOn_latestA (d : Directive) (s : State) : (handOn d s).latestA = s.latestA := by
  unfold handOn; dsimp only; split
  · rfl
  · split
    · simp
    · split <;> simp
@[simp] theorem handOn_latestB (d : Directive) (s : State) : (handOn d s).latestB = s.latestB := by
  unfold handOn; dsimp only; split
  · rfl
  · split
    · simp
    · split <;> simp
@[simp] theorem handOn_satur (d : Directive) (s : State) : (handOn d s).satur = s.satur := by
  unfold handOn; dsimp only; split
  · rfl
  · split
    · simp
    · split <;> simp
@[simp] theorem handOn_part (d : Directive) (s : State) : (handOn d s).part = s.part := by
  unfold handOn; dsimp only; split
  · rfl
  · split
    · simp
    · split <;> simp
@[simp] theorem handOn_clock (d : Directive) (s : State) : (handOn d s).clock = s.clock := by
  unfold handOn; dsimp only; split
  · rfl
  · split
    · simp
    · split <;> simp
@[simp] theorem handOn_profiles (d : Directive) (s : State) : (handOn d s).profiles = s.profiles := by
  unfold handOn; dsimp only; split
  · rfl
  · split
    · simp
    · split <;> simp
@[simp] theorem handOn_bookings (d : Directive) (s : State) : (handOn d s).bookings = s.bookings := by
  unfold handOn; dsimp only; split
  · rfl
  · split
    · simp
    · split <;> simp
@[simp] theorem handOn_staging (d : Directive) (s : State) : (handOn d s).staging = s.staging := by
  unfold handOn; dsimp only; split
  · rfl
  · split
    · simp
    · split <;> simp
@[simp] theorem handOn_pwr (d : Directive) (s : State) : (handOn d s).pwr = s.pwr := by
  unfold handOn; dsimp only; split
  · rfl
  · split
    · simp
    · split <;> simp
@[simp] theorem handOn_br0 (d : Directive) (s : State) : (handOn d s).br0 = s.br0 := by
  unfold handOn; dsimp only; split
  · rfl
  · split
    · simp
    · split <;> simp
@[simp] theorem handOn_br1 (d : Directive) (s : State) : (handOn d s).br1 = s.br1 := by
  unfold handOn; dsimp only; split
  · rfl
  · split
    · simp
    · split <;> simp
@[simp] theorem handOn_test (d : Directive) (s : State) : (handOn d s).test = s.test := by
  unfold handOn; dsimp only; split
  · rfl
  · split
    · simp
    · split <;> simp
@[simp] theorem handOn_windowDue (d : Directive) (s : State) : (handOn d s).windowDue = s.windowDue := by
  unfold handOn; dsimp only; split
  · rfl
  · split
    · simp
    · split <;> simp
@[simp] theorem handOn_stamp (d : Directive) (s : State) : (handOn d s).stamp = s.stamp := by
  unfold handOn; dsimp only; split
  · rfl
  · split
    · simp
    · split <;> simp
@[simp] theorem handOn_filter (d : Directive) (s : State) : (handOn d s).filter = s.filter := by
  unfold handOn; dsimp only; split
  · rfl
  · split
    · simp
    · split <;> simp
@[simp] theorem handOn_cru (d : Directive) (s : State) : (handOn d s).cru = s.cru := by
  unfold handOn; dsimp only; split
  · rfl
  · split
    · simp
    · split <;> simp

/-! ## owePlate -/

@[simp] theorem owePlate_pending (n : Nat) (s : State) : (owePlate n s).pending = s.pending := by unfold owePlate; simp only
@[simp] theorem owePlate_now (n : Nat) (s : State) : (owePlate n s).now = s.now := by unfold owePlate; simp only
@[simp] theorem owePlate_seats (n : Nat) (s : State) : (owePlate n s).seats = s.seats := by unfold owePlate; simp only
@[simp] theorem owePlate_floorA (n : Nat) (s : State) : (owePlate n s).floorA = s.floorA := by unfold owePlate; simp only
@[simp] theorem owePlate_floorB (n : Nat) (s : State) : (owePlate n s).floorB = s.floorB := by unfold owePlate; simp only
@[simp] theorem owePlate_chans (n : Nat) (s : State) : (owePlate n s).chans = s.chans := by unfold owePlate; simp only
@[simp] theorem owePlate_dets (n : Nat) (s : State) : (owePlate n s).dets = s.dets := by unfold owePlate; simp only
@[simp] theorem owePlate_line1 (n : Nat) (s : State) : (owePlate n s).line1 = s.line1 := by unfold owePlate; simp only
@[simp] theorem owePlate_line2 (n : Nat) (s : State) : (owePlate n s).line2 = s.line2 := by unfold owePlate; simp only
@[simp] theorem owePlate_latestA (n : Nat) (s : State) : (owePlate n s).latestA = s.latestA := by unfold owePlate; simp only
@[simp] theorem owePlate_latestB (n : Nat) (s : State) : (owePlate n s).latestB = s.latestB := by unfold owePlate; simp only
@[simp] theorem owePlate_satur (n : Nat) (s : State) : (owePlate n s).satur = s.satur := by unfold owePlate; simp only
@[simp] theorem owePlate_part (n : Nat) (s : State) : (owePlate n s).part = s.part := by unfold owePlate; simp only
@[simp] theorem owePlate_clock (n : Nat) (s : State) : (owePlate n s).clock = s.clock := by unfold owePlate; simp only
@[simp] theorem owePlate_profiles (n : Nat) (s : State) : (owePlate n s).profiles = s.profiles := by unfold owePlate; simp only
@[simp] theorem owePlate_bookings (n : Nat) (s : State) : (owePlate n s).bookings = s.bookings := by unfold owePlate; simp only
@[simp] theorem owePlate_staging (n : Nat) (s : State) : (owePlate n s).staging = s.staging := by unfold owePlate; simp only
@[simp] theorem owePlate_pwr (n : Nat) (s : State) : (owePlate n s).pwr = s.pwr := by unfold owePlate; simp only
@[simp] theorem owePlate_br0 (n : Nat) (s : State) : (owePlate n s).br0 = s.br0 := by unfold owePlate; simp only
@[simp] theorem owePlate_br1 (n : Nat) (s : State) : (owePlate n s).br1 = s.br1 := by unfold owePlate; simp only
@[simp] theorem owePlate_test (n : Nat) (s : State) : (owePlate n s).test = s.test := by unfold owePlate; simp only
@[simp] theorem owePlate_windowDue (n : Nat) (s : State) : (owePlate n s).windowDue = s.windowDue := by unfold owePlate; simp only
@[simp] theorem owePlate_lane0 (n : Nat) (s : State) : (owePlate n s).lane0 = s.lane0 := by unfold owePlate; simp only
@[simp] theorem owePlate_lane1 (n : Nat) (s : State) : (owePlate n s).lane1 = s.lane1 := by unfold owePlate; simp only
@[simp] theorem owePlate_stamp (n : Nat) (s : State) : (owePlate n s).stamp = s.stamp := by unfold owePlate; simp only
@[simp] theorem owePlate_filter (n : Nat) (s : State) : (owePlate n s).filter = s.filter := by unfold owePlate; simp only
@[simp] theorem owePlate_cru (n : Nat) (s : State) : (owePlate n s).cru = s.cru := by unfold owePlate; simp only

/-! ## refresh -/

@[simp] theorem refresh_pending (s : State) : (refresh s).pending = s.pending := by unfold refresh; simp only
@[simp] theorem refresh_now (s : State) : (refresh s).now = s.now := by unfold refresh; simp only
@[simp] theorem refresh_seats (s : State) : (refresh s).seats = s.seats := by unfold refresh; simp only
@[simp] theorem refresh_floorA (s : State) : (refresh s).floorA = s.floorA := by unfold refresh; simp only
@[simp] theorem refresh_floorB (s : State) : (refresh s).floorB = s.floorB := by unfold refresh; simp only
@[simp] theorem refresh_chans (s : State) : (refresh s).chans = s.chans := by unfold refresh; simp only
@[simp] theorem refresh_dets (s : State) : (refresh s).dets = s.dets := by unfold refresh; simp only
@[simp] theorem refresh_line1 (s : State) : (refresh s).line1 = s.line1 := by unfold refresh; simp only
@[simp] theorem refresh_line2 (s : State) : (refresh s).line2 = s.line2 := by unfold refresh; simp only
@[simp] theorem refresh_latestA (s : State) : (refresh s).latestA = s.latestA := by unfold refresh; simp only
@[simp] theorem refresh_latestB (s : State) : (refresh s).latestB = s.latestB := by unfold refresh; simp only
@[simp] theorem refresh_satur (s : State) : (refresh s).satur = s.satur := by unfold refresh; simp only
@[simp] theorem refresh_part (s : State) : (refresh s).part = s.part := by unfold refresh; simp only
@[simp] theorem refresh_clock (s : State) : (refresh s).clock = s.clock := by unfold refresh; simp only
@[simp] theorem refresh_profiles (s : State) : (refresh s).profiles = s.profiles := by unfold refresh; simp only
@[simp] theorem refresh_bookings (s : State) : (refresh s).bookings = s.bookings := by unfold refresh; simp only
@[simp] theorem refresh_staging (s : State) : (refresh s).staging = s.staging := by unfold refresh; simp only
@[simp] theorem refresh_pwr (s : State) : (refresh s).pwr = s.pwr := by unfold refresh; simp only
@[simp] theorem refresh_br0 (s : State) : (refresh s).br0 = s.br0 := by unfold refresh; simp only
@[simp] theorem refresh_br1 (s : State) : (refresh s).br1 = s.br1 := by unfold refresh; simp only
@[simp] theorem refresh_test (s : State) : (refresh s).test = s.test := by unfold refresh; simp only
@[simp] theorem refresh_windowDue (s : State) : (refresh s).windowDue = s.windowDue := by unfold refresh; simp only
@[simp] theorem refresh_stamp (s : State) : (refresh s).stamp = s.stamp := by unfold refresh; simp only
@[simp] theorem refresh_filter (s : State) : (refresh s).filter = s.filter := by unfold refresh; simp only

end Sys2Proof.Machine
end

