-- ==== Sys2Proof/Laws/Frames.lean ====
section
/-! SUPPORT. The frames of the shared operations: reports, answers and directives keep the core of the hub; grants,
closes and releases keep the core less what the floor controllers own. -/

namespace Sys2Proof.Machine

/-- A modification that a projection does not see keeps the projected list. -/
theorem map_modify_of_keeps {α β : Type} (g : α → β) (f : α → α) (h : ∀ a, g (f a) = g a) (l : List α) (k : Nat) :
    (l.modify k f).map g = l.map g := by
  induction l generalizing k with
  | nil => cases k <;> rfl
  | cons a l ih => cases k with
    | zero => simp [h]
    | succ k => simp [ih]

/-! ## The core -/

theorem pushOut_core (b : Branch) (m : OutMsg) (s : State) : (pushOut b m s).core = s.core := by
  cases b <;> rfl

theorem report_core (k : ReportKind) (body : List Octet) (s : State) : (report k body s).core = s.core := by
  unfold report
  split <;> rfl

theorem push_inner (r : Report) (c : Cru) : (c.push r).inner = c.inner := by
  unfold Cru.push
  split <;> rfl

theorem deliverReport_core (r : Report) (s : State) : (deliverReport r s).core = s.core := by
  have h : ({ s with cru := s.cru.push r } : State).core = s.core := by
    simp only [State.core, push_inner]
  unfold deliverReport
  split
  · exact h
  · split
    · next d _ _ => cases d with | mk b p => cases b <;> rfl
    · exact h

theorem deliver_core (s : State) : (deliver s).core = s.core :=
  forAll_keeps State.core _ deliverReport_core _ _

theorem reportIf_core (c : Bool) (k : ReportKind) (body : List Octet) (s : State) :
    (reportIf c k body s).core = s.core := by
  unfold reportIf
  split
  · exact report_core k body s
  · rfl

theorem placeAnswer_core (b : Branch) (m : OutMsg) (s : State) : (placeAnswer b m s).core = s.core := by
  unfold placeAnswer
  split
  · exact pushOut_core b m s
  · rfl

theorem answer_core (h : Head) (c : Code) (data : List Octet) (s : State) : (answer h c data s).core = s.core :=
  placeAnswer_core _ _ s

/-- A change of screen records that their written fields and bindings do not show. -/
theorem modScreen_core (k : Nat) (f : ScreenRec → ScreenRec) (h : ∀ r, (f r).inner = r.inner) (s : State) :
    (s.modScreen k f).core = s.core := by
  cases k with
  | zero => rfl
  | succ k => simp only [State.core, State.modScreen, Director.inner, map_modify_of_keeps _ f h]

/-- A change of camera records that their written fields and bindings do not show. -/
theorem modCamera_core (k : Nat) (f : CameraRec → CameraRec) (h : ∀ r, (f r).inner = r.inner) (s : State) :
    (s.modCamera k f).core = s.core := by
  cases k with
  | zero => rfl
  | succ k => simp only [State.core, State.modCamera, Director.inner, map_modify_of_keeps _ f h]

theorem modPlate_core (n : Nat) (f : Plate → Plate) (s : State) : (s.modPlate n f).core = s.core := by
  cases n <;> rfl

theorem owePlate_core (n : Nat) (s : State) : (owePlate n s).core = s.core := rfl

theorem shown_core (t : Target) (s : State) : (shown t s).core = s.core := by
  unfold shown
  split
  · apply modScreen_core
    intro r
    rfl
  all_goals rfl

theorem replaceShow_core (b : Branch) (k : Nat) (m : OutMsg) (s : State) :
    (s.modLane b (fun l => l.replaceShow k m)).core = s.core := by
  cases b <;> rfl

theorem handOn_core (d : Directive) (s : State) : (handOn d s).core = s.core := by
  unfold handOn
  dsimp only
  split
  · rfl
  · split
    · exact (shown_core _ _).trans (replaceShow_core _ _ _ s)
    · split
      · exact (shown_core _ _).trans (pushOut_core _ _ s)
      · rfl

theorem restScreen_core (k : Nat) (p : ScreenPower) (s : State) : (restScreen k p s).core = s.core := by
  have h := modScreen_core k (fun r => { r with power := p, warm := none, unsent := false }) (fun _ => rfl) s
  exact Eq.trans rfl h

theorem sendPower_core (k code : Nat) (s : State) : (sendPower k code s).core = s.core := handOn_core _ s

theorem powerUp_core (k : Nat) (s : State) : (powerUp k s).core = s.core := by
  refine (sendPower_core k 2 _).trans (modScreen_core k _ (fun r => ?_) s)
  split <;> rfl

theorem judgePower_core (k : Nat) (s : State) : (judgePower k s).core = s.core := by
  unfold judgePower
  dsimp only
  split <;> first
    | rfl
    | exact powerUp_core k s
    | exact (sendPower_core _ _ _).trans (restScreen_core _ _ s)

theorem sendShow_core (k : Nat) (s : State) : (sendShow k s).core = s.core := by
  refine (handOn_core _ _).trans ?_
  apply modScreen_core
  intro r
  rfl

theorem paceShow_core (k : Nat) (s : State) : (paceShow k s).core = s.core := by
  unfold paceShow
  split
  · exact sendShow_core k s
  · apply modScreen_core
    intro r
    rfl

theorem refreshScreen_core (came : Bool) (k : Nat) (s : State) : (refreshScreen came k s).core = s.core := by
  unfold refreshScreen
  split
  · refine (modScreen_core k _ (fun r => ?_) _).trans (restScreen_core k .off s)
    dsimp only
    split <;> rfl
  · have h (c : Content) (t : State) : (t.modScreen k (fun r => { r with content := c })).core = t.core := by
      apply modScreen_core
      intro r
      rfl
    dsimp only
    split <;> split <;> simp only [paceShow_core, judgePower_core, h]

theorem drawPlate_core (made : Binding → Bool) (n : Nat) (s : State) : (drawPlate made n s).core = s.core := by
  unfold drawPlate
  dsimp only
  split
  · split
    · rw [handOn_core]
      split
      · rfl
      · exact modPlate_core _ _ s
    · split
      · rfl
      · exact modPlate_core _ _ s
  · split
    · rfl
    · exact modPlate_core _ _ s

theorem refreshPlate_core (n : Nat) (s : State) : (refreshPlate n s).core = s.core := drawPlate_core _ n s

theorem clearPlate_core (n : Nat) (s : State) : (clearPlate n s).core = s.core := drawPlate_core _ n s

theorem aim_core (k preset : Nat) (s : State) : (aim k preset s).core = s.core := handOn_core _ s

theorem restCamera_core (k : Nat) (s : State) : (restCamera k s).core = s.core := by
  have h1 (t : State) : (t.modCamera k (fun c => { c with candidate := none, quiet := 0 })).core = t.core := by
    apply modCamera_core
    intro c
    rfl
  have h2 (x : Option Nat) (t : State) :
      (t.modCamera k (fun c => { c with shot := none, shotStart := x })).core = t.core := by
    apply modCamera_core
    intro c
    rfl
  unfold restCamera
  dsimp only
  split <;> simp only [aim_core, h1, h2]

theorem refreshCamera_core (k : Nat) (s : State) : (refreshCamera k s).core = s.core := by
  have h1 (t : State) : (t.modCamera k (fun c => { c with served := true })).core = t.core := by
    apply modCamera_core
    intro c
    rfl
  have h2 : (s.modCamera k CameraRec.unreached).core = s.core := by
    apply modCamera_core
    intro c
    rfl
  unfold refreshCamera
  dsimp only
  split
  · exact h2
  · split <;> split <;> simp only [aim_core, restCamera_core, h1]

theorem showScreens_core (s : State) : (showScreens s).core = s.core :=
  forAll_keeps State.core _ (refreshScreen_core false) _ _

theorem showFloor_core (f : Floor) (s : State) : (showFloor f s).core = s.core := by
  refine forAll_keeps State.core _ (fun k t => ?_) _ _
  split
  · exact refreshScreen_core false k t
  · rfl

theorem refreshAll_core (s : State) : (refreshAll s).core = s.core := by
  have h : ∀ t : State, ({ t with sd := { t.sd with plateDue := [] } } : State).core = t.core := fun _ => rfl
  unfold refreshAll
  dsimp only
  rw [h, forAll_keeps State.core _ refreshPlate_core, forAll_keeps State.core _ refreshCamera_core,
    showScreens_core]
  rfl

theorem refresh_core (s : State) : (refresh s).core = s.core := by
  have h : (deliver (refreshAll s)).core = s.core := (deliver_core _).trans (refreshAll_core s)
  have h0 : (deliver (refreshAll s)).core.lane0 = s.core.lane0 := by rw [h]
  have h1 : (deliver (refreshAll s)).core.lane1 = s.core.lane1 := by rw [h]
  have h2 : (deliver (refreshAll s)).core.sd = s.core.sd := by rw [h]
  have h3 : (deliver (refreshAll s)).core.cru = s.core.cru := by rw [h]
  simp only [State.core] at h0 h1 h2 h3
  simp only [State.core, refresh, h0, h1, h2, h3]

end Sys2Proof.Machine
end

