-- ==== Sys2Proof/Laws/Floors.lean ====
section
/-! SUPPORT. The frame of the floor controllers (02, 03): what a grant, a close, a hold or a release changes is the
floor states and turns of seats, the four lists of floors, and the outgoing messages. -/

namespace Sys2Proof.Machine

/-- What keeps the core keeps the core less the floor controllers' own. -/
theorem still_of_core {s t : State} (h : t.core = s.core) : t.still = s.still := by
  have hs : t.core.seats = s.core.seats := by rw [h]
  have hA : t.core.floorA = s.core.floorA := by rw [h]
  have hB : t.core.floorB = s.core.floorB := by rw [h]
  simp only [State.core] at hs hA hB
  simp only [State.still, h, hs, hA, hB]

theorem report_still (k : ReportKind) (body : List Octet) (s : State) : (report k body s).still = s.still :=
  still_of_core (report_core k body s)

theorem answer_still (h : Head) (c : Code) (data : List Octet) (s : State) : (answer h c data s).still = s.still :=
  still_of_core (answer_core h c data s)

theorem refresh_still (s : State) : (refresh s).still = s.still := still_of_core (refresh_core s)

theorem keyReport_still (n : Nat) (c : KeyCause) (sub : Option SubCause) (r : Option Refused) (s : State) :
    (keyReport n c sub r s).still = s.still := report_still _ _ s

theorem priorityReport_still (f : Floor) (o : HoldOutcome) (l : Option Level) (n : Option Nat) (r : Option Nat)
    (x : List Octet) (s : State) : (priorityReport f o l n r x s).still = s.still := report_still _ _ s

theorem endedReport_still (f : Floor) (e : HoldEntry) (w : EndReason) (s : State) :
    (endedReport f e w s).still = s.still := report_still _ _ s

theorem turnReport_still (n : Nat) (o : TurnOutcome) (t : Turn) (s : State) :
    (turnReport n o t s).still = s.still := report_still _ _ s

/-- A change of a seat's floor state, displays, turn or count of turns. -/
theorem modSeat_still (n : Nat) (f : SeatRec → SeatRec) (h : ∀ r, (f r).still = r.still) (s : State) :
    (s.modSeat n f).still = s.still := by
  cases n with
  | zero => rfl
  | succ k => simp only [State.still, State.core, State.modSeat, map_modify_of_keeps _ f h]

/-- A change of a floor's lists or idle count. -/
theorem modFloor_still (f : Floor) (g : FloorRec → FloorRec) (h : ∀ r, (g r).still = r.still) (s : State) :
    (s.modFloor f g).still = s.still := by
  cases f <;> simp only [State.still, State.core, State.modFloor, h]

theorem toState_still (st : FloorState) (n : Nat) (s : State) :
    (s.modSeat n (SeatRec.toState st)).still = s.still := by
  apply modSeat_still
  intro r
  rfl

theorem leaveQueue_still (n : Nat) (s : State) : (leaveQueue n s).still = s.still := by
  apply modFloor_still
  intro r
  rfl

theorem becomeSpeaking_still (n : Nat) (t : Turn) (s : State) : (becomeSpeaking n t s).still = s.still := by
  refine (modSeat_still n _ (fun _ => ?_) _).trans (modFloor_still _ _ (fun _ => ?_) s) <;> rfl

theorem grant_still (n : Nat) (c : KeyCause) (s : State) : (grant n c s).still = s.still :=
  (keyReport_still _ _ _ _ _).trans ((becomeSpeaking_still _ _ _).trans (leaveQueue_still n s))

theorem close_still (n : Nat) (c : KeyCause) (sub : Option SubCause) (s : State) :
    (close n c sub s).still = s.still := by
  refine (keyReport_still _ _ _ _ _).trans
    ((modSeat_still n _ (fun _ => ?_) _).trans (modFloor_still _ _ (fun _ => ?_) s)) <;> rfl

theorem dequeue_still (n : Nat) (c : KeyCause) (sub : Option SubCause) (s : State) :
    (dequeue n c sub s).still = s.still :=
  (keyReport_still _ _ _ _ _).trans ((toState_still _ _ _).trans (leaveQueue_still n s))

theorem leaveSuspension_still (n : Nat) (st : FloorState) (s : State) :
    (leaveSuspension n st s).still = s.still := by
  refine (modSeat_still n _ (fun _ => ?_) _).trans (modFloor_still _ _ (fun _ => ?_) s) <;> rfl

theorem endSuspended_still (n : Nat) (c : KeyCause) (sub : Option SubCause) (s : State) :
    (endSuspended n c sub s).still = s.still :=
  (keyReport_still _ _ _ _ _).trans (leaveSuspension_still n .idle s)

theorem grantQueue_still (f : Floor) (c : KeyCause) (k : Nat) (s : State) : (grantQueue f c k s).still = s.still := by
  induction k generalizing s with
  | zero => rfl
  | succ k ih =>
    unfold grantQueue
    split
    · split
      · exact (ih _).trans (grant_still _ c s)
      · rfl
    · rfl

theorem grantVoices_still (f : Floor) (k : Nat) (s : State) : (grantVoices f k s).still = s.still := by
  induction k generalizing s with
  | zero => rfl
  | succ k ih =>
    unfold grantVoices
    split
    · split
      · exact (ih _).trans (grant_still _ _ s)
      · rfl
    · rfl

theorem grantPass_still (f : Floor) (s : State) : (grantPass f s).still = s.still := by
  unfold grantPass
  split
  · split
    · split
      · exact grantQueue_still f _ 8 s
      · rfl
    · exact grantVoices_still f 8 s
    all_goals rfl
  · rfl

theorem refuse_still (n : Nat) (c : KeyCause) (w : Refused) (s : State) : (refuse n c w s).still = s.still := by
  refine (keyReport_still _ _ _ _ _).trans (modSeat_still n _ (fun _ => ?_) s)
  rfl

theorem bump_still (n : Nat) (f : Floor) (s : State) : (bump n f s).still = s.still := by
  unfold bump
  split
  · exact (grant_still _ _ _).trans (close_still _ _ _ s)
  · exact refuse_still _ _ _ s

theorem requestQueued_still (n : Nat) (f : Floor) (s : State) : (requestQueued n f s).still = s.still := by
  unfold requestQueued
  split
  · exact refuse_still _ _ _ s
  · refine (grantPass_still _ _).trans ((keyReport_still _ _ _ _ _).trans ((toState_still _ _ _).trans ?_))
    apply modFloor_still
    intro r
    rfl

theorem request_still (n : Nat) (s : State) : (request n s).still = s.still := by
  unfold request
  dsimp only
  split
  · exact refuse_still _ _ _ s
  · split
    · unfold requestChair
      split
      · exact refuse_still _ _ _ s
      · split
        · exact grant_still _ _ s
        · exact bump_still _ _ s
    · split
      · unfold requestOpen
        split
        · exact refuse_still _ _ _ s
        · split
          · exact grant_still _ _ s
          · split
            · exact refuse_still _ _ _ s
            · exact bump_still _ _ s
      · exact requestQueued_still _ _ s
      · exact requestQueued_still _ _ s
      · exact refuse_still _ _ _ s

/-! ## Holds -/

theorem settleEntry_still (f : Floor) (e : SuspEntry) (d : State × List Nat × List Nat) :
    (settleEntry f e d).1.still = d.1.still := by
  unfold settleEntry
  dsimp only
  split
  · refine (keyReport_still _ _ _ _ _).trans ((becomeSpeaking_still _ _ _).trans ?_)
    apply modFloor_still
    intro r
    rfl
  · exact endSuspended_still _ _ _ _

theorem settle_still (f : Floor) (s : State) : (settle f s).still = s.still := by
  have h (l : List SuspEntry) (d : State × List Nat × List Nat) :
      (l.foldl (fun d e => settleEntry f e d) d).1.still = d.1.still := by
    induction l generalizing d with
    | nil => rfl
    | cons e l ih => exact (ih _).trans (settleEntry_still f e d)
  unfold settle
  exact (grantPass_still _ _).trans ((priorityReport_still _ _ _ _ _ _ _).trans (h _ _))

theorem releaseHolder_still (n : Nat) (s : State) : (releaseHolder n s).still = s.still := by
  apply modSeat_still
  intro r
  split <;> rfl

theorem setStack_still (f : Floor) (l : List HoldEntry) (s : State) :
    (s.modFloor f (fun r => { r with stack := l })).still = s.still := by
  apply modFloor_still
  intro r
  rfl

theorem endEntry_still (n : Nat) (w : EndReason) (f : Floor) (s : State) : (endEntry n w f s).still = s.still := by
  unfold endEntry
  dsimp only
  split
  · rfl
  · split
    · simp only [settle_still, endedReport_still, keyReport_still, setStack_still, releaseHolder_still]
    · rfl
  · split
    · simp only [priorityReport_still, endedReport_still, keyReport_still, setStack_still, releaseHolder_still,
        toState_still]
    · split
      · simp only [endedReport_still, keyReport_still, setStack_still, releaseHolder_still]
      · rfl

theorem endAllEntries_still (w : EndReason) (f : Floor) (s : State) : (endAllEntries w f s).still = s.still := by
  unfold endAllEntries
  simp only [settle_still, forAll_keeps State.still _ (fun e t => endedReport_still f e w t),
    forAll_keeps State.still _ (fun (e : HoldEntry) t => keyReport_still e.holder .priority none none t),
    forAll_keeps State.still _ (fun (e : HoldEntry) t => releaseHolder_still e.holder t), setStack_still]

theorem startHold_still (n : Nat) (e : HoldEntry) (f : Floor) (s : State) : (startHold n e f s).still = s.still := by
  have h (r : SeatRec) : (if r.floorState == .speaking then r.accountTurn else r).still = r.still := by
    split <;> rfl
  unfold startHold
  simp only [priorityReport_still, forAll_keeps State.still _ (fun m t => keyReport_still m .priority none none t),
    toState_still]
  refine (modFloor_still _ _ (fun _ => ?_) _).trans ?_
  · rfl
  · simp only [forAll_keeps State.still _ (fun m t => toState_still .suspended m t)]
    exact modSeat_still _ _ h s

theorem coverHold_still (n : Nat) (e low : HoldEntry) (f : Floor) (s : State) :
    (coverHold n e low f s).still = s.still := by
  have h (t : State) : (t.modSeat low.holder (fun r => (r.toState .priorityWait).accountTurn)).still = t.still := by
    apply modSeat_still
    intro r
    rfl
  unfold coverHold
  simp only [priorityReport_still, keyReport_still, toState_still, h, setStack_still]
  split
  · exact leaveSuspension_still _ _ s
  · rfl

theorem joinBeneath_still (n : Nat) (top e : HoldEntry) (f : Floor) (s : State) :
    (joinBeneath n top e f s).still = s.still := by
  unfold joinBeneath
  simp only [priorityReport_still, keyReport_still, setStack_still]
  split
  · exact leaveSuspension_still _ _ s
  · exact toState_still _ _ s

theorem priorityPress_still (n : Nat) (s : State) : (priorityPress n s).still = s.still := by
  unfold priorityPress
  dsimp only
  split
  · split
    · exact endEntry_still _ _ _ s
    · rfl
  · split
    · refine (priorityReport_still _ _ _ _ _ _ _).trans ?_
      apply modSeat_still
      intro r
      rfl
    · split
      · rfl
      · split
        · exact startHold_still _ _ _ s
        · split
          · exact coverHold_still _ _ _ _ s
          · rfl
        · split
          · exact joinBeneath_still _ _ _ _ s
          · rfl
        · rfl

theorem priorityRelease_still (n : Nat) (s : State) : (priorityRelease n s).still = s.still := by
  unfold priorityRelease
  dsimp only
  split
  · split
    · rfl
    · exact endEntry_still _ _ _ s
  · rfl

theorem nextPress_still (n : Nat) (s : State) : (nextPress n s).still = s.still := by
  unfold nextPress
  dsimp only
  split_ifs
  all_goals first
    | exact refuse_still _ _ _ s
    | (split
       · exact refuse_still _ _ _ s
       · first
         | exact grant_still _ _ s
         | exact refuse_still _ _ _ s)

theorem micLong_still (n : Nat) (s : State) : (micLong n s).still = s.still := by
  unfold micLong
  split
  · exact dequeue_still _ _ _ s
  · rfl

theorem forcedRelease_still (n : Nat) (sub : SubCause) (s : State) : (forcedRelease n sub s).still = s.still := by
  unfold forcedRelease
  dsimp only
  split <;> simp only [grantPass_still, dequeue_still, close_still, endSuspended_still, endEntry_still]

end Sys2Proof.Machine
end

