-- ==== Sys2Proof/Laws/Requests.lean ====
section
/-! SUPPORT. What the end of a meaning, an answer and the handling of a request do (10 R187). -/

namespace Sys2Proof.Machine

theorem finish_next (s t : State) : finish s t = .next { t with pending := s.pending } := rfl

/-- A state whose queue of commands is that of `s` is answered as it is. -/
theorem finish_of_pending (s t : State) (h : t.pending = s.pending) : finish s t = .next t := by
  unfold finish
  rw [← h]

theorem placeAnswer_answers (b : Branch) (m : OutMsg) (s : State) :
    ((placeAnswer b m s).lane b).out.getLast? = some m ∨ (placeAnswer b m s).cru.waiting = some (b, m) := by
  unfold placeAnswer
  split
  · left
    cases b <;> simp [pushOut, State.modLane, State.lane]
  · right
    rfl

/-- An answer is the last message of its branch's queue, or waits in the console request unit. -/
theorem answer_answers (h : Head) (c : Code) (data : List Octet) (s : State) : (answer h c data s).answers h c data :=
  placeAnswer_answers _ _ _

/-- A state with another queue of commands has the same answers. -/
theorem answers_pending (h : Head) (c : Code) (data : List Octet) (q : List Instr) (s : State) :
    ({ s with pending := q } : State).answers h c data ↔ s.answers h c data := by
  unfold State.answers
  cases h with | mk b x y => cases b <;> rfl

theorem core_of_pending (s t : State) (h : t.pending = s.pending) : { t with pending := s.pending } = t := by
  rw [← h]

/-- The common checks of a request, for a console request unit that is busy. -/
theorem handle_busy {α : Type} (h : Head) (i : Instr) (body : Body α) (run : α → State → State × Reply) (s : State)
    (hf : s.cruFree = false) : handle h i body run s = keepRequest h i s := by
  unfold handle
  rw [hf]
  rfl

/-- A request from a node that is not a console is answered REFUSED. -/
theorem handle_stranger {α : Type} (h : Head) (i : Instr) (body : Body α) (run : α → State → State × Reply) (s : State)
    (hf : s.cruFree = true) (hc : s.fromConsole h = false) : handle h i body run s = answer h .refused [] s := by
  unfold handle
  rw [hf, hc]
  rfl

theorem handle_badLength {α : Type} (h : Head) (i : Instr) (run : α → State → State × Reply) (s : State)
    (hr : s.readyFor h) : handle h i .badLength run s = answer h .badLength [] s := by
  unfold handle
  rw [hr.1, hr.2]
  rfl

theorem handle_unknownForm {α : Type} (h : Head) (i : Instr) (run : α → State → State × Reply) (s : State)
    (hr : s.readyFor h) : handle h i .unknownForm run s = answer h .range [] s := by
  unfold handle
  rw [hr.1, hr.2]
  rfl

/-- A request whose block replies at once. -/
theorem handle_now {α : Type} (h : Head) (i : Instr) (a : α) (run : α → State → State × Reply) (s t : State) (c : Code)
    (data : List Octet) (hr : s.readyFor h) (hrun : run a s = (t, .now c data)) :
    handle h i (.fields a) run s = answer h c data (refresh t) := by
  unfold handle
  rw [hr.1, hr.2]
  simp only [hrun, if_true]

/-- A request whose answer follows later. -/
theorem handle_later {α : Type} (h : Head) (i : Instr) (a : α) (run : α → State → State × Reply) (s t : State)
    (hr : s.readyFor h) (hrun : run a s = (t, .later)) : handle h i (.fields a) run s = refresh t := by
  unfold handle
  rw [hr.1, hr.2]
  simp only [hrun, if_true]

/-- A request whose block replies at once ends with that answer, and with the core of what the block made. -/
theorem handle_answersWith {α : Type} (h : Head) (i : Instr) (a : α) (run : α → State → State × Reply) (s t : State)
    (c : Code) (data : List Octet) (hr : s.readyFor h) (hrun : run a s = (t, .now c data))
    (hp : t.pending = s.pending) :
    ∃ u, finish s (handle h i (.fields a) run s) = .next u ∧ answersWith h c data t u := by
  have hh := handle_now h i a run s t c data hr hrun
  refine ⟨answer h c data (refresh t), ?_, answer_answers h c data _, ?_⟩
  · rw [hh]
    exact finish_of_pending _ _ (by simp [hp])
  · rw [answer_core, refresh_core]

/-- A refused request is turned away. -/
theorem handle_refusal {α : Type} (h : Head) (i : Instr) (a : α) (run : α → State → State × Reply) (s : State)
    (c : Code) (hr : s.readyFor h) (hrun : run a s = refusal c s) :
    ∃ u, finish s (handle h i (.fields a) run s) = .next u ∧ turnsAway h c s u :=
  handle_answersWith h i a run s s c [] hr hrun rfl

/-- An accepted request without data. -/
theorem handle_done {α : Type} (h : Head) (i : Instr) (a : α) (run : α → State → State × Reply) (s t : State)
    (hr : s.readyFor h) (hrun : run a s = done t) (hp : t.pending = s.pending) :
    ∃ u, finish s (handle h i (.fields a) run s) = .next u ∧ accepts h t u :=
  handle_answersWith h i a run s t .ok [] hr hrun hp

end Sys2Proof.Machine
end

