-- ==== Sys2Proof/WellFormed.lean ====
section
/-! DEFINITION. The commands that the trunk can bring: every operand within the width that 12 R205 and R206 give it,
every event at a seat, position, channel, screen or camera that exists. -/

namespace Sys2Proof

namespace WellFormed

/-- One octet (12 R205). -/
def octet (n : Nat) : Bool := n ≤ 255
/-- Two octets (12 R205). -/
def two (n : Nat) : Bool := n ≤ 65535
/-- Three octets (12 R205). -/
def three (n : Nat) : Bool := n ≤ 16777215
/-- A gain or level octet, two's complement (12 R205). -/
def level (x : Int) : Bool := -128 ≤ x && x ≤ 127
/-- A gain that may be mute: 0x80 is mute, so the numbers begin at -127 (12 R205). -/
def gain : Gain → Bool
  | .mute => true
  | .db x => -127 ≤ x && x ≤ 127
/-- A text: a length octet and that many octets (12 R205). -/
def text (t : Text) : Bool := octet t.length
/-- A field behind a presence octet. -/
def mark {α : Type} (p : α → Bool) : Mark α → Bool
  | .given a => p a
  | .absent | .bad => true
/-- The fields of a request. -/
def body {α : Type} (p : α → Bool) : Body α → Bool
  | .fields a => p a
  | .badLength | .unknownForm => true

/-- A seat number 1 to 48 (00, "Seats and floors"). -/
def seat (n : Nat) : Bool := 1 ≤ n && n ≤ 48
/-- A position 1 to 24 (09). -/
def position (n : Nat) : Bool := 1 ≤ n && n ≤ 24
/-- A channel 1 to 50: the seats and lines 1 and 2 (04 section 4.1). -/
def channel (n : Nat) : Bool := 1 ≤ n && n ≤ 50
/-- A screen 1 to 8 (08 section 8.1). -/
def screen (n : Nat) : Bool := 1 ≤ n && n ≤ 8
/-- A camera 1 to 4 (08 section 8.3). -/
def camera (n : Nat) : Bool := 1 ≤ n && n ≤ 4

def seatMapEntry (e : SeatMapEntry) : Bool :=
  octet e.seat && octet e.side && level e.trim && octet e.neighbours.length && e.neighbours.all octet

def delegate (d : DelegateArg) : Bool := text d.name && mark two d.allowance

def roster (e : RosterArg) : Bool := octet e.seat && octet e.role && mark delegate e.delegate

def floorSettings (a : FloorSettingsArg) : Bool :=
  mark octet a.mode && mark octet a.openMicLimit && mark octet a.fullPolicy && mark octet a.autoGrant &&
  mark two a.turnLimit && mark octet a.warnLead && mark octet a.expiryAction && mark octet a.priorityStyle &&
  mark octet a.resumePolicy && mark octet a.voiceRelease && mark octet a.presenceRequired && mark octet a.walkinIdle

def gateSettings (a : GateSettingsArg) : Bool :=
  mark octet a.openBand && mark octet a.closeBand && mark two a.hangTime

def mixSettings (a : MixSettingsArg) : Bool :=
  mark gain a.closedGate && mark gain a.priorityDuck && mark gain a.proximityDuck && mark gain a.talkerDuck &&
  mark level a.level

def bookBegin (a : BookBeginArg) : Bool :=
  two a.id && mark text a.title && three a.start && three a.stop && octet a.scope && octet a.profile &&
  octet a.window && octet a.overrun && octet a.n

def layout (a : LayoutArg) : Bool :=
  octet a.states.length && a.states.all octet && octet a.speakers && octet a.hold && octet a.queue &&
  octet a.warning && octet a.layout

def presets (a : PresetSetArg) : Bool :=
  octet a.camera && octet a.entries.length && a.entries.all (fun e => octet e.1 && octet e.2)

end WellFormed

open WellFormed in
/-- A command that the trunk, a pin or the hub's own time can bring. -/
def Instr.wellFormed : Instr → Bool
  | .powerOnReset | .warmReset | .resetAfterAnswer | .linkWindowEnd | .answerPlaced | .reportPlaced
  | .directiveHandedOn | .stagingPartTimeout | .voiceEvaluation | .minuteBoundary | .settleComplete | .pathTestEnd
  | .dimEntry | .trunkLock | .wakeTimeout => true
  | .upFrame _ f => f.slots.length ≤ 24
  | .downFrame _ | .branchUp _ | .branchDown _ | .rollReply _ _ | .rollSilence _ | .relayPlaced _ | .turnOffer _
  | .turnOfferLapse _ | .receptionGapTimeout _ | .outboundMessageSent _ => true
  | .nodeLinkLost _ p | .nodeLinkRecovered _ p | .cardIn _ p _ | .cardOut _ p _ | .cardToPower _ p _ => position p
  | .laneMessageComplete _ p os => position p && 6 ≤ os.length && os.length ≤ 66
  | .requestUnknownKind _ _ => true
  | .seatMap _ b => body (fun es => octet es.length && es.all seatMapEntry) b
  | .checkIn _ b | .closeSeat _ b | .clearQueue _ b | .priorityEnd _ b | .wallMode _ b | .walkinStart _ b
  | .sessionEnd _ b | .statusQueryFloor _ b | .statusQueryBookings _ b | .statusQueryLevels _ b
  | .statusQueryMix _ b | .statusQueryLink _ b | .statusQueryPower _ b => body octet b
  | .rosterEdit _ b => body roster b
  | .floorSet _ b => body (fun a => octet a.floor && floorSettings a.settings) b
  | .grant _ b => body (fun a => octet a.floor && octet a.seat) b
  | .gateSet _ b => body (fun a => octet a.floor && gateSettings a.settings) b
  | .mixSet _ b => body (fun a => octet a.floor && mixSettings a.settings) b
  | .lineSet _ b => body (fun a => octet a.line && mark octet a.assignment && mark level a.trim && mark level a.level) b
  | .clockSet _ b => body (fun a => three a.minute && octet a.second) b
  | .profileSet _ b =>
    body (fun a => octet a.profile && floorSettings a.floor && gateSettings a.gate && mixSettings a.mix &&
      mark octet a.lead) b
  | .bookBegin _ b => body WellFormed.bookBegin b
  | .rosterPart _ b => body (fun es => octet es.length && es.all roster) b
  | .bookAbort _ _ | .reset _ _ | .sleep _ _ | .wake _ _ => true
  | .cancel _ b => body two b
  | .extend _ b => body (fun a => octet a.floor && octet a.minutes) b
  | .screenSet _ b => body (fun a => octet a.screen && mark octet a.floor && mark octet a.warmup) b
  | .layoutSet _ b => body (fun a => octet a.rule && mark layout a.conditions) b
  | .cameraSetCamera _ b =>
    body (fun a => octet a.camera && mark octet a.floor && mark octet a.overview && mark two a.cutDelay &&
      mark octet a.minimumHold && mark octet a.returnDelay) b
  | .cameraSetPreset _ b => body presets b
  | .pathTest _ b => body (fun a => octet a.seat && octet a.duration) b
  | .testInsert _ b => body (fun a => octet a.branch && octet a.position) b
  | .counterSet _ b =>
    body (fun a => octet a.branch && mark (fun ks => octet ks.length && ks.all octet) a.kinds && mark octet a.mode &&
      mark octet a.run) b
  | .filterSet _ b => body (fun a => octet a.entry) b
  | .reportTo _ _ => true
  | .reportSet _ b => body (fun is => is.all (fun a => octet a.kind && mark octet a.enable && mark octet a.edge)) b
  | .statusQuerySeat _ b => body (fun a => octet a.part && octet a.seat) b
  | .powerSet _ b =>
    body (fun a => mark octet a.delay && mark octet a.key && mark octet a.card && mark octet a.wall &&
      mark octet a.console) b
  | .micPress n | .keyLong n _ | .priorityPress n | .priorityRelease n | .nextPress n | .keyToPower n _ _
  | .refusalDisplayEnd n | .turnWarning n | .turnExpiry n | .accountSecond n | .voiceRelease n | .cardFlagLoss n
  | .seeSeatDisplayEnd n | .keyRelease n _ | .overtimeSecond n => seat n
  | .hangExpiry c => channel c
  | .walkinIdleEnd _ | .wallReadingChange _ => true
  | .warmupDone k | .screenFaultChange k _ | .showIntervalEnd k => screen k
  | .cameraCut k | .cameraReturnOverview k | .cameraPriorityCut k => camera k

end Sys2Proof
end

