-- ==== Sys2Proof/Tests/Slice0.lean ====
section
/-! SUPPORT. The author's own tests: ill-formed commands that the check refuses, small concrete states that meet the
hypotheses of each statement with a value of each of its clauses, and worked numbers of the manual. -/

namespace Sys2Proof.Tests
open Sys2Proof.Machine
set_option Elab.async false

/-! ## Small states -/

/-- The console of the tests, at position 23 of branch 0, and a tag. -/
def console : Head := ⟨.b0, 23, 7⟩

/-- A node of a kind code and serial at a position. -/
def node (p k x : Nat) : NodeEntry := newEntry p ⟨BitVec.ofNat 8 k, BitVec.ofNat 48 x, 0⟩

/-- Seat `n` is mapped and bound at position `n` of branch 0. -/
def desk (n : Nat) : State → State :=
  State.modSeat n (fun r => { r with serial := some (BitVec.ofNat 48 (100 + n)), binding := some ⟨.b0, n⟩ })

/-- A room with both branches RUNNING: seats 1 to 4, screen 1, camera 1, a console and a wall sensor on branch 0, line
1 on branch 1. -/
def room : State :=
  desk 4 (desk 3 (desk 2 (desk 1 { State.reset with
    br0 := { Reset.branch with state := .running, table := [node 1 0 101, node 2 0 102, node 3 0 103, node 4 0 104,
      node 21 1 901, node 22 2 951, node 23 5 999, node 24 4 888] }
    br1 := { Reset.branch with state := .running, table := [node 1 3 801] }
    line1 := { Reset.line with serial := some 801, binding := some ⟨.b1, 1⟩ }
    sd := { Reset.director with
      screens := Reset.director.screens.set 0 { Reset.screen with serial := some 901, binding := some ⟨.b0, 21⟩ }
      cameras := Reset.director.cameras.set 0 { Reset.camera with serial := some 951, binding := some ⟨.b0, 22⟩ } } })))

/-- A floor's meeting state. -/
def meet (f : Floor) (m : MeetingState) : State → State := State.modMeeting f (fun r => { r with state := m })

/-- A seat's role. -/
def role (n : Nat) (r : Role) : State → State := State.modSeat n (fun x => { x with role := r })

/-- A seat's floor state. -/
def put (n : Nat) (x : FloorState) : State → State := State.modSeat n (fun r => { r with floorState := x })

/-- A SPEAKING seat with a timer of a number of ms. -/
def speak (n ms : Nat) (s : State) : State :=
  (s.modSeat n (fun r => { r with floorState := .speaking, turn := some ⟨some ms, false, false, 0, 0⟩ })).modFloor
    (s.seatFloor n) (fun r => { r with grantOrder := r.grantOrder ++ [n] })

/-- A QUEUED seat at the tail of its floor's queue. -/
def wait (n : Nat) (s : State) : State :=
  (put n .queued s).modFloor (s.seatFloor n) (fun r => { r with queue := r.queue ++ [n] })

/-- Settings of floor A. -/
def rules (g : FloorSettings → FloorSettings) : State → State :=
  State.modFloor .A (fun r => { r with settings := g r.settings })

/-- A floor mode on floor A. -/
def mode (m : Mode) : State → State := rules (fun x => { x with mode := m })

/-- The room in a walk-in on floor A: seat 1 CHAIR, seat 2 VICE_CHAIR, seat 3 DELEGATE with card 7, seat 4 GUEST. -/
def live : State :=
  meet .A .walkIn (role 1 .chair (role 2 .viceChair (role 4 .guest
    (room.modSeat 3 (fun r => { r with role := .delegate, delegate := some ⟨7, [65], some 60⟩ })))))

/-- A hold of the chair, latched, on floor A. -/
def held : State :=
  (put 1 .priority live).modFloor .A (fun r => { r with stack := [⟨.chair, 1, true⟩] })

/-- A hold of the chair over one of the vice chair, both momentary. -/
def covered : State :=
  (put 2 .priorityWait (put 1 .priority live)).modFloor .A (fun r =>
    { r with stack := [⟨.chair, 1, false⟩, ⟨.vice, 2, false⟩] })

/-- A power state. -/
def power (p : PowerState) (s : State) : State := { s with pwr := { s.pwr with state := p } }

/-- A clock at a minute. -/
def clockAt (m : Nat) (s : State) : State := { s with clock := some ⟨m, 0, 0⟩ }

/-- A booking of floor A with id, start and end. -/
def booked (id start stop : Nat) : Booking :=
  { id := id, title := none, start := start, stop := stop, scope := .A, profile := 0, lead := 10, window := 15,
    overrun := 20, roster := [⟨3, .delegate, none⟩], state := .scheduled, runtime := none, extended := false }

/-- The room at minute 100 with booking 5 from 100 to 160 in the table. -/
def planned : State := { clockAt 100 room with bookings := [booked 5 100 160] }

/-- Floor A runs booking 5 in a meeting state. -/
def running (m : MeetingState) : State :=
  { (meet .A m planned).modMeeting .A (fun r => { r with served := some 5, start := some 100 }) with
    bookings := [{ booked 5 100 160 with state := .active }] }

/-- The wall has been CLOSED for nearly ten seconds. -/
def parting (s : State) : State :=
  let part : PartRec := { s.part with reading := .closed, sampled := .closed, settle := some (.closed, 9999) }
  { s with part := part }

/-! ## Reading the outcomes -/

/-- What the next state satisfies; a stop satisfies nothing. -/
def leads (i : Instr) (s : State) (p : State → Bool) : Bool := match exec i s with
  | .next t => p t
  | .fault _ | .refused _ => false

/-- The code of an answer message. -/
def codeOf : OutMsg → Option Octet
  | .own _ kind payload _ => if kind = 0x10 then payload[1]? else none
  | .relayed _ => none

/-- The code of the last answer in the console's branch. -/
def codeIn (t : State) : Option Octet := (t.lane0.out.filterMap codeOf).getLast?

/-- The request is answered with a code. -/
def told (s : State) (i : Instr) (c : Code) : Bool := leads i s (fun t => codeIn t == some (BitVec.ofNat 8 c.ctorIdx))

/-- Floor A: seat 3 SPEAKING, seat 4 QUEUED, no chair seat in a list but holds. -/
def orderly : State := wait 4 (speak 3 9000 live)

/-! ## Ill-formed commands -/

theorem test_wellFormed_accepts : (Instr.micPress 48).wellFormed = true ∧ (Instr.micPress 1).wellFormed = true ∧
    (Instr.hangExpiry 50).wellFormed = true ∧ (Instr.nodeLinkLost .b0 24).wellFormed = true ∧
    (Instr.warmupDone 8).wellFormed = true ∧ (Instr.cameraCut 4).wellFormed = true ∧
    (Instr.checkIn console (.fields 255)).wellFormed = true := by decide
theorem test_wellFormed_seat : (Instr.micPress 0).wellFormed = false ∧ (Instr.micPress 49).wellFormed = false := by
  decide
theorem test_wellFormed_position :
    (Instr.nodeLinkLost .b0 0).wellFormed = false ∧ (Instr.cardIn .b1 25 1).wellFormed = false := by decide
theorem test_wellFormed_channel : (Instr.hangExpiry 0).wellFormed = false ∧ (Instr.hangExpiry 51).wellFormed = false := by
  decide
theorem test_wellFormed_screen : (Instr.warmupDone 0).wellFormed = false ∧ (Instr.showIntervalEnd 9).wellFormed = false := by
  decide
theorem test_wellFormed_camera : (Instr.cameraCut 0).wellFormed = false ∧ (Instr.cameraCut 5).wellFormed = false := by
  decide
theorem test_wellFormed_slots : (Instr.upFrame .b0 ⟨0x7E, 1, 0, 0, List.replicate 25 none⟩).wellFormed = false := by
  decide
theorem test_wellFormed_message : (Instr.laneMessageComplete .b0 1 [1, 2, 3, 4, 5]).wellFormed = false ∧
    (Instr.laneMessageComplete .b0 1 (List.replicate 67 0)).wellFormed = false := by decide
theorem test_wellFormed_octet : (Instr.checkIn console (.fields 256)).wellFormed = false := by decide
theorem test_wellFormed_two : (Instr.cancel console (.fields 65536)).wellFormed = false := by decide
theorem test_wellFormed_three : (Instr.clockSet console (.fields ⟨16777216, 0⟩)).wellFormed = false := by decide
theorem test_wellFormed_level :
    (Instr.lineSet console (.fields ⟨1, .absent, .absent, .given 128, .absent⟩)).wellFormed = false := by decide
theorem test_wellFormed_gain :
    (Instr.mixSet console (.fields ⟨0, ⟨.given (.db (-128)), .absent, .absent, .absent, .absent⟩⟩)).wellFormed = false := by
  decide
theorem test_wellFormed_text :
    (Instr.rosterEdit console (.fields ⟨1, 1, .given ⟨1, List.replicate 256 65, .absent⟩⟩)).wellFormed = false := by
  decide +kernel
theorem test_wellFormed_list : (Instr.seatMap console (.fields [⟨1, .absent, 0, 0, [256]⟩])).wellFormed = false := by decide

/-! ## Words: the table gives no bits, so no word spells a command -/

theorem test_no_word_spells_a_command :
    decodeTableWord 8 0x21 = none ∧ State.withFetchWord State.reset 8 0x21 = State.reset := by decide +kernel

/-! ## The checks of 12 R207 and the test sequence of 09 R175 -/

theorem test_crc16_check_value : Fmt.crc16 [0x31, 0x32, 0x33, 0x34, 0x35, 0x36, 0x37, 0x38, 0x39] = 0x29B1 := by
  decide +kernel
theorem test_crc8_check_value : Fmt.crc8 [0x31, 0x32, 0x33, 0x34, 0x35, 0x36, 0x37, 0x38, 0x39] = 0xF4 := by
  decide +kernel
theorem test_crc16_of_zero : Fmt.crc16 [0x00] = 0xE1F0 := by decide +kernel
theorem test_sequence_starts_with_2_and_12 :
    (next16 (BitVec.allOnes 15)).2 = 2 ∧ (next16 (next16 (BitVec.allOnes 15)).1).2 = 12 := by decide +kernel
theorem test_predict_follows_the_sequence : predict 2 = 12 := by decide +kernel

/-! ## The mix (05 section 5.4, worked cases) -/

/-- Seats 5 to 7 of the first worked case: bound at positions 5 to 7, seats 5 and 6 SPEAKING with open gates. -/
def mixed : State :=
  let open_ (c : Nat) : State → State := State.modChan c (fun r => { r with gate := .opened })
  let s := { State.reset with br0 := { Reset.branch with state := .running, table :=
    [{ node 5 0 105 with current := 12000 }, { node 6 0 106 with current := BitVec.ofInt 16 (-8000) }, node 7 0 107] } }
  let s := (desk 5 s).modSeat 5 (fun r => { r with floorState := .speaking, trim := 4 })
  let s := (desk 7 (put 6 .speaking (desk 6 s))).modSeat 7 (fun r => { r with neighbours := [6, 8] })
  meet .A .inSession ((open_ 5 (open_ 6 s)).modFloor .A (fun r => { r with mix := { r.mix with level := -20 } }))

/-- Two open gates at 30,000 with trim +6 and level 0 (the saturation case). -/
def loud : State :=
  let s := { mixed with br0 := { mixed.br0 with table :=
    [{ node 5 0 105 with current := 30000 }, { node 6 0 106 with current := 30000 }, node 7 0 107] } }
  let s := (s.modSeat 5 (fun r => { r with trim := 6 })).modSeat 6 (fun r => { r with trim := 6 })
  (s.modSeat 7 (fun r => { r with neighbours := [] })).modFloor .A (fun r => { r with mix := { r.mix with level := 0 } })

/-- The second worked case: a hold of seat 30 on floor B of a split room, with line 2. -/
def split : State :=
  let s := { State.reset with
    part := { Reset.part with partition := .split, target := .split }
    br0 := { Reset.branch with state := .running, table :=
      [{ node 1 0 130 with current := BitVec.ofInt 16 (-10000) }, { node 2 3 802 with current := 20000 }] }
    line2 := { Reset.line with serial := some 802, assignment := .B, binding := some ⟨.b0, 2⟩ } }
  let s := s.modSeat 30 (fun r => { r with floorState := .priority, trim := 2, binding := some ⟨.b0, 1⟩ })
  let s := (s.modSeat 31 (fun r => { r with neighbours := [30, 32] })).modChan 30 (fun r => { r with gate := .opened })
  let s := (s.modChan 50 (fun r => { r with gate := .hang })).modFloor .B (fun r =>
    { r with stack := [⟨.vice, 30, false⟩], mix := { r.mix with talkerDuck := .db (-24) } })
  meet .B .inSession s

theorem test_mix_two_speakers : mixed.output 7 = (2482, true) ∧ mixed.output 5 = (0, true) := by decide +kernel
theorem test_mix_saturates :
    loud.mixValue 7 = 60000 ∧ loud.output 7 = (32767, true) ∧
    leads (.downFrame .b0) loud (fun t => t.satur.getD 6 0 == 1 && t.satur.getD 4 0 == 0) = true := by decide +kernel
theorem test_mix_hold_in_a_split_room :
    split.output 30 = (562, true) ∧ split.output 31 = (251, true) ∧
    split.output 50 = (BitVec.ofInt 16 (-7944), true) ∧ split.output 1 = (0, false) := by decide +kernel
theorem test_gains_clauses : appliedGain [.db 5, .mute, .db 3] = .mute ∧ appliedGain [.db 100, .db 3] = .db 24 ∧
    appliedGain [.db (-100), .db (-21)] = .db (-120) ∧ scale 2048 = 1 ∧ scale 2047 = 0 ∧ scale (-2048) = 0 ∧
    scale (-2049) = -1 := by decide +kernel
theorem test_gains_hypotheses :
    appliedGain (mixed.terms .A 2 7 7) = .mute ∧ appliedGain (mixed.terms .A 2 5 7) = .db (-22) := by decide +kernel
theorem test_factors_at_the_ends : linearFactor (-120) = 4 ∧ linearFactor 24 = 16306 := by decide +kernel

/-- Each row of the conditions of 05 R84, and an own source that another contributor does not share. -/
theorem test_outputs_hypotheses :
    (power .dim mixed).pwr.state ≠ .active ∧ (meet .A .checkIn mixed).live .A = false ∧
    ({ mixed with test := some (newTest 7 ⟨.b0, 7⟩ 5) } : State).underTest 7 = true ∧
    mixed.pwr.state = .active ∧ mixed.live (mixed.chanFloor 7) = true ∧ mixed.underTest 7 = false ∧
    (mixed.seat 5).binding = some ⟨.b0, 5⟩ ∧
    (∀ c ∈ mixed.contributors .A, c ≠ 5 →
      (if c ≤ 48 then (mixed.seat c).binding else (mixed.line (c - 48)).binding) ≠ some ⟨.b0, 5⟩) := by decide +kernel

/-! ## The queue and the common checks -/

theorem test_ready : room.readyFor console ∧ live.readyFor console ∧ planned.readyFor console :=
  ⟨⟨by decide +kernel, by decide +kernel⟩, ⟨by decide +kernel, by decide +kernel⟩, by decide +kernel, by decide +kernel⟩
theorem test_step_empty_queue_due :
    let s : State := { meet .A .walkIn State.reset with windowDue := true }
    s.pending = [] ∧ s.ownCommand = some (.linkWindowEnd, s) := by decide +kernel
theorem test_step_empty_queue_idle : (meet .A .walkIn State.reset).pending = [] ∧
    (meet .A .walkIn State.reset).ownCommand = none := by decide +kernel
theorem test_common_checks_hypotheses :
    room.cruFree = true ∧ room.fromConsole console = true ∧ room.fromConsole ⟨.b0, 1, 7⟩ = false ∧
    requestHead (.micPress 1) = none ∧ requestHead (.wake console .badLength) = some console ∧
    malformed (.wake console .badLength) = some .badLength ∧
    malformed (.cameraSetPreset console .unknownForm) = some .range ∧
    malformed (.requestUnknownKind console 0x60) = some .badKind := by decide +kernel
theorem test_common_checks_clauses :
    told room (.wake console .badLength) .badLength = true ∧
    told room (.cameraSetPreset console .unknownForm) .range = true ∧
    told room (.requestUnknownKind console 0x60) .badKind = true ∧
    told room (.wake ⟨.b0, 1, 7⟩ (.fields ())) .refused = true := by decide +kernel

/-! ## Seats and roster -/

theorem test_requests_wait :
    let s : State := { room with cru := { room.cru with phase := .testFrame .b0 } }
    let t (k : Nat) : State := keepRequest console (.wake console (.fields ())) { s with stamp := k }
    requestHead (.wake console (.fields ())) = some console ∧ s.cruFree = false ∧ (s.lane .b0).places.length = 0 ∧
    leads (.wake console (.fields ())) s (fun u => u.lane0.places.length == 1 && u.stamp == 1 && u.lane0.out == []) = true ∧
    (t 7).nextRequest = none ∧ ({ t 7 with cru := room.cru } : State).requests ≠ [] ∧
    ({ t 7 with cru := room.cru } : State).nextRequest.map (·.1) = some (.wake console (.fields ())) ∧
    room.requests = [] ∧ room.cruFree = true := by decide +kernel
theorem test_tables_whole : TablesWhole room ∧ TablesWhole live ∧ TablesWhole loud := by
  unfold TablesWhole; decide +kernel

/-- One entry of SEAT_MAP. -/
def entry (n : Nat) (x : Mark Serial) (l : List Nat) : SeatMapEntry :=
  { seat := n, serial := x, side := 0, trim := 30, neighbours := l }

theorem test_seatMap_clauses :
    told room (.seatMap console (.fields [])) .range = true ∧
    told room (.seatMap console (.fields (List.replicate 5 (entry 9 .absent [])))) .range = true ∧
    told room (.seatMap console (.fields [entry 49 .absent []])) .range = true ∧
    told room (.seatMap console (.fields [entry 48 .absent []])) .ok = true ∧
    told live (.seatMap console (.fields [entry 1 (.given 199) []])) .locked = true ∧
    told room (.seatMap console (.fields [entry 9 (.given 101) []])) .duplicate = true ∧
    leads (.seatMap console (.fields [entry 9 (.given 104) [8, 9], entry 4 .absent []])) room (fun t =>
      (t.seat 9).binding == some ⟨.b0, 4⟩ && (t.seat 4).binding == none && (t.seat 9).trim == 24 &&
      (t.seat 9).neighbours == [8]) = true := by decide +kernel
theorem test_checkIn_clauses :
    told live (.checkIn console (.fields 0)) .range = true ∧ told live (.checkIn console (.fields 49)) .range = true ∧
    told room (.checkIn console (.fields 48)) .state = true ∧ told live (.checkIn console (.fields 5)) .notFound = true ∧
    told (live.modSeat 1 (fun r => { r with presence := .card })) (.checkIn console (.fields 1)) .already = true ∧
    leads (.checkIn console (.fields 3)) (meet .A .checkIn live) (fun t =>
      codeIn t == some 0 && (t.seat 3).presence == .console && (t.meeting .A).state == .inSession &&
      (t.meeting .A).checkedIn == [3]) = true := by decide +kernel
theorem test_rosterEdit_clauses :
    told live (.rosterEdit console (.fields ⟨1, 5, .absent⟩)) .range = true ∧
    told live (.rosterEdit console (.fields ⟨49, 1, .absent⟩)) .range = true ∧
    told room (.rosterEdit console (.fields ⟨1, 1, .absent⟩)) .state = true ∧
    told live (.rosterEdit console (.fields ⟨4, 4, .absent⟩)) .roster = true ∧
    leads (.rosterEdit console (.fields ⟨4, 2, .given ⟨9, [66], .given 1⟩⟩)) live (fun t =>
      codeIn t == some 0 && (t.seat 4).role == .delegate && (t.seat 4).delegate == some ⟨9, [66], some 60⟩) = true := by
  decide +kernel
theorem test_rosterEdit_locked : told (meet .A .inSession live) (.rosterEdit console (.fields ⟨4, 2, .absent⟩)) .locked = true := by
  decide +kernel
theorem test_rosterEdit_releases :
    leads (.rosterEdit console (.fields ⟨3, 0, .absent⟩)) orderly (fun t => (t.seat 3).floorState == .idle &&
      t.floorA.grantOrder == [4] && (t.seat 3).accTurns == 1) = true ∧
    leads (.rosterEdit console (.fields ⟨4, 3, .absent⟩)) (role 2 .guest orderly) (fun t => (t.seat 4).floorState == .idle &&
      t.floorA.queue == [] && (t.seat 4).accTurns == 0) = true ∧
    leads (.rosterEdit console (.fields ⟨1, 1, .absent⟩)) held (fun t => (t.seat 1).floorState == .idle &&
      t.floorA.stack == [] && (t.seat 1).accTurns == 1) = true ∧
    leads (.rosterEdit console (.fields ⟨3, 2, .given ⟨7, [66], .given 60⟩⟩))
      (orderly.modSeat 3 (fun x => { x with accSeconds := 70 })) (fun t =>
      (t.seat 3).floorState == .speaking && (t.seat 3).delegate == some ⟨7, [66], some 60⟩) = true := by decide +kernel

/-! ## Floors -/

/-- No floor setting, no gate setting, no mix setting is present. -/
def noFloor : FloorSettingsArg :=
  ⟨.absent, .absent, .absent, .absent, .absent, .absent, .absent, .absent, .absent, .absent, .absent, .absent⟩
def noGate : GateSettingsArg := ⟨.absent, .absent, .absent⟩
def noMix : MixSettingsArg := ⟨.absent, .absent, .absent, .absent, .absent⟩

/-- Seat 1 CHAIR, seats 3 and 4 SPEAKING, seat 2 QUEUED. -/
def busy : State := wait 2 (speak 4 5000 (speak 3 9000 live))

theorem test_lists_placed : ListsPlaced live ∧ ListsPlaced busy ∧ ListsPlaced held ∧ ListsPlaced covered :=
  ⟨fun f => by cases f <;> decide +kernel, fun f => by cases f <;> decide +kernel,
   fun f => by cases f <;> decide +kernel, fun f => by cases f <;> decide +kernel⟩
theorem test_seats_stand_once : SeatsStandOnce orderly ∧ SeatsStandOnce held ∧ SeatsStandOnce covered := by
  refine ⟨⟨?_, fun f => ?_⟩, ⟨?_, fun f => ?_⟩, ⟨?_, fun f => ?_⟩⟩
  all_goals first
    | (unfold State.standsOnce; decide +kernel)
    | (cases f <;> refine ⟨by decide +kernel, by decide +kernel, fun e rest h => ?_, by decide +kernel⟩ <;> cases h <;>
        exact ⟨by decide +kernel, by decide +kernel⟩)
theorem test_orderly_ready : orderly.readyFor console ∧ TablesWhole orderly ∧ ListsPlaced orderly := by
  refine ⟨by unfold State.readyFor; decide +kernel, by unfold TablesWhole; decide +kernel, fun f => ?_⟩
  cases f <;> decide +kernel
theorem test_busy_ready : busy.readyFor console ∧ held.readyFor console ∧ covered.readyFor console ∧
    TablesWhole busy := by
  unfold State.readyFor TablesWhole; decide +kernel
theorem test_floorSet_clauses :
    told busy (.floorSet console (.fields ⟨2, noFloor⟩)) .range = true ∧
    told busy (.floorSet console (.fields ⟨0, noFloor⟩)) .range = true ∧
    told busy (.floorSet console (.fields ⟨0, { noFloor with mode := .given 4 }⟩)) .range = true ∧
    told busy (.floorSet console (.fields ⟨1, { noFloor with mode := .given 3 }⟩)) .state = true ∧
    leads (.floorSet console (.fields
        ⟨0, { noFloor with mode := .given 0, openMicLimit := .given 0, turnLimit := .given 9 }⟩)) busy (fun t =>
      codeIn t == some 0 && t.floorA.settings.mode == .openMic && t.floorA.settings.openMicLimit == 1 &&
      t.floorA.settings.turnLimit == 10 && t.floorA.grantOrder == [3] && t.floorA.queue == []) = true := by
  decide +kernel
theorem test_floorSet_mode_clauses :
    let to_ (k : Nat) : Instr := .floorSet console (.fields ⟨0, { noFloor with mode := .given k }⟩)
    let s : State := speak 1 9 busy
    leads (to_ 3) s (fun t => t.floorA.grantOrder == [1] && t.floorA.queue == [2] && (t.seat 3).floorState == .idle &&
      (t.seat 3).accTurns == 1 && (t.seat 4).accTurns == 1 && (t.seat 1).accTurns == 0) = true ∧
    leads (to_ 3) (mode .voice (s.modSeat 1 (fun r => { r with release := some 7 }))) (fun t =>
      t.floorA.grantOrder == [1] && (t.seat 1).release == none) = true ∧
    leads (to_ 2) s (fun t => t.floorA.grantOrder == [3, 4, 1] && (t.seat 4).release == some 0 &&
      t.floorA.queue == []) = true ∧
    leads (to_ 3) (put 3 .suspended (held.modFloor .A (fun r => { r with susp := [⟨3, startTurn 0⟩] }))) (fun t =>
      t.floorA.susp == [] && (t.seat 3).accTurns == 1 && t.floorA.stack == held.floorA.stack) = true := by
  decide +kernel
theorem test_floorSet_taken_clauses :
    let set (a : FloorSettingsArg) (s : State) (q : State → Bool) : Bool := leads (.floorSet console (.fields ⟨0, a⟩)) s q
    let to_ (k : Nat) : FloorSettingsArg := { noFloor with mode := .given k }
    let lists (g w : List Nat) (t : State) : Bool := t.floorA.grantOrder == g && t.floorA.queue == w
    let speaker (r : Option Nat) (s : State) : State := mode .voice (s.modSeat 3 (fun x => { x with release := r }))
    let both : State := speak 4 5000 (speak 3 9000 live)
    set (to_ 0) orderly (fun t => lists [3, 4] [] t && (t.seat 4).turn == some (startTurn 0)) = true ∧
    set { to_ 0 with openMicLimit := .given 1 } orderly (fun t =>
      lists [3] [] t && (t.seat 4).floorState == .idle && (t.seat 4).accTurns == 0) = true ∧
    set (to_ 0) (wait 4 held) (fun t => lists [] [] t && (t.seat 4).floorState == .idle) = true ∧
    set (to_ 1) (speaker (some 7) orderly) (fun t => lists [3, 4] [] t && (t.seat 3).release == none) = true ∧
    set { noFloor with autoGrant := .given 0 } orderly (lists [3] [4]) = true ∧
    set { noFloor with autoGrant := .given 1 } (rules (fun x => { x with autoGrant := false }) orderly) (lists [3, 4] []) = true ∧
    set { noFloor with openMicLimit := .given 1 } both (fun t =>
      lists [3] [] t && (t.seat 4).floorState == .idle && (t.seat 4).accTurns == 1) = true ∧
    set { noFloor with openMicLimit := .given 1 } (mode .chairOnly (wait 2 both)) (lists [3] [2]) = true ∧
    set { noFloor with voiceRelease := .given 1 } (speaker (some 1000) both) (fun t =>
      lists [4] [] t && (t.seat 3).floorState == .idle && (t.seat 3).accTurns == 1) = true ∧
    set { noFloor with voiceRelease := .given 1 } (speaker (some 999) both) (fun t =>
      lists [3, 4] [] t && (t.seat 3).release == some 999) = true ∧
    set { to_ 2 with openMicLimit := .given 1, voiceRelease := .given 1 } orderly (fun t =>
      lists [3] [] t && (t.seat 3).release == some 0 && (t.seat 4).floorState == .idle) = true := by decide +kernel
theorem test_grant_clauses :
    let s := rules (fun x => { x with autoGrant := false }) busy
    told s (.grant console (.fields ⟨2, 0⟩)) .range = true ∧ told s (.grant console (.fields ⟨0, 49⟩)) .range = true ∧
    told (mode .voice busy) (.grant console (.fields ⟨0, 0⟩)) .state = true ∧
    told s (.grant console (.fields ⟨0, 1⟩)) .notQueued = true ∧
    told (rules (fun x => { x with openMicLimit := 2 }) s) (.grant console (.fields ⟨0, 2⟩)) .full = true ∧
    leads (.grant console (.fields ⟨0, 0⟩)) (rules (fun x => { x with turnLimit := 10 }) s) (fun t =>
      codeIn t == some 0 && (t.seat 2).floorState == .speaking && t.floorA.grantOrder == [3, 4, 2] &&
      (t.seat 2).turn == some ⟨some 10000, false, false, 0, 0⟩) = true := by decide +kernel
theorem test_closeSeat_clauses :
    told busy (.closeSeat console (.fields 49)) .range = true ∧
    told room (.closeSeat console (.fields 1)) .state = true ∧
    told held (.closeSeat console (.fields 1)) .state = true ∧
    told covered (.closeSeat console (.fields 2)) .state = true ∧
    told busy (.closeSeat console (.fields 1)) .already = true ∧
    leads (.closeSeat console (.fields 2)) busy (fun t => (t.seat 2).floorState == .idle && t.floorA.queue == []) = true ∧
    leads (.closeSeat console (.fields 3)) (rules (fun x => { x with autoGrant := false }) busy) (fun t =>
      (t.seat 3).floorState == .idle && (t.seat 3).accTurns == 1 && t.floorA.grantOrder == [4]) = true ∧
    leads (.closeSeat console (.fields 3))
      (held.modFloor .A (fun r => { r with susp := [⟨3, startTurn 0⟩] }) |> put 3 .suspended) (fun t =>
      (t.seat 3).floorState == .idle && (t.seat 3).accTurns == 1 && t.floorA.susp == []) = true := by decide +kernel
theorem test_clearQueue_clauses :
    told busy (.clearQueue console (.fields 2)) .range = true ∧ told busy (.clearQueue console (.fields 1)) .state = true ∧
    leads (.clearQueue console (.fields 0)) busy (fun t => codeIn t == some 0 && (t.seat 2).floorState == .idle &&
      t.floorA.queue == [] && t.floorA.grantOrder == [3, 4]) = true := by decide +kernel
theorem test_priorityEnd_clauses :
    told busy (.priorityEnd console (.fields 2)) .range = true ∧
    told busy (.priorityEnd console (.fields 1)) .state = true ∧
    told busy (.priorityEnd console (.fields 0)) .already = true ∧
    leads (.priorityEnd console (.fields 0)) covered (fun t => codeIn t == some 0 && t.floorA.stack == [] &&
      (t.seat 1).floorState == .idle && (t.seat 2).floorState == .idle && (t.seat 2).accTurns == 0) = true := by
  decide +kernel

/-! ## Settings, lines, partition and clock -/

theorem test_gateSet_clauses :
    told live (.gateSet console (.fields ⟨0, noGate⟩)) .range = true ∧
    told live (.gateSet console (.fields ⟨1, { noGate with openBand := .given 22 }⟩)) .state = true ∧
    leads (.gateSet console (.fields ⟨0, { noGate with openBand := .given 255, hangTime := .given 99 }⟩)) live (fun t =>
      codeIn t == some 0 && t.floorA.gate == ⟨22, 23, 100⟩) = true := by decide +kernel
theorem test_mixSet_clauses :
    told live (.mixSet console (.fields ⟨0, noMix⟩)) .range = true ∧
    told live (.mixSet console (.fields ⟨1, { noMix with level := .given 0 }⟩)) .state = true ∧
    leads (.mixSet console (.fields ⟨0, { noMix with closedGate := .given .mute, level := .given (-81) }⟩)) live (fun t =>
      codeIn t == some 0 && t.floorA.mix.closedGate == .mute && t.floorA.mix.level == -80) = true := by decide +kernel
theorem test_profileSet_clauses :
    told live (.profileSet console (.fields ⟨8, noFloor, noGate, noMix, .given 1⟩)) .range = true ∧
    told live (.profileSet console (.fields ⟨7, noFloor, noGate, noMix, .absent⟩)) .range = true ∧
    leads (.profileSet console (.fields ⟨7, noFloor, noGate, noMix, .given 31⟩)) live (fun t =>
      codeIn t == some 0 && (t.profile 7).lead == 30) = true := by decide +kernel
theorem test_lineSet_clauses :
    told room (.lineSet console (.fields ⟨3, .absent, .given 0, .absent, .absent⟩)) .range = true ∧
    told room (.lineSet console (.fields ⟨2, .given (.given 801), .absent, .absent, .absent⟩)) .duplicate = true ∧
    leads (.lineSet console (.fields ⟨1, .absent, .given 1, .given 25, .given (-81)⟩)) room (fun t =>
      codeIn t == some 0 && t.line1 == { room.line1 with assignment := .B, trim := 24, level := -80 }) = true ∧
    leads (.lineSet console (.fields ⟨1, .given .absent, .absent, .absent, .absent⟩)) room (fun t =>
      t.line1 == { room.line1 with serial := none, binding := none }) = true ∧
    leads (.lineSet console (.fields ⟨2, .given (.given 803), .absent, .absent, .absent⟩))
      { room with br1 := { room.br1 with table := room.br1.table ++ [node 2 3 803] } } (fun t =>
      t.line2.binding == some ⟨.b1, 2⟩ && t.chans == room.chans) = true := by decide +kernel
theorem test_partition_law : PartitionLaw room ∧ PartitionLaw live := by unfold PartitionLaw; decide +kernel
theorem test_wallMode_clauses :
    told room (.wallMode console (.fields 3)) .range = true ∧
    leads (.wallMode console (.fields 0)) room (fun t => codeIn t == some 0 && t.part == room.part) = true ∧
    leads (.wallMode console (.fields 2)) room (fun t => t.part.mode == .forceSplit && t.part.partition == .split &&
      t.part.cause == some .console) = true ∧
    leads (.wallMode console (.fields 2)) live (fun t => t.part.target == .split && t.part.partition == .combined) = true ∧
    leads (.wallMode console (.fields 1)) room (fun t => t.part.mode == .forceCombined && t.part.cause == none) = true ∧
    leads (.wallMode console (.fields 0)) { room with part := { room.part with mode := .forceSplit, reading := .closed } }
      (fun t => t.part.settle == some (.closed, 0)) = true := by decide +kernel
theorem test_clockSet_clauses :
    told room (.clockSet console (.fields ⟨0, 60⟩)) .range = true ∧
    told room (.clockSet console (.fields ⟨16777216, 0⟩)) .range = true ∧
    leads (.clockSet console (.fields ⟨16777215, 59⟩)) room (fun t =>
      codeIn t == some 0 && t.clock == some ⟨16777215, 59, 0⟩) = true := by decide +kernel
theorem test_minuteBoundary_clauses :
    leads .minuteBoundary room (fun t => t.clock == none) = true ∧
    leads .minuteBoundary (clockAt 16777215 room) (fun t => t.clock == some ⟨16777215, 0, 0⟩) = true ∧
    leads .minuteBoundary (clockAt 16777214 (room.modBr .b0 (fun r =>
        { r with counter := { r.counter with auto := true, value := 9 } }))) (fun t =>
      t.clock == some ⟨16777215, 0, 0⟩ && t.br0.counter.value == 0) = true := by decide +kernel
theorem test_millisecond_moves :
    let s := (clockAt 100 orderly).modSeat 3 (fun r => { r with accSeconds := 4, accRem := 999 })
    let t := moveOn (s.modEntry ⟨.b0, 1⟩ (fun e => { e with status := some (0x80, 0) }))
    TablesWhole s ∧ (t.seat 3).turn = some ⟨some 8999, false, false, 0, 0⟩ ∧ ((t.seat 3).accSeconds, (t.seat 3).accRem) = (5, 0) ∧
    (t.detectors 1).mic.window.getLastD false = true ∧ (t.detectors 2).mic.window.getLastD true = false ∧
    t.clock = some ⟨100, 0, 1⟩ ∧ (t.meeting .A).idleRem = 0 ∧ t.pwr.idleRem = 0 ∧
    ((moveOn live).meeting .A).idleRem = 1 ∧ (moveOn room).pwr.idleRem = 1 := by
  unfold TablesWhole; decide +kernel
theorem test_millisecond_ends :
    let late : Turn := ⟨some 0, true, true, 7, 999⟩
    let last (s : State) : State := { s with clock := some ⟨9, 59, 999⟩, pwr := { s.pwr with idle := 4, idleRem := 999 } }
    ((moveOn (busy.modSeat 3 (fun r => { r with turn := some late }))).seat 3).turn = some ⟨some 0, true, true, 8, 0⟩ ∧
    (moveOn (last room)).clock = some ⟨9, 59, 1000⟩ ∧ (moveOn (last room)).pwr.idle = 5 ∧
    let wall : State := parting (room.modEntry ⟨.b0, 24⟩ (fun e => { e with status := some (0, 1) }))
    let sensed : State := { wall with part := { wall.part with source := some ⟨.b0, 24⟩ } }
    sensed.wallSample = sensed.part.reading ∧ (moveOn sensed).part.settle = some (.closed, 10000) := by decide +kernel

theorem test_millisecond_moves_counts :
    let s : State := { live with
      now := 999, staging := .failed 7 (booked 5 100 160) .roster 1999
      test := some { newTest 2 ⟨.b0, 2⟩ 5 with elapsed := 4999 }
      br1 := { Reset.branch with state := .enumerating, silence := 49, roll := some ⟨3, false, 0, 19, []⟩ } }
    let t := moveOn ((((s.modSeat 3 (fun r => { r with refusal := some 1999, presence := .card, cardClear := 1999 })).modPlate 3
      (fun x => { x with see := some 4, count := 9999 })).modScreen 1 (fun r => { r with warm := some (4, 5) })).modEntry
      ⟨.b0, 21⟩ (fun e => { e with fault := true }))
    (t.seat 3).refusal = some 2000 ∧ (t.seat 3).cardClear = 2000 ∧ (t.plate 3).count = 10000 ∧ (t.plate 4).count = 0 ∧
    (t.screen 1).warm = some (5, 5) ∧ t.staging = .failed 7 (booked 5 100 160) .roster 2000 ∧ t.windowDue = true ∧
    t.test.map (·.elapsed) = some 5000 ∧ t.br1.silence = 50 ∧ t.br1.roll.map (·.wait) = some 20 ∧
    (t.entry? ⟨.b0, 21⟩).map (·.faultTaken) = some true ∧
    let idle (n : Nat) : State := { room with pwr := { room.pwr with idle := n, idleRem := 999 } }
    let alone (n : Nat) : State := live.modMeeting .A (fun m => { m with idle := n, idleRem := 999 })
    (moveOn (idle 898)).pwr.dimDue = false ∧ (moveOn (idle 899)).pwr.dimDue = true ∧
    ((moveOn (alone 1198)).meeting .A).idleDue = false ∧ ((moveOn (alone 1199)).meeting .A).idleDue = true ∧
    (moveOn room).windowDue = false := by decide +kernel

/-- The room with no event due of its own. -/
def still : State := { room with part := { room.part with source := none } }

/-- A message of the report queue that waits for a place. -/
def reporting (s : State) : State :=
  { s with cru := { s.cru with address := some ⟨.b0, 23⟩, reports := [⟨.key, 0, [1]⟩] } }

theorem test_due_at_its_limit :
    let held (n : Nat) : Detector :=
      { window := List.replicate 20 true, pressed := true, held := some n, longGiven := false }
    let window (n : Nat) (x : Bool) : Detector :=
      { Reset.detector with window := List.replicate (20 - n) false ++ List.replicate n true, pressed := x }
    let mic (d : Detector) (s : State) : State := s.modDets 1 (fun x => { x with mic := d })
    let full (n : Nat) (r : BranchRec) : BranchRec := { r with state := .enumerating, fullCount := n }
    let wakes (n : Nat) : State := { power .waking still with
      now := 600, br0 := full 16 still.br0, br1 := full n still.br1
      pwr := { still.pwr with state := .waking, progress := .started, start := some 101 } }
    let screen (g : ScreenRec → ScreenRec) : State := State.modScreen 1 g (meet .A .walkIn { still with now := 249 })
    still.nextDue = none ∧
    ((mic (window 18 false) still).nextDue = some (.micPress 1) ∧ (mic (window 17 false) still).nextDue = none ∧
      (mic (window 2 true) still).nextDue = some (.keyRelease 1 .mic) ∧ (mic (window 3 true) still).nextDue = none ∧
      (mic (held 1500) still).nextDue = some (.keyLong 1 .mic) ∧ (mic (held 1499) still).nextDue = none ∧
      (mic (window 18 false) (power .dim still)).nextDue = some (.keyToPower 1 .mic .press)) ∧
    ((still.modBr .b1 (fun r => { r with silence := 50 })).nextDue = some (.branchDown .b1) ∧
      (still.modBr .b1 (fun r => { r with silence := 49 })).nextDue = none ∧
      (State.reset.modBr .b1 (fun r => { r with upCount := 16 })).nextDue = some (.branchUp .b1) ∧
      (State.reset.modBr .b1 (fun r => { r with upCount := 15 })).nextDue = none ∧
      (still.modBr .b1 (fun r => { r with state := .enumerating, roll := some ⟨1, false, 0, 20, []⟩ })).nextDue =
        some (.rollSilence .b1)) ∧
    ({ still with part := { still.part with sampled := .moving } }.nextDue = some (.wallReadingChange .moving) ∧
      { still with part := { still.part with settle := some (.closed, 10000) } }.nextDue = some .settleComplete ∧
      { still with part := { still.part with settle := some (.closed, 9999) } }.nextDue = none) ∧
    ((still.modSeat 48 (fun r => { r with refusal := some 2000 })).nextDue = some (.refusalDisplayEnd 48) ∧
      (still.modSeat 48 (fun r => { r with refusal := some 1999 })).nextDue = none ∧
      (still.modPlate 3 (fun x => { x with see := some 4, count := 10000 })).nextDue = some (.seeSeatDisplayEnd 3) ∧
      (still.modPlate 3 (fun x => { x with see := some 4, count := 9999 })).nextDue = none ∧
      (still.modSeat 1 (fun r => { r with presence := .card, cardClear := 2000 })).nextDue = some (.cardFlagLoss 1) ∧
      (still.modSeat 1 (fun r => { r with presence := .card, cardClear := 1999 })).nextDue = none) ∧
    ({ still with clock := some ⟨9, 59, 1000⟩ }.nextDue = some .minuteBoundary ∧
      { still with clock := some ⟨16777215, 59, 1000⟩ }.nextDue = none ∧
      ((meet .B .walkIn still).modMeeting .B (fun m => { m with idle := 1, idleDue := true })).nextDue =
        some (.walkinIdleEnd .B) ∧
      { still with staging := .staging 7 (booked 5 100 160) 1 2000 }.nextDue = some .stagingPartTimeout ∧
      { still with staging := .staging 7 (booked 5 100 160) 1 1999 }.nextDue = none) ∧
    ((screen (fun r => { r with power := .warming, warm := some (2000, 2) })).nextDue = some (.warmupDone 1) ∧
      (screen (fun r => { r with power := .warming, warm := some (1999, 2) })).nextDue = none ∧
      (screen (fun r => { r with power := .fault })).nextDue = some (.screenFaultChange 1 false) ∧
      { screen (fun r => { r with power := .on, unsent := true, lastShow := some 0 }) with now := 250 }.nextDue =
        some (.showIntervalEnd 1) ∧
      (screen (fun r => { r with power := .on, unsent := true, lastShow := some 0 })).nextDue = none) ∧
    ({ still with test := some { newTest 2 ⟨.b0, 2⟩ 5 with elapsed := 5000 } }.nextDue = some .pathTestEnd ∧
      { still with test := some { newTest 2 ⟨.b0, 2⟩ 5 with elapsed := 4999 } }.nextDue = none ∧
      (wakes 16).nextDue = some .trunkLock ∧ (wakes 15).nextDue = none ∧
      { wakes 15 with now := 601 }.nextDue = some .wakeTimeout ∧
      { still with pwr := { still.pwr with idle := 900, dimDue := true } }.nextDue = some .dimEntry) ∧
    (reporting still).nextDue = some .reportPlaced ∧
    { reporting still with cru := { (reporting still).cru with phase := .resetDue } }.nextDue = some .resetAfterAnswer := by
  decide +kernel
theorem test_due_is_its_rule :
    ({ still with windowDue := true } : State).due .linkWindowEnd ∧
    (still.modSeat 48 (fun r => { r with refusal := some 2000 })).due (.refusalDisplayEnd 48) ∧
    ({ still with part := { still.part with sampled := .moving } } : State).due (.wallReadingChange .moving) ∧
    (State.reset.modBr .b1 (fun r => { r with upCount := 16 })).due (.branchUp .b1) := by
  refine ⟨rfl, ⟨by decide, by decide +kernel⟩, ⟨rfl, by decide +kernel⟩, ⟨by decide +kernel, by decide +kernel⟩⟩

/-! ## Bookings and meetings -/

/-- BOOK_BEGIN's fields for floor A, with id, start, end and number of roster entries. -/
def wish (id start stop n : Nat) : BookBeginArg := ⟨id, .absent, start, stop, 0, 0, 15, 20, n⟩

/-- The planned room, well before its booking. -/
def calm : State := clockAt 50 planned

/-- The calm room with the console's staging of booking 6 with two entries announced and one received. -/
def staged : State := { calm with staging := .staging 23 (booked 6 200 260) 2 700 }

/-- The calm room with another console's staging. -/
def strange : State := { calm with staging := .staging 24 (booked 6 200 260) 2 700 }

/-- A roster entry as ROSTER_PART brings it. -/
def part (n : Nat) : RosterArg := ⟨n, 2, .absent⟩

theorem test_bookBegin_clauses :
    told strange (.bookBegin console (.fields (wish 6 200 260 2))) .busy = true ∧
    told room (.bookBegin console (.fields (wish 6 200 260 2))) .state = true ∧
    told calm (.bookBegin console (.fields (wish 0 200 260 2))) .range = true ∧
    told calm (.bookBegin console (.fields (wish 6 49 90 2))) .past = true ∧
    told calm (.bookBegin console (.fields (wish 5 200 260 2))) .duplicate = true ∧
    told calm (.bookBegin console (.fields (wish 6 159 260 2))) .conflict = true ∧
    told calm (.bookBegin console (.fields (wish 6 160 220 0))) .booked = true ∧
    leads (.bookBegin console (.fields (wish 6 160 220 1))) staged (fun t => codeIn t == some 1 &&
      t.staging.source? == some 23 && t.poolInUse == 2) = true := by decide +kernel
theorem test_bookBegin_limits :
    told { calm with bookings := List.replicate 64 (booked 5 100 160) }
      (.bookBegin console (.fields (wish 6 160 220 2))) .full = true ∧
    told { calm with bookings := List.replicate 16 { booked 5 100 160 with roster := List.replicate 48 ⟨3, .guest, none⟩ } }
      (.bookBegin console (.fields (wish 6 160 220 1))) .noRoom = true ∧
    told { calm with bookings := List.replicate 16 { booked 5 100 160 with roster := List.replicate 48 ⟨3, .guest, none⟩ } }
      (.bookBegin console (.fields (wish 6 160 220 0))) .booked = true := by decide +kernel
theorem test_rosterPart_clauses :
    told calm (.rosterPart console (.fields [part 1])) .state = true ∧
    told strange (.rosterPart console (.fields [part 1])) .busy = true ∧
    told staged (.rosterPart console (.fields [])) .range = true ∧
    told { calm with staging := .staging 23 { booked 6 200 260 with roster := [] } 9 0 }
      (.rosterPart console (.fields ((List.range' 1 9).map part))) .range = true ∧
    told staged (.rosterPart console (.fields [part 1])) .booked = true ∧
    told staged (.rosterPart console (.fields [part 3])) .roster = true ∧
    told { staged with bookings := [booked 5 200 260] } (.rosterPart console (.fields [part 1])) .conflict = true ∧
    told { calm with staging := .failed 23 (booked 6 200 260) .range 700 } (.rosterPart console (.fields [])) .range = true ∧
    leads (.rosterPart console (.fields [part 1])) { calm with staging := .staging 23 (booked 6 200 260) 3 700 }
      (fun t => codeIn t == some 2 && t.staging == .staging 23
        { booked 6 200 260 with roster := [⟨3, .delegate, none⟩, ⟨1, .delegate, none⟩] } 3 0) = true := by decide +kernel
theorem test_bookAbort_clauses :
    told planned (.bookAbort console (.fields ())) .already = true ∧
    told strange (.bookAbort console (.fields ())) .busy = true ∧
    leads (.bookAbort console (.fields ())) staged (fun t => codeIn t == some 0 && t.staging == .idle) = true := by
  decide +kernel
theorem test_cancel_clauses :
    told planned (.cancel console (.fields 0)) .range = true ∧ told planned (.cancel console (.fields 6)) .notFound = true ∧
    leads (.cancel console (.fields 5)) planned (fun t => codeIn t == some 0 && t.bookings == []) = true ∧
    leads (.cancel console (.fields 5)) (running .inSession) (fun t => codeIn t == some 0 && t.bookings == [] &&
      (t.meeting .A).state == .vacant) = true := by decide +kernel
theorem test_extend_clauses :
    let s := running .overrun
    s.readyFor console ∧
    told s (.extend console (.fields ⟨2, 15⟩)) .range = true ∧ told s (.extend console (.fields ⟨0, 14⟩)) .range = true ∧
    told s (.extend console (.fields ⟨0, 121⟩)) .range = true ∧ told planned (.extend console (.fields ⟨0, 15⟩)) .state = true ∧
    told { s with bookings := [booked 5 100 16777201] } (.extend console (.fields ⟨0, 15⟩)) .range = true ∧
    told (running .checkIn) (.extend console (.fields ⟨0, 15⟩)) .state = true ∧
    told { s with bookings := [{ booked 5 100 160 with extended := true }] } (.extend console (.fields ⟨0, 15⟩)) .already = true ∧
    told (clockAt 175 s) (.extend console (.fields ⟨0, 15⟩)) .past = true ∧
    told { s with bookings := s.bookings ++ [booked 6 174 200] } (.extend console (.fields ⟨0, 15⟩)) .conflict = true ∧
    leads (.extend console (.fields ⟨0, 120⟩)) s (fun t => codeIn t == some 0 &&
      (t.booking? 5).map (·.stop) == some 280 && (t.meeting .A).state == .inSession) = true := by
  unfold State.readyFor; decide +kernel

/-- A booking held since its start minute. -/
def waiting : State := { planned with bookings := [{ booked 5 100 160 with state := .held }] }

/-- A booking of the combined room while the room is split. -/
def splitPlan : State :=
  let part : PartRec := { planned.part with partition := .split, target := .split }
  { planned with part := part, bookings := [{ booked 5 100 160 with scope := .combined }] }

theorem test_judgeBooking_clauses :
    TablesWhole planned ∧ planned.booking? 5 = some (booked 5 100 160) ∧
    (judgeBooking insideChange 5 (clockAt 160 planned)).booking? 5 = none ∧
    (judgeBooking insideChange 5 (clockAt 115 waiting)).booking? 5 = none ∧
    ((judgeBooking insideChange 5 (clockAt 114 (meet .A .inSession waiting))).booking? 5).map (·.state) = some .held ∧
    ((judgeBooking insideChange 5 (clockAt 89 planned)).booking? 5).map (·.state) = some .scheduled ∧
    ((judgeBooking insideChange 5 (clockAt 90 planned)).meeting .A).state = .preparing ∧
    ((judgeBooking insideChange 5 planned).meeting .A).state = .checkIn ∧
    ((judgeBooking insideChange 5 (clockAt 99 (meet .A .walkIn planned))).meeting .A).state = .walkIn ∧
    ((judgeBooking insideChange 5 (meet .A .walkIn planned)).meeting .A).state = .checkIn ∧
    ((judgeBooking insideChange 5 splitPlan).booking? 5).map (·.state) = some .held := by
  unfold TablesWhole; decide +kernel
theorem test_judge_preparing_clauses :
    let s := running .preparing
    s.preparingFloor 5 = some .A ∧ (judgeBooking insideChange 5 (clockAt 160 s)).booking? 5 = none ∧
    ((judgeBooking insideChange 5 (clockAt 89 s)).booking? 5).map (·.state) = some .scheduled ∧
    ((judgeBooking insideChange 5 (clockAt 100 s)).meeting .A).state = .checkIn ∧ judgeBooking insideChange 5 (clockAt 99 s) = clockAt 99 s := by
  decide +kernel
theorem test_judgeFloor_clauses :
    (((running .checkIn).meeting .A).served.bind (running .checkIn).booking?).isSome = true ∧
    ((judgeFloor insideChange .A (clockAt 115 (running .checkIn))).meeting .A).state = .vacant ∧
    ((judgeFloor insideChange .A (clockAt 114 (running .checkIn))).meeting .A).state = .checkIn ∧
    ((judgeFloor insideChange .A (clockAt 155 (running .inSession))).meeting .A).endWarning = true ∧
    ((judgeFloor insideChange .A (clockAt 154 (running .inSession))).meeting .A).endWarning = false ∧
    ((judgeFloor insideChange .A (clockAt 160 (running .inSession))).meeting .A).deadline = some 180 ∧
    ((judgeFloor insideChange .A (clockAt 180 (running .inSession))).meeting .A).state = .vacant ∧
    ((judgeFloor insideChange .A (clockAt 179 (running .overrun))).meeting .A).state = .overrun ∧
    ((judgeFloor insideChange .A (clockAt 180 (running .overrun))).meeting .A).state = .vacant := by decide +kernel

/-- Floor A of a combined room runs booking 5 at its last minute, and the wall asks for a split room. -/
def dividing : State :=
  let s := clockAt 180 (running .overrun)
  { s with part := { s.part with target := .split } }

theorem test_target_applied_in_a_pass :
    (endInPass atOnce .A .ended dividing).part.partition = .split ∧
    (endInPass atOnce .A .ended (meet .B .walkIn dividing)).part.partition = .combined ∧
    (evaluationPass dividing).part.partition = .split ∧ (evaluationPass dividing).anyRuns = false ∧
    (judgeFloor atOnce .A (clockAt 179 (running .overrun))).part = (running .overrun).part := by decide +kernel
theorem test_pass_follows_table_order :
    let s : State := { planned with bookings := [booked 5 100 160, booked 6 160 200] }
    (evaluationPass (clockAt 155 s)).bookings.map (fun b => (b.id, b.state)) = [(5, .active), (6, .held)] ∧
    ((evaluationPass planned).booking? 5).bind (·.runtime) = some ⟨some 100, .A⟩ ∧
    ((evaluationPass (clockAt 95 planned)).booking? 5).bind (·.runtime) = some ⟨none, .A⟩ ∧
    (evaluationPass room).bookings = [] := by decide +kernel
theorem test_overrun_deadline :
    let s := running .overrun
    let t : State := { s with bookings := s.bookings ++ [booked 6 185 200] }
    s.overrunDeadline .A (booked 5 100 160) = 180 ∧ t.overrunDeadline .A (booked 5 100 160) = 175 := by decide +kernel
theorem test_walkinStart_clauses :
    told room (.walkinStart console (.fields 2)) .range = true ∧ told room (.walkinStart console (.fields 1)) .state = true ∧
    told live (.walkinStart console (.fields 0)) .state = true ∧
    leads (.walkinStart console (.fields 0)) planned (fun t => codeIn t == some 0 && (t.meeting .A).state == .walkIn &&
      (t.meeting .A).start == some 100 && (t.seat 1).role == .guest && (t.seat 5).role == .none) = true := by
  decide +kernel
theorem test_micPress_on_a_vacant_floor :
    room.pwr.state = .active ∧ room.givesKeys 1 = true ∧
    leads (.micPress 1) room (fun t => (t.meeting .A).state == .walkIn) = true ∧
    ((startWalkin .A (room.pressed 1 .mic)).floor .A).settings.mode = .request ∧
    leads (.micPress 1) room (fun t => t.floorA.grantOrder == [1] && (t.seat 1).floorState == .speaking) = true ∧
    (startWalkin .A (room.pressed 1 .mic)).admission 1 = none ∧
    (startWalkin .A ({ room with profiles := room.profiles.set 0 { Reset.profile with
      floor := { Reset.profile.floor with presenceRequired := true } } }.pressed 1 .mic)).admission 1 = some .absent := by
  decide +kernel
theorem test_sessionEnd_clauses :
    told live (.sessionEnd console (.fields 2)) .range = true ∧ told live (.sessionEnd console (.fields 1)) .state = true ∧
    leads (.sessionEnd console (.fields 0)) busy (fun t => codeIn t == some 0 && (t.meeting .A) == Reset.meeting &&
      t.floorA.named == [] && (t.seat 1).role == .none) = true := by decide +kernel
theorem test_walkinIdleEnd : (live.meeting .A).state = .walkIn ∧
    leads (.walkinIdleEnd .A) live (fun t => (t.meeting .A).state == .vacant) = true := by decide +kernel
theorem test_calendar_sound : CalendarSound calm ∧ CalendarSound staged ∧ (live.meeting .A).served = none := by
  refine ⟨?_, ?_, by decide +kernel⟩ <;> refine ⟨by decide +kernel, by decide +kernel, by decide +kernel, ?_,
    by decide +kernel, by decide +kernel, ?_, fun f => by cases f <;> decide +kernel⟩ <;> first
    | (unfold Booking.apart; decide +kernel)
    | (unfold staged; unfold Staging.sound; decide +kernel)
    | trivial

/-! ## Screens, layouts and cameras -/

/-- A screen request that gives nothing, a camera request that gives nothing, conditions of a layout rule. -/
def noScreen (k : Nat) : ScreenSetArg := ⟨k, .absent, .absent, .absent⟩
def noCamera (k : Nat) : CameraSetArg := ⟨k, .absent, .absent, .absent, .absent, .absent, .absent⟩
def conds (l : Nat) : LayoutArg := ⟨[1, 4], 3, 2, 2, 2, l⟩

/-- Screen 1 stands in a power state with its unsent mark set. -/
def lit (p : ScreenPower) : State → State :=
  State.modScreen 1 (fun r => { r with power := p, unsent := true, warmup := 30 })

/-- Camera 1 has a shot and a candidate. -/
def shot (x : Option Nat) : State → State :=
  State.modCamera 1 (fun c => { c with shot := x, candidate := some (3, 0), served := true })

theorem test_screenSet_clauses :
    told room (.screenSet console (.fields (noScreen 1))) .range = true ∧
    told room (.screenSet console (.fields { noScreen 9 with floor := .given 0 })) .range = true ∧
    told room (.screenSet console (.fields { noScreen 8 with serial := .given (.given 901) })) .duplicate = true ∧
    leads (.screenSet console (.fields { noScreen 8 with serial := .given (.given 7), floor := .given 1, warmup := .given 121 }))
      room (fun t => (t.screen 8).serial == some 7 && (t.screen 8).floor == .B && (t.screen 8).warmup == 120 &&
        (t.screen 8).binding == none) = true ∧
    leads (.screenSet console (.fields { noScreen 1 with serial := .given .absent })) room (fun t =>
      (t.screen 1).binding == none && (t.screen 1).power == .off) = true := by decide +kernel
theorem test_layoutSet_clauses :
    told room (.layoutSet console (.fields ⟨0, .absent⟩)) .range = true ∧
    told room (.layoutSet console (.fields ⟨17, .absent⟩)) .range = true ∧
    told room (.layoutSet console (.fields ⟨16, .given (conds 16)⟩)) .range = true ∧
    leads (.layoutSet console (.fields ⟨16, .given (conds 15)⟩)) room (fun t =>
      t.sd.layouts.getD 15 none == some ⟨[.walkIn, .inSession], .many, .none, .nonempty, .no, 15⟩) = true ∧
    leads (.layoutSet console (.fields ⟨1, .absent⟩)) room (fun t => t.sd.layouts == room.sd.layouts) = true ∧
    (readLayout ⟨[4, 1, 4, 1], 0, 0, 0, 0, 1⟩).map (·.states) = some [.walkIn, .inSession] := by decide +kernel
theorem test_cameraSet_clauses :
    told room (.cameraSetCamera console (.fields (noCamera 1))) .range = true ∧
    told room (.cameraSetCamera console (.fields { noCamera 4 with overview := .given 32 })) .range = true ∧
    told room (.cameraSetCamera console (.fields { noCamera 4 with serial := .given (.given 951) })) .duplicate = true ∧
    leads (.cameraSetCamera console (.fields { noCamera 1 with overview := .given 31, cutDelay := .given 65535 })) room
      (fun t => (t.camera 1).overview == 31 && (t.camera 1).cutDelay == 5000 &&
        (t.camera 1).binding == (room.camera 1).binding) = true ∧
    leads (.cameraSetCamera console (.fields { noCamera 1 with serial := .given .absent })) room (fun t =>
      (t.camera 1).binding == none) = true := by decide +kernel
theorem test_presetSet_clauses :
    told room (.cameraSetPreset console (.fields ⟨5, [(1, 1)]⟩)) .range = true ∧
    told room (.cameraSetPreset console (.fields ⟨4, []⟩)) .range = true ∧
    told room (.cameraSetPreset console (.fields ⟨4, [(1, 32)]⟩)) .range = true ∧
    leads (.cameraSetPreset console (.fields ⟨4, [(48, 30), (1, 7), (48, 31)]⟩)) room (fun t =>
      (t.seat 48).presets == [0, 0, 0, 31] && (t.seat 1).presets == [0, 0, 0, 7]) = true := by decide +kernel
theorem test_warmupDone : ((lit .warming live).screen 1).power = .warming ∧
    (lit .warming live).reachable ((lit .warming live).screen 1).binding = true ∧
    (lit .warming live).wanted .A = .on ∧
    leads (.warmupDone 1) (lit .warming live) (fun t => (t.screen 1).power == .on) = true := by decide +kernel
theorem test_screenFaultChange_clauses :
    leads (.screenFaultChange 1 true) (lit .on live) (fun t => (t.screen 1).power == .fault) = true ∧
    leads (.screenFaultChange 1 false) (lit .fault live) (fun t => (t.screen 1).power == .warming) = true ∧
    leads (.screenFaultChange 1 false) (lit .fault room) (fun t => (t.screen 1).power == .off) = true := by
  decide +kernel
theorem test_showIntervalEnd : ((lit .on live).screen 1).unsent = true ∧ (lit .on live).atOnce .b0 = true ∧
    leads (.showIntervalEnd 1) (lit .on live) (fun t =>
      (t.screen 1).lastShow == some 0 && !(t.screen 1).unsent) = true := by decide +kernel
/-- A state in which seat 3 has a preset for camera 1. -/
def aimed (s : State) : State := s.modSeat 3 (fun r => { r with presets := [5, 0, 0, 0] })

theorem test_cameraCut : (shot none live).holderFor 1 = none ∧ live.reachable (live.camera 1).binding = true ∧
    (aimed (shot none live)).preset 3 1 = 5 ∧ (shot none live).preset 3 1 = 0 ∧
    leads (.cameraCut 1) (aimed (shot none live)) (fun t =>
      (t.camera 1).shot == some 3 && (t.camera 1).candidate == none && t.lane0.out.length == 1) = true ∧
    leads (.cameraCut 1) (shot none live) (fun t => (t.camera 1).shot == none && t.lane0.out == []) = true := by
  decide +kernel
theorem test_cameras_are_judged :
    let open3 (s : State) : State := s.modChan 3 (fun r => { r with gate := .opened, opening := some 7 })
    let s : State := open3 (aimed busy)
    let at_ (k : Nat) (c : CameraRec → CameraRec) : State := { s.modCamera 1 c with now := k }
    s.activeSeats 1 .A = [3] ∧ busy.activeSeats 1 .A = [] ∧ s.live .A = true ∧ room.live .A = false ∧
    ((judgeCamera 1 s).camera 1).candidate = some (3, 0) ∧
    ((judgeCamera 1 (at_ 9 (fun c => { c with candidate := some (3, 2) }))).camera 1).candidate = some (3, 2) ∧
    ((judgeCamera 1 (at_ 9 (fun c => { c with shot := some 3 }))).camera 1).candidate = none ∧
    ((judgeCamera 1 busy).camera 1).quiet = 1 ∧ ((judgeCamera 1 held).camera 1).quiet = 0 ∧
    ((moveShot 1 (at_ 1500 (fun c => { c with candidate := some (3, 0) }))).camera 1).shot = some 3 ∧
    ((moveShot 1 (at_ 1499 (fun c => { c with candidate := some (3, 0) }))).camera 1).shot = none ∧
    ((moveShot 1 (at_ 5000 (fun c => { c with shot := some 3, shotStart := some 1000, quiet := 3000 }))).camera 1).shot = none ∧
    ((moveShot 1 (at_ 4999 (fun c => { c with shot := some 3, shotStart := some 1000, quiet := 3000 }))).camera 1).shot
      = some 3 ∧
    ((moveShot 1 (held.modCamera 1 (fun c => { c with shot := some 3 }))).camera 1).shot = none ∧
    ((moveShot 1 (held.modSeat 1 (fun r => { r with presets := [5, 0, 0, 0] }))).camera 1).shot = some 1 ∧
    (room.modCamera 1 (fun c => { c with binding := none })).reachable none = false := by decide +kernel
theorem test_cameraReturnOverview :
    leads (.cameraReturnOverview 1) (shot (some 3) live) (fun t => (t.camera 1).shot == none) = true := by decide +kernel
theorem test_cameraPriorityCut :
    let s := (shot (some 3) held).modSeat 1 (fun r => { r with presets := [5, 0, 0, 0] })
    s.holderFor 1 = some 1 ∧ s.holdShot 1 1 = some 1 ∧ (shot (some 3) held).holdShot 1 1 = none ∧
    leads (.cameraPriorityCut 1) s (fun t => (t.camera 1).shot == some 1) = true ∧
    leads (.cameraPriorityCut 1) (shot (some 3) held) (fun t => (t.camera 1).shot == none) = true := by decide +kernel

theorem test_layouts :
    let rule (l : Nat) (m : MeetingState) (x : SpeakersCond) (h : HoldCond) : Option LayoutConds :=
      some { states := [m], speakers := x, hold := h, queue := .any, warning := .any, layout := l }
    let s (t : State) : State := { t with sd := { t.sd with
      layouts := [none, rule 3 .walkIn .many .none, rule 4 .walkIn .one .none, rule 5 .walkIn .one .active] } }
    TablesWhole orderly ∧ (s orderly).layoutOf .A = 4 ∧ (s busy).layoutOf .A = 3 ∧ (s held).layoutOf .A = 5 ∧
    (s live).layoutOf .A = 0 := by unfold TablesWhole; decide +kernel
theorem test_content :
    let c := (running .inSession).contentOf .A
    let d := busy.contentOf .A
    c.stop = some 160 ∧ c.speakers = [] ∧ c.holder = none ∧ d.queue = [(2, none)] ∧
    d.speakers.map (fun x => (x.seat, x.name, x.time)) = [(3, some [65], some 9), (4, none, some 5)] ∧
    (held.contentOf .A).holder = some (1, none) ∧ (planned.contentOf .A).next = some (100, none) := by decide +kernel

/-! ## Nameplates -/

/-- The NAMEPLATE messages in branch 0's queue, by destination. -/
def plates (t : State) : List Octet := t.lane0.out.filterMap (fun m => match m with
  | .own d kind _ _ => if kind = 0x14 then some d else none
  | .relayed _ => none)

theorem test_nameplates_whatever_the_link :
    let gone (s : State) : State := s.modEntry ⟨.b0, 4⟩ (fun e => { e with link := .lost })
    leads (.seatMap console (.fields [entry 4 (.absent) []])) (gone room) (fun t => plates t == [4]) = true ∧
    leads (.walkinIdleEnd .A) (gone live) (fun t => plates t == [1, 2, 3, 4]) = true ∧
    leads (.sessionEnd console (.fields 0)) (gone live) (fun t => plates t == [1, 2, 3, 4]) = true ∧
    leads (.rosterEdit console (.fields ⟨4, 1, .absent⟩)) (gone live) (fun t => !(plates t).contains 4) = true ∧
    leads (.rosterEdit console (.fields ⟨4, 2, .absent⟩)) live (fun t => (plates t).contains 4) = true := by decide +kernel
theorem test_rosterEdit_reports_last :
    let s : State := { orderly with cru := { orderly.cru with address := some ⟨.b0, 23⟩ } }
    ((editConsequences 3 (s.seat 3) .none s).cru.made.map (·.kind)) = [.key, .key] ∧
    ((applyEdit 3 .none none s).cru.made.map (·.kind)) = [.key, .key, .seat] := by decide +kernel

/-- The octets of the messages in branch 0's queue whose destination is a position. -/
def sentTo (d : Octet) (t : State) : List (List Octet) := t.lane0.out.filterMap (fun m => match m with
  | .own x _ os _ => if x = d then some os else none
  | .relayed _ => none)

theorem test_screen_power_table :
    let at_ (p : ScreenPower) (s : State) : State := s.modScreen 1 (fun r => { r with power := p, warmup := 30 })
    let after (p : ScreenPower) (s : State) : ScreenPower := ((refresh (at_ p s)).screen 1).power
    TablesWhole live ∧ live.wanted .A = .on ∧ room.wanted .A = .standby ∧ (power .dim room).wanted .A = .standby ∧
    (power .sleep room).wanted .A = .off ∧ (power .waking room).wanted .A = .off ∧
    after .off live = .warming ∧ after .standby live = .warming ∧ after .on live = .on ∧ after .fault live = .fault ∧
    after .warming room = .standby ∧ after .on room = .standby ∧ after .off room = .off ∧
    after .standby (power .sleep room) = .off ∧ after .on (power .sleep room) = .off ∧
    ((refresh ((lit .on live).modScreen 1 (fun r => { r with binding := none }))).screen 1).power = .off := by
  unfold TablesWhole; decide +kernel
theorem test_meeting_end_clears :
    let u := clearRoster .A live
    let c := (endMeeting .A .ended { shot (some 3) live with now := 9 }).camera 1
    plates u = [1, 2, 3, 4] ∧ u.plateOf 3 = ⟨true, .none, none, false, none, 0⟩ ∧ plates (clearPlate 5 u) = [1, 2, 3, 4] ∧
    c.shot = none ∧ c.candidate = none ∧ c.shotStart = some 9 := by decide +kernel
theorem test_meeting_end_within_a_pass :
    let s : State := { clockAt 180 (running .overrun) with
      bookings := [{ booked 5 100 160 with state := .active }, { booked 6 170 200 with state := .held, window := 30 }] }
    let t := evaluationPass (s.modCamera 1 (fun c => { c with served := true, candidate := some (3, 0), quiet := 5 }))
    (t.meeting .A).state = .checkIn ∧ plates t = [1, 2, 3, 4] ∧ (t.camera 1).candidate = none ∧ (t.camera 1).quiet = 0 ∧
    plates (refresh t) = [1, 2, 3, 4, 3] ∧ (sentTo 3 (refresh t)).length = 2 := by decide +kernel

/-- The POWER codes that branch 0's nodes have been sent: standby 1, on 2. -/
def powers (t : State) : List (List Octet) := t.lane0.out.filterMap (fun m => match m with
  | .own _ kind os _ => if kind = 0x12 then some os else none
  | .relayed _ => none)

/-- A walk-in whose floor a booking takes, with screen 1 ON. -/
def yielding : State := lit .on (meet .A .walkIn planned)

/-- Booking 5 is in session with screen 1 ON, and booking 6 is due to be prepared. -/
def ending : State :=
  { lit .on (clockAt 155 (running .inSession)) with
    bookings := [{ booked 5 100 160 with state := .active }, booked 6 160 200] }

theorem test_screens_within_a_pass_hypotheses : TablesWhole yielding ∧ yielding.pwr.state = .active ∧
    yielding.part.target = yielding.part.partition ∧ yielding.followed (yielding.screen 1).floor = .A ∧
    yielding.reachable (yielding.screen 1).binding = true ∧ (yielding.screen 1).power = .on := by
  unfold TablesWhole; decide +kernel
theorem test_screens_judged_within_a_pass :
    let t := evaluationPass yielding
    let bare : State := yielding.modScreen 1 (fun r => { r with warmup := 0 })
    (t.screen 1).power = .warming ∧ powers (refresh t) = [[1], [2]] ∧
    ((preempt atOnce .A (booked 5 100 160) bare).screen 1).power = .on ∧
    powers (judgeBooking insideChange 5 yielding) = [] := by decide +kernel
theorem test_showFloor_judges_its_floor :
    let t := endMeeting .A .preempted yielding
    ((showFloor .A t).screen 1).power = .standby ∧ ((showFloor .B t).screen 1).power = .on ∧
    ((showScreens t).screen 1).power = .standby := by decide +kernel
theorem test_end_outside_a_pass_shows_the_result :
    let t := endMeetingNow .A .ended ending
    (t.meeting .A).state = .preparing ∧ powers (refresh t) = [] ∧
    powers (refresh (endMeetingNow .A .ended (lit .on live))) = [[1]] := by decide +kernel

/-! ## Service requests -/

theorem test_path_checker :
    let t := newTest 2 ⟨.b0, 2⟩ 5
    let u : PathTest := { t with reference := some 2, matchRun := 31 }
    let v : PathTest := { t with inSync := true, reference := some 2, window := List.replicate 64 true }
    let w : PathTest := { v with window := List.replicate 7 false ++ List.replicate 57 true }
    (t.check (some 2)).reference = some 2 ∧ (t.check (some 2)).matchRun = 0 ∧
    (u.check (some 12)).inSync = true ∧ (u.check (some 12)).achieved = true ∧ (u.check (some 13)).matchRun = 0 ∧
    (u.check none).reference = none ∧ (v.check (some 12)).window.length = 64 ∧ (v.check none).mismatches = 1 ∧
    (v.check (some 12)).reference = some 12 ∧ (w.check none).inSync = true ∧
    ({ w with window := w.window.take 63 }.check none).inSync = false ∧
    ({ w with window := w.window.take 63 }.check (some 12)).inSync = true := by decide +kernel
theorem test_pathTest_clauses :
    told room (.pathTest console (.fields ⟨49, 1⟩)) .range = true ∧
    told { room with test := some (newTest 2 ⟨.b0, 2⟩ 5) } (.pathTest console (.fields ⟨1, 1⟩)) .busy = true ∧
    told room (.pathTest console (.fields ⟨5, 1⟩)) .state = true ∧
    told busy (.pathTest console (.fields ⟨3, 1⟩)) .state = true ∧
    leads (.pathTest console (.fields ⟨1, 61⟩)) room (fun t => codeIn t == some 0 &&
      t.test == some (newTest 1 ⟨.b0, 1⟩ 60) && t.underTest 1) = true := by decide +kernel
theorem test_pathTestEnd : leads .pathTestEnd { room with test := some (newTest 2 ⟨.b0, 2⟩ 5) } (fun t =>
    t.test == none) = true := by decide +kernel
theorem test_testInsert_clauses :
    told room (.testInsert console (.fields ⟨2, 1⟩)) .range = true ∧
    told room (.testInsert console (.fields ⟨0, 25⟩)) .range = true ∧
    told { room with br1 := Reset.branch } (.testInsert console (.fields ⟨1, 1⟩)) .state = true ∧
    told room (.testInsert console (.fields ⟨1, 24⟩)) .notFound = true ∧
    leads (.testInsert console (.fields ⟨0, 24⟩)) room (fun t => codeIn t == none &&
      t.br0.insertion == some (24, console) && t.cru.phase == .testFrame .b0) = true := by decide +kernel
theorem test_counterSet_clauses :
    told room (.counterSet console (.fields ⟨2, .absent, .given 1, .absent⟩)) .range = true ∧
    told room (.counterSet console (.fields ⟨1, .given [3], .absent, .absent⟩)) .range = true ∧
    leads (.counterSet console (.fields ⟨1, .given [0, 2], .given 1, .given 1⟩)) room (fun t =>
      t.br1.counter == ⟨0, true, false, true, true, false⟩ && t.br0.counter == room.br0.counter) = true := by
  decide +kernel
theorem test_filterSet_clauses :
    told room (.filterSet console (.fields ⟨0, .absent⟩)) .range = true ∧
    told room (.filterSet console (.fields ⟨4, .absent⟩)) .range = true ∧
    leads (.filterSet console (.fields ⟨3, .given (0x55, 0xF0)⟩)) room (fun t =>
      t.filter == [some (0x00, 0xFF), some (0x7F, 0xFF), some (0xFF, 0xFF), some (0x55, 0xF0)]) = true ∧
    leads (.filterSet console (.fields ⟨1, .absent⟩)) room (fun t => t.filter.getD 1 (some (0, 0)) == none) = true := by
  decide +kernel
theorem test_powerSet_clauses :
    told room (.powerSet console (.fields ⟨.absent, .absent, .absent, .absent, .absent⟩)) .range = true ∧
    told room (.powerSet console (.fields ⟨.given 1, .given 2, .absent, .absent, .absent⟩)) .range = true ∧
    leads (.powerSet console (.fields ⟨.given 0, .given 0, .absent, .absent, .given 1⟩)) room (fun t =>
      t.pwr == { room.pwr with delay := 1, maskKey := false }) = true := by decide +kernel
theorem test_reportTo_clauses :
    told room (.reportTo console (.fields 0x40)) .range = true ∧ told room (.reportTo console (.fields 24)) .notFound = true ∧
    leads (.reportTo console (.fields 23)) room (fun t => t.cru.addressSet && t.cru.address == some ⟨.b0, 23⟩) = true ∧
    leads (.reportTo console (.fields 0)) room (fun t => !t.cru.addressSet && t.cru.address == some ⟨.b0, 23⟩) = true := by
  decide +kernel
theorem test_reportSet_clauses :
    told room (.reportSet console (.fields [⟨0, .absent, .absent⟩])) .range = true ∧
    told room (.reportSet console (.fields [⟨12, .given 1, .absent⟩])) .range = true ∧
    told room (.reportSet console (.fields [⟨0, .absent, .given 0⟩])) .range = true ∧
    leads (.reportSet console (.fields [⟨11, .given 0, .absent⟩, ⟨5, .given 1, .given 1⟩])) room (fun t =>
      !t.cru.enables.getD 11 true && t.cru.enables.getD 5 false && t.cru.gateAll) = true := by decide +kernel

/-! ## Status queries and resets -/

theorem test_reading_queries_clauses :
    told room (.statusQuerySeat console (.fields ⟨0, 1⟩)) .range = true ∧
    told room (.statusQuerySeat console (.fields ⟨1, 49⟩)) .range = true ∧
    told room (.statusQuerySeat console (.fields ⟨1, 48⟩)) .ok = true ∧
    told room (.statusQuerySeat console (.fields ⟨255, 48⟩)) .notFound = true ∧
    told room (.statusQueryFloor console (.fields 0)) .range = true ∧
    told room (.statusQueryFloor console (.fields 1)) .ok = true ∧
    told room (.statusQueryBookings console (.fields 0)) .range = true ∧
    told room (.statusQueryBookings console (.fields 1)) .ok = true ∧
    told planned (.statusQueryBookings console (.fields 2)) .notFound = true ∧
    told room (.statusQueryPower console (.fields 1)) .ok = true ∧
    told room (.statusQueryPower console (.fields 2)) .notFound = true := by decide +kernel
theorem test_bookings_answer :
    let whole (n : Nat) : State := { planned with bookings := (List.range' 1 n).map (fun k => booked k (100 * k) (100 * k + 9)) }
    room.bookingData 0 1 = 0 :: (room.calendarPieces.flatMap Piece.octets ++ [0]) ∧
    (whole 9).bookingData 0 9 = 0 :: ((whole 9).calendarPieces.flatMap Piece.octets ++ 1 :: (whole 9).fmtBooking (booked 9 900 909)) ∧
    ((whole 9).bookingData 0 1).headD 0 = 1 ∧ ((whole 9).bookingData 0 1).length ≤ 58 ∧
    (whole 9).readingAfter 0x17 0 9 = none ∧ ((whole 9).readingAfter 0x17 0 1).map (·.place) = some 2 := by decide +kernel
theorem test_bookings_answer_goes_on :
    let b : Booking := { booked 5 100 160 with title := some (List.replicate 32 65) }
    let long : State := { planned with bookings := [b] }
    let many : State := long.modMeeting .A (fun m => { m with checkedIn := List.range' 1 48 })
    let ask (s : State) (p : State → Bool) : Bool := leads (.statusQueryBookings console (.fields 1)) s p
    let from_ (k : Nat) : State := { long with cru := { long.cru with reading := some ⟨0x17, 1, k⟩ } }
    let n := (long.calendarPieces.map Piece.items).sum
    long.bookingData 0 1 = 1 :: long.calendarPieces.flatMap Piece.octets ∧
    (long.calendarPieces.flatMap Piece.octets).length = 26 ∧
    ask long (fun t => t.cru.reading == some ⟨0x17, 1, n⟩) = true ∧
    (from_ n).itemsReturned 0x17 1 = n ∧ (from_ n).itemsReturned 0x37 1 = 0 ∧ (from_ n).itemsReturned 0x17 2 = 0 ∧
    long.bookingData n 1 = 0 :: 1 :: long.fmtBooking b ∧ ask (from_ n) (fun t => t.cru.reading == none) = true ∧
    57 < (many.calendarPieces.flatMap Piece.octets).length ∧ (many.bookingData 0 1).length = 58 ∧
    ask many (fun t => (t.cru.reading.map (·.place)) == some 1) = true := by decide +kernel
theorem test_clearing_queries_clauses :
    told loud (.statusQueryLevels ⟨.b0, 5, 7⟩ (.fields 1)) .refused = true ∧
    told room (.statusQueryLevels console (.fields 0)) .range = true ∧
    told room (.statusQueryLevels console (.fields 2)) .state = true ∧
    leads (.statusQueryLevels console (.fields 1)) (room.modChan 50 (fun r => { r with peak := 3 })) (fun t =>
      codeIn t == some 0 && (t.chan 50).peak == 23) = true ∧
    leads (.statusQueryMix console (.fields 1)) { room with satur := room.satur.set 49 9 } (fun t =>
      codeIn t == some 0 && t.satur == List.replicate 50 0) = true ∧
    leads (.statusQueryLink console (.fields 1)) (room.modBr .b0 (fun r => { r with counter := { r.counter with value := 7 } }))
      (fun t => codeIn t == some 0 && t.br0.counter.value == 0) = true ∧
    told room (.statusQueryLink console (.fields 2)) .state = true := by decide +kernel
theorem test_reset_request : leads (.reset console (.fields ())) room (fun t =>
    codeIn t == some 0 && t.cru.phase == .resetAnswer) = true ∧
    ({ room with cru := { room.cru with phase := .resetDue } } : State).cru.phase.awaitsReset = true := by decide +kernel
theorem test_warmReset_keeps_the_map :
    leads .warmReset planned (fun t => (t.seat 1).serial == some 101 && (t.seat 1).binding == none &&
      t.bookings == [booked 5 100 160] && t.clock == some ⟨100, 0, 0⟩ && t.br0 == Reset.branch) = true ∧
    leads .powerOnReset planned (fun t => t == State.reset) = true := by decide +kernel
theorem test_warmReset_clears_the_lanes :
    let gate : GateSettings := { openBand := 3, closeBand := 9, hangTime := 700 }
    let busy0 : Lane := { turn := .offered 3 2, last := 3, places := [⟨[1], 1, .relay .b1, 0⟩], out := [.relayed [1]], sent := 1,
                          rotation := .relay, counts := { Reset.counts with relayDrop := 4 } }
    let s : State := { room with
      profiles := { Reset.profile with gate := gate } :: room.profiles.drop 1, lane0 := busy0
      cru := { room.cru with waiting := some (.b0, .relayed [1]), snapLink := some [[1]], hello := none } }
    leads .warmReset s (fun t => t.lane0 == Reset.lane && t.cru.waiting.isNone && t.cru.snapLink.isNone &&
      t.cru.hello == some .warm && t.floorA.gate == gate && t.floorB.gate == gate &&
      t.floorA.mix == Reset.mixSettings) = true := by decide +kernel
theorem test_warmReset_partition :
    let after (m : WallMode) (r : WallReading) : State :=
      let part : PartRec := { room.part with mode := m, reading := r, settle := some (r, 5) }
      { room with part := part }
    let p (m : WallMode) (r : WallReading) (x : Partition) : Bool := leads .warmReset (after m r) (fun t =>
      t.part.mode == m && t.part.partition == x && t.part.target == x && t.part.reading == .absent && t.part.settle == none)
    p .forceSplit .absent .split = true ∧ p .forceCombined .closed .combined = true ∧ p .follow .closed .split = true ∧
    p .follow .moving .combined = true := by decide +kernel
theorem test_warmReset_keeps_the_masks :
    let s : State := { room with
      pwr := { room.pwr with maskKey := false, maskCard := false, maskWall := false, maskConsole := false, idle := 8 }
      cru := { room.cru with cardEvery := true, gateAll := true, linkAll := true, lost := 3 } }
    leads .warmReset s (fun t => !t.pwr.maskKey && !t.pwr.maskCard && !t.pwr.maskWall && !t.pwr.maskConsole &&
      t.pwr.idle == 0 && t.cru.cardEvery && t.cru.gateAll && t.cru.linkAll && t.cru.lost == 0 &&
      (t.screen 1).serial == some 901 && (t.screen 1).binding == none && (t.camera 1).overview == 1) = true := by
  decide +kernel

/-! ## Keys, holds, cards and seat timers -/

/-- Seat 3 suspended by the hold of `held`. -/
def paused : State := put 3 .suspended (held.modFloor .A (fun r => { r with susp := [⟨3, startTurn 0⟩] }))

theorem test_micPress_busy_clauses :
    busy.givesKeys 2 = true ∧
    leads (.micPress 2) busy (fun t => (t.seat 2).floorState == .idle && t.floorA.queue == []) = true ∧
    leads (.micPress 3) (mode .chairOnly busy) (fun t => (t.seat 3).accTurns == 1 && t.floorA.grantOrder == [4]) = true ∧
    leads (.micPress 3) paused (fun t => (t.seat 3).accTurns == 1 && t.floorA.susp == []) = true ∧
    leads (.micPress 1) covered (fun t => t.floorA.stack == covered.floorA.stack) = true ∧
    leads (.micPress 2) covered (fun t => t.floorA.stack == covered.floorA.stack) = true := by decide +kernel

/-- What a mic PRESS of IDLE seat 3 leads to: its floor state and refusal display. -/
def asks (s : State) : Option (FloorState × Bool) := match exec (.micPress 3) s with
  | .next t => some ((t.seat 3).floorState, (t.seat 3).refusal.isSome)
  | .fault _ | .refused _ => none

/-- Floor A with a queue of 24 others, and with as many speakers as it allows. -/
def crowd : State := live.modFloor .A (fun r => { r with queue := List.range' 5 24 })
def full (m : Mode) : State := rules (fun x => { x with openMicLimit := 1 }) (mode m (speak 4 9 live))

theorem test_micPress_idle_clauses :
    live.givesKeys 3 = true ∧ asks (role 3 .none live) = some (.idle, true) ∧
    asks (role 3 .chair live) = some (.speaking, false) ∧
    asks (mode .chairOnly crowd) = some (.idle, true) ∧ asks (mode .chairOnly live) = some (.queued, false) ∧
    asks crowd = some (.idle, true) ∧ asks (full .request) = some (.queued, false) ∧
    asks live = some (.speaking, false) ∧ asks (mode .openMic held) = some (.idle, true) ∧
    asks (mode .openMic live) = some (.speaking, false) ∧ asks (full .openMic) = some (.idle, true) ∧
    asks (rules (fun x => { x with fullPolicy := .bumpOldest }) (full .openMic)) = some (.speaking, false) ∧
    asks (mode .voice live) = some (.idle, true) := by decide +kernel
theorem test_micPress_chair_clauses :
    asks (role 3 .chair (wait 2 live)) = some (.speaking, false) ∧ asks (role 3 .chair held) = some (.idle, true) ∧
    asks (role 3 .chair (full .voice)) = some (.speaking, false) ∧
    leads (.micPress 3) (role 3 .chair (full .voice)) (fun t => t.floorA.grantOrder == [3] &&
      (t.seat 4).floorState == .idle && (t.seat 4).accTurns == 1) = true ∧
    asks (role 4 .viceChair (role 3 .chair (full .request))) = some (.idle, true) ∧
    leads (.micPress 3) (wait 4 live) (fun t => t.floorA.grantOrder == [4, 3]) = true := by decide +kernel
theorem test_detector_clauses :
    let d (k : Nat) (p : Bool) : Detector :=
      { window := List.replicate k true ++ List.replicate (20 - k) false, pressed := p, held := some 1500, longGiven := false }
    (d 17 false).due = none ∧ (d 18 false).due = some .press ∧ (d 2 true).due = some .release ∧ (d 3 true).due = some .long := by
  decide +kernel

/-- What a NEXT PRESS of seat 1 leads to: its refusal display and the queue of floor A. -/
def calls (s : State) : Option (Bool × List Nat) := match exec (.nextPress 1) s with
  | .next t => some ((t.seat 1).refusal.isSome, t.floorA.queue)
  | .fault _ | .refused _ => none

theorem test_nextPress_clauses :
    let byHand (s : State) : State := rules (fun x => { x with autoGrant := false }) s
    calls room = some (true, []) ∧ calls (role 1 .guest (byHand busy)) = some (true, [2]) ∧ calls busy = some (true, [2]) ∧
    calls (byHand (wait 3 held)) = some (true, [3]) ∧ calls (byHand live) = some (true, []) ∧
    calls (byHand (wait 3 (full .request))) = some (true, [3]) ∧ calls (byHand busy) = some (false, []) := by decide +kernel
theorem test_keyLong_clauses :
    leads (.keyLong 2 .mic) busy (fun t => (t.seat 2).floorState == .idle && (t.detectors 2).mic.longGiven) = true ∧
    leads (.keyLong 2 .next) busy (fun t => t.floorA.queue == [2] && (t.detectors 2).next.longGiven) = true := by
  decide +kernel
theorem test_keyRelease : leads (.keyRelease 2 .mic) (busy.modDets 2 (SeatDets.mod .mic Detector.press)) (fun t =>
    t.dets == busy.dets) = true := by decide +kernel
theorem test_priorityPress_clauses :
    (∀ m ∈ busy.floorA.named, m ∈ allSeats) ∧ (∀ e ∈ held.floorA.stack, e.holder ≠ 2) ∧
    leads (.priorityPress 3) busy (fun t => (t.seat 3).refusal.isSome && t.floorA.stack == []) = true ∧
    leads (.priorityPress 1) busy (fun t => t.floorA.stack == [⟨.chair, 1, true⟩] && t.floorA.grantOrder == [] &&
      t.floorA.susp.map (·.seat) == [3, 4] && t.floorA.queue == [2] && (t.seat 4).floorState == .suspended) = true ∧
    leads (.priorityPress 1) ((put 2 .priority live).modFloor .A (fun r => { r with stack := [⟨.vice, 2, false⟩] })) (fun t =>
      t.floorA.stack == [⟨.chair, 1, true⟩, ⟨.vice, 2, false⟩] && (t.seat 2).floorState == .priorityWait) = true ∧
    leads (.priorityPress 2) held (fun t => t.floorA.stack == [⟨.chair, 1, true⟩, ⟨.vice, 2, true⟩] &&
      (t.seat 2).floorState == .priorityWait) = true := by decide +kernel
theorem test_priorityKeys_hypotheses :
    held.floorA.stack.find? (·.holder == 1) = some ⟨.chair, 1, true⟩ ∧
    covered.floorA.stack.find? (·.holder == 2) = some ⟨.vice, 2, false⟩ ∧ TablesWhole covered ∧ TablesWhole held := by
  unfold TablesWhole; decide +kernel
theorem test_priorityKeys_clauses :
    leads (.priorityPress 1) paused (fun t => t.floorA.stack == [] && t.floorA.susp == [] &&
      (t.seat 3).floorState == .speaking) = true ∧
    leads (.priorityRelease 1) held (fun t => t.floorA.stack == held.floorA.stack) = true ∧
    leads (.priorityRelease 1) covered (fun t => t.floorA.stack == [⟨.vice, 2, false⟩] &&
      (t.seat 2).floorState == .priority && (t.seat 1).floorState == .idle) = true ∧
    leads (.priorityRelease 2) covered (fun t => t.floorA.stack == [⟨.chair, 1, false⟩]) = true ∧
    leads (.priorityPress 2) covered (fun t => t.floorA.stack == covered.floorA.stack) = true := by decide +kernel
theorem test_settlement_hypotheses : TablesWhole paused ∧ paused.floorA.susp ≠ [] ∧
    (∀ e ∈ paused.floorA.susp, e.seat ∈ allSeats ∧ paused.seatFloor e.seat = .A) ∧
    (paused.floorA.susp.map (·.seat)).Nodup := by unfold TablesWhole; decide +kernel
theorem test_settlement_clauses :
    let two (s : State) : State := rules (fun x => { x with openMicLimit := 1 })
      (put 4 .suspended (s.modFloor .A (fun r => { r with susp := r.susp ++ [⟨4, startTurn 0⟩] })))
    let dropping : State := rules (fun x => { x with resumePolicy := .drop }) paused
    let spent : State := (two paused).modSeat 3 (fun r => { r with accSeconds := 60 })
    let resumed (s : State) : List Nat := (s.resumable .A).map (·.seat)
    resumed paused = [3] ∧ resumed (two paused) = [3] ∧ resumed spent = [4] ∧ resumed dropping = [] ∧
    (settle .A spent).floorA.grantOrder = [4] ∧ ((settle .A spent).seat 3).accTurns = 1 ∧
    leads (.priorityPress 1) (two paused) (fun t => t.floorA.grantOrder == [3] && (t.seat 4).floorState == .idle &&
      (t.seat 4).accTurns == 1 && (t.seat 3).accTurns == 0 && (t.seat 1).accTurns == 1) = true ∧
    leads (.priorityEnd console (.fields 0)) dropping (fun t => t.floorA.grantOrder == [] &&
      (t.seat 3).floorState == .idle && (t.seat 3).accTurns == 1 && (t.seat 1).accTurns == 1) = true := by decide +kernel
theorem test_hold_accounts_the_pressing_speaker :
    leads (.priorityPress 1) (speak 3 9000 (speak 1 9000 live)) (fun t => (t.seat 1).accTurns == 1 &&
      (t.seat 1).turn == none && (t.seat 3).accTurns == 0 && t.floorA.susp.map (·.seat) == [3]) = true := by decide +kernel
theorem test_cardIn_clauses :
    live.isSeatNode ⟨.b0, 3⟩ = true ∧ live.seatAt? ⟨.b0, 3⟩ = some 3 ∧
    leads (.cardIn .b0 3 7) live (fun t => (t.seat 3).presence == .card) = true ∧
    leads (.cardIn .b0 3 7) (meet .A .checkIn live) (fun t => (t.meeting .A).state == .inSession) = true ∧
    leads (.cardIn .b0 3 8) live (fun t => (t.seat 3).presence == .absent) = true ∧
    leads (.cardIn .b0 4 7) live (fun t => (t.plate 4).see == some 3) = true := by decide +kernel
theorem test_cardIn_elsewhere :
    leads (.cardIn .b0 23 7) live (fun t => t.lane0.counts.kind == 1) = true ∧
    leads (.cardIn .b0 3 7) room (fun t => (t.seat 3).presence == .absent) = true ∧
    leads (.cardIn .b0 1 7) (live.modSeat 1 (fun r => { r with binding := none })) (fun t => t.seats ==
      (live.modSeat 1 (fun r => { r with binding := none })).seats) = true ∧
    leads (.cardIn .b0 3 7) (power .sleep room) (fun t => t.pwr.state == .waking) = true := by decide +kernel

/-- Seat 3 is PRESENT by its card. -/
def carded : State := live.modSeat 3 (fun r => { r with presence := .card })

theorem test_cardOut_clauses :
    leads (.cardOut .b0 3 7) carded (fun t => (t.seat 3).presence == .absent) = true ∧
    leads (.cardOut .b0 3 8) carded (fun t => (t.seat 3).presence == .card) = true := by decide +kernel
theorem test_cardOut_releases :
    let s := rules (fun x => { x with presenceRequired := true })
      (orderly.modSeat 3 (fun r => { r with presence := .card }))
    leads (.cardOut .b0 3 7) s (fun t => (t.seat 3).floorState == .idle && (t.seat 3).accTurns == 1 &&
      t.floorA.grantOrder == [4]) = true ∧
    leads (.cardFlagLoss 3) s (fun t => (t.seat 3).floorState == .idle) = true ∧
    leads (.cardOut .b0 23 7) s (fun t => t.lane0.counts.kind == 1) = true := by decide +kernel
theorem test_cardFlagLoss : leads (.cardFlagLoss 3) carded (fun t => (t.seat 3).presence == .absent) = true := by
  decide +kernel
theorem test_turnWarning : busy.runningTurn 3 = some ⟨some 9000, false, false, 0, 0⟩ ∧
    (⟨some 9000, false, false, 0, 0⟩ : Turn).mayWarn busy.floorA.settings.warnLead = true ∧
    leads (.turnWarning 3) busy (fun t => t.lamp 3 == .blinkWarn) = true ∧
    leads (.turnWarning 3) (power .dim busy) (fun t => t.lamp 3 == .off) = true ∧
    leads (.turnWarning 3) (busy.modSeat 3 (fun r => { r with refusal := some 0 })) (fun t =>
      (t.seat 3).lamp == .blinkRefused) = true := by decide +kernel
theorem test_turnExpiry_clauses :
    leads (.turnExpiry 3) busy (fun t => (t.seat 3).floorState == .idle && (t.seat 3).accTurns == 1) = true ∧
    leads (.turnExpiry 3) (rules (fun x => { x with expiryAction := .notify }) busy) (fun t =>
      (t.seat 3).turn == some ⟨some 0, false, true, 0, 0⟩) = true := by decide +kernel
theorem test_overtimeSecond :
    let s := busy.modSeat 3 (fun r => { r with turn := some ⟨some 0, true, true, 65535, 1000⟩ })
    s.runningTurn 3 = some ⟨some 0, true, true, 65535, 1000⟩ ∧
    leads (.overtimeSecond 3) s (fun t => (t.seat 3).turn == some ⟨some 0, true, true, 65535, 0⟩) = true := by
  decide +kernel
theorem test_accountSecond_clauses :
    leads (.accountSecond 3) (busy.modSeat 3 (fun r => { r with accSeconds := 59 })) (fun t =>
      (t.seat 3).floorState == .idle && (t.seat 3).accTurns == 1 && (t.seat 3).accSeconds == 60) = true ∧
    leads (.accountSecond 3) (busy.modSeat 3 (fun r => { r with accSeconds := 60 })) (fun t =>
      (t.seat 3).floorState == .speaking && (t.seat 3).accSeconds == 61) = true ∧
    leads (.accountSecond 1) (held.modSeat 1 (fun r => { r with accSeconds := 65535 })) (fun t =>
      (t.seat 1).floorState == .priority && (t.seat 1).accSeconds == 65535) = true := by decide +kernel
theorem test_millisecond_judges :
    let s := busy.modSeat 3 (fun r => { r with accSeconds := 59, accRem := 999 })
    ((tick s).seat 3).floorState = .idle ∧ ((tick s).seat 3).accTurns = 1 ∧
    judgeTurns live (moveOn live) = moveOn live ∧
    ((tick (live.modChan 3 (fun r => { r with msPeak := 30000 }))).chan 3).gate = .opened ∧
    let u := rules (fun x => { x with warnLead := 9 }) busy
    (moveOn u).warnDue 3 = true ∧ (moveOn busy).warnDue 3 = true ∧ (((tick u).seat 3).turn.map (·.warned)) = some true ∧
    let v := busy.modSeat 3 (fun r => { r with turn := some ⟨some 1, true, false, 0, 0⟩ })
    (moveOn v).expiryDue 3 = true ∧ ((tick v).seat 3).floorState = .idle ∧
    (orderly.modSeat 3 (fun r => { r with accSeconds := 60 })).runningTurn 3 = some ⟨some 9000, false, false, 0, 0⟩ ∧
    ((orderly.modSeat 3 (fun r => { r with accSeconds := 60 })).seat 3).exhausted = true := by decide +kernel
theorem test_refusalDisplayEnd : leads (.refusalDisplayEnd 3) (busy.modSeat 3 (fun r => { r with refusal := some 0 })) (fun t =>
    (t.seat 3).lamp == .on) = true := by decide +kernel
theorem test_seeSeatDisplayEnd : leads (.seeSeatDisplayEnd 48) (live.modPlate 48 (fun p => { p with see := some 3 })) (fun t =>
    (t.plate 48).see == none) = true := by decide +kernel

/-! ## Voices and the wall -/

/-- What a gate with open band 2, close band 4 and hang time 100 becomes at a peak: gate, hang count, opening time. -/
def gates (g : GateState) (h : Option Nat) (peak : Nat) : GateState × Option Nat × Option Nat :=
  let c : Chan := Chan.evaluate ⟨2, 4, 100⟩ 9 { Reset.chan with gate := g, hang := h, msPeak := peak }
  (c.gate, c.hang, c.opening)

theorem test_bands : bandOf 32768 = 0 ∧ bandOf 26029 = 0 ∧ bandOf 26028 = 1 ∧ bandOf 164 = 22 ∧ bandOf 163 = 23 ∧
    (⟨2, 4, 100⟩ : GateSettings).inRange := by unfold GateSettings.inRange; decide +kernel
theorem test_gates_clauses :
    gates .closed none 16423 = (.opened, none, some 9) ∧ gates .closed none 16422 = (.closed, none, none) ∧
    gates .opened none 13045 = (.opened, none, none) ∧ gates .opened none 13044 = (.hang, some 0, none) ∧
    gates .hang (some 5) 16423 = (.opened, none, none) ∧ gates .hang (some 98) 0 = (.hang, some 99, none) ∧
    gates .hang (some 99) 0 = (.closed, none, none) := by decide +kernel
theorem test_voiceEvaluation : leads .voiceEvaluation (busy.modChan 3 (fun r => { r with msPeak := 30000 })) (fun t =>
    (t.chan 3).gate == .opened && (t.chan 3).opening == some 0 && (t.chan 50) == busy.chan 50) = true := by decide +kernel
theorem test_hangExpiry : busy.chanRunning 49 = true ∧
    leads (.hangExpiry 49) (busy.modChan 49 (fun r => { r with gate := .hang })) (fun t =>
      (t.chan 49).gate == .closed) = true := by decide +kernel
theorem test_voiceRelease : leads (.voiceRelease 3) (mode .voice (busy.modSeat 3 (fun r => { r with release := some 0 })))
    (fun t => (t.seat 3).floorState == .idle && (t.seat 3).accTurns == 1 && t.floorA.grantOrder == [4]) = true := by
  decide +kernel

theorem test_gate_update :
    let open_ (n x : Nat) : State → State := State.modChan n (fun r => { r with gate := .opened, opening := some x })
    let voiced (k : Nat) : State := mode .voice ((speak 3 9000 live).modSeat 3 (fun r => { r with release := some k }))
    let speakers (s : State) : List Nat := (gateUpdate .A s).floorA.grantOrder
    (voiced 4999).live .A = true ∧ (voiced 4999).floorA.settings.voiceRelease = 5 ∧
    speakers (voiced 4998) = [3] ∧ speakers (voiced 4999) = [] ∧
    ((gateUpdate .A (voiced 4998)).seat 3).release = some 4999 ∧
    ((gateUpdate .A (open_ 3 0 (voiced 4998))).seat 3).release = some 0 ∧
    speakers (open_ 4 7 (open_ 2 8 (open_ 1 8 (voiced 0)))) = [3, 4, 1, 2] ∧
    speakers (rules (fun x => { x with openMicLimit := 2 }) (open_ 4 7 (open_ 2 6 (voiced 0)))) = [3, 2] := by decide +kernel
theorem test_grant_pass :
    let s := wait 3 (wait 2 (speak 4 9 live))
    let limit (k : Nat) (s : State) : State := rules (fun x => { x with openMicLimit := k }) s
    (grantPass .A s).floorA.grantOrder = [4, 2, 3] ∧ (grantPass .A (limit 2 s)).floorA.grantOrder = [4, 2] ∧
    (grantPass .A (limit 2 s)).floorA.queue = [3] ∧ grantPass .A (limit 1 s) = limit 1 s ∧
    grantPass .A (rules (fun x => { x with autoGrant := false }) s) = rules (fun x => { x with autoGrant := false }) s := by
  decide +kernel

theorem test_wallReadingChange : room.part.reading = .absent ∧
    leads (.wallReadingChange .closed) room (fun t => t.part.reading == .closed && t.part.settle == some (.closed, 0)) = true ∧
    leads (.wallReadingChange .moving) (parting room) (fun t => t.part.settle == none) = true := by decide +kernel
theorem test_settleComplete : PartitionLaw (parting room) ∧ PartitionLaw (parting live) ∧
    leads .settleComplete (parting room) (fun t => t.part.target == .split && t.part.partition == .split) = true ∧
    leads .settleComplete (parting live) (fun t => t.part.target == .split && t.part.partition == .combined) = true := by
  unfold PartitionLaw; decide +kernel

/-! ## Power -/

/-- The room asleep, its branches in BEACON. -/
def asleep : State :=
  power .sleep ((room.modBr .b0 (fun r => { r with state := .beacon })).modBr .b1 (fun r => { r with state := .beacon }))

/-- The room in WAKING, at its first stage. -/
def waking : State :=
  let s := power .waking asleep
  { s with pwr := { s.pwr with progress := .started, start := some 0 } }

theorem test_sleep_clauses :
    told (power .sleep room) (.sleep console (.fields ())) .already = true ∧
    told (power .waking room) (.sleep console (.fields ())) .state = true ∧
    told live (.sleep console (.fields ())) .state = true ∧
    leads (.sleep console (.fields ())) (room.modChan 1 (fun r => { r with gate := .hang, hang := some 4 })) (fun t =>
      t.pwr.state == .sleep && t.br0.state == .beacon && t.br1.state == .beacon && (t.chan 1).gate == .closed) = true ∧
    leads .dimEntry room (fun t => t.pwr.state == .dim && t.br0.state == .running) = true := by decide +kernel
theorem test_wake_clauses :
    let masked (s : State) : State := { s with pwr := { s.pwr with maskConsole := false } }
    leads (.wake console (.fields ())) { room with pwr := { room.pwr with idle := 9 } } (fun t => t.pwr.idle == 0) = true ∧
    told waking (.wake console (.fields ())) .already = true ∧
    told (masked (power .dim room)) (.wake console (.fields ())) .state = true ∧
    told (masked asleep) (.wake console (.fields ())) .state = true ∧
    leads (.wake console (.fields ())) (power .dim room) (fun t => t.pwr.state == .active) = true ∧
    leads (.wake console (.fields ())) (power .sleep room) (fun t => codeIn t == some 0 && t.pwr.state == .waking) = true := by
  decide +kernel
theorem test_wake_stages :
    waking.pwr.state = .waking ∧ waking.pwr.progress = .started ∧
    leads .trunkLock waking (fun t => t.pwr.progress == .trunkLock) = true ∧
    leads .wakeTimeout waking (fun t => t.pwr.state == .active && t.pwr.progress == .none) = true := by decide +kernel
theorem test_keyToPower_clauses :
    asleep.givesKeys 1 = true ∧
    leads (.keyToPower 1 .mic .release) asleep (fun t => t.pwr == asleep.pwr) = true ∧
    leads (.keyToPower 1 .mic .press) (power .dim room) (fun t => t.pwr.state == .active) = true ∧
    leads (.keyToPower 1 .mic .press) asleep (fun t => t.pwr.state == .waking && t.pwr.carried == some (1, .mic) &&
      t.pwr.pendingEvent == some (.key 1 .mic)) = true ∧
    leads (.keyToPower 1 .next .press) waking (fun t => t.pwr.pendingEvent == some (.key 1 .next)) = true ∧
    leads (.keyToPower 1 .next .press) { waking with pwr := { waking.pwr with pendingEvent := some (.card 2 5) } } (fun t =>
      t.pwr.pendingEvent == some (.card 2 5)) = true := by decide +kernel
theorem test_cardToPower_clauses :
    asleep.seatAt? ⟨.b0, 2⟩ = some 2 ∧
    leads (.cardToPower .b0 2 5) { asleep with pwr := { asleep.pwr with maskCard := false } } (fun t =>
      t.pwr.state == .sleep) = true ∧
    leads (.cardToPower .b0 2 5) (power .dim room) (fun t => t.pwr.state == .active) = true ∧
    leads (.cardToPower .b0 2 5) asleep (fun t => t.pwr.pendingEvent == some (.card 2 5)) = true ∧
    leads (.cardToPower .b0 2 5) waking (fun t => t.pwr.pendingEvent == some (.card 2 5)) = true := by decide +kernel

/-! ## The trunk -/

/-- A message with its check, from the node at a position of branch 0. -/
def messageFrom (p : Nat) (dest kind : Octet) (payload : List Octet) : List Octet :=
  let os := [dest, BitVec.ofNat 8 p, kind, BitVec.ofNat 8 payload.length] ++ payload
  let c := Fmt.crc16 os
  os ++ [c.extractLsb' 8 8, c.extractLsb' 0 8]

/-- A good RUNNING slot with a sample and a status octet, a slot with a wrong check, and a frame of slots. -/
def goodOne (x : Octet) (st : Octet) : UpSlot := ⟨x, 0, st, 0, Fmt.crc8 [x, 0, st, 0]⟩
def badOne : UpSlot := { goodOne 5 0 with check := 1 ^^^ Fmt.crc8 [5, 0, 0, 0] }
def frame (l : List (Option UpSlot)) : UpFrame := ⟨0x7E, 1, 0, 0, l⟩

/-- What a slot makes of the entry at position 1: link runs, window count, bad samples and current sample. -/
def slotTo (e : NodeEntry) (x : Option UpSlot) : List Nat :=
  let y := e.takeSlot true (frame [x])
  [y.badRun, y.goodRun, y.window, y.badSamples, y.current.toNat]

theorem test_node_tables : NodeTablesInOrder room ∧ NodeTablesInOrder busy :=
  ⟨fun b => by cases b <;> exact ⟨by decide +kernel, by decide +kernel, fun r h => by cases h⟩,
   fun b => by cases b <;> exact ⟨by decide +kernel, by decide +kernel, fun r h => by cases h⟩⟩
theorem test_slot_clauses :
    let e : NodeEntry := { node 1 0 101 with badRun := 9, goodRun := 3, held := 77, badSamples := 15, window := 65535 }
    slotTo e (some (goodOne 5 0x18)) = [0, 3, 65535, 0, 1280] ∧ slotTo e none = [10, 0, 65535, 16, 77] ∧
    slotTo { e with badSamples := 16, window := 0 } (some badOne) = [10, 0, 1, 17, 0] ∧
    slotTo { e with link := .lost } (some (goodOne 5 0)) = [9, 4, 65535, 0, 1280] ∧
    (e.takeSlot true (frame [some (goodOne 5 0x14)])).waiting = true ∧
    (e.takeSlot true (frame [some (goodOne 5 0x14)])).fault = true := by decide +kernel
theorem test_link_limits :
    ({ node 1 0 1 with badRun := 799 } : NodeEntry).reaches true = false ∧
    ({ node 1 0 1 with badRun := 800 } : NodeEntry).reaches true = true ∧
    ({ node 1 0 1 with badRun := 50 } : NodeEntry).reaches false = true ∧
    ({ node 1 0 1 with link := .lost, goodRun := 1599 } : NodeEntry).reaches true = false ∧
    ({ node 1 0 1 with link := .lost, goodRun := 100 } : NodeEntry).reaches false = true := by decide +kernel
theorem test_nodeLinkLost : room.entry? ⟨.b0, 1⟩ = some (node 1 0 101) ∧
    leads (.nodeLinkLost .b0 1) room (fun t => (t.entry? ⟨.b0, 1⟩).map (·.link) == some .lost &&
      t.br0.counter.value == 1 && t.entry? ⟨.b0, 2⟩ == room.entry? ⟨.b0, 2⟩) = true := by decide +kernel
theorem test_nodeLinkLost_releases : orderly.seatAt? ⟨.b0, 3⟩ = some 3 ∧
    leads (.nodeLinkLost .b0 3) orderly (fun t => (t.seat 3).floorState == .idle && (t.seat 3).accTurns == 1 &&
      !t.floorA.named.contains 3) = true := by decide +kernel
theorem test_nodeLinkRecovered :
    let s := room.modEntry ⟨.b0, 1⟩ (fun e => { e with link := .lost, goodRun := 1600 })
    leads (.nodeLinkRecovered .b0 1) s (fun t => t.entry? ⟨.b0, 1⟩ == some (node 1 0 101)) = true := by decide +kernel
theorem test_windows :
    let e (l : Link) (w : Nat) : NodeEntry := { node 1 0 1 with link := l, window := w, whole := true }
    (e .ok 31).judged = .ok ∧ (e .ok 32).judged = .degraded ∧ (e .degraded 5).judged = .degraded ∧
    (e .degraded 4).judged = .ok ∧ (e .lost 0).judged = .lost ∧ ({ e .ok 32 with whole := false } : NodeEntry).judged = .ok ∧
    leads .linkWindowEnd (room.modEntry ⟨.b0, 1⟩ (fun x => { x with window := 32, whole := true })) (fun t =>
      (t.entry? ⟨.b0, 1⟩).map (fun x => (x.link, x.window)) == some (.degraded, 0)) = true := by decide +kernel
theorem test_upFrame_clauses :
    leads (.upFrame .b0 { frame [] with marker := 0 }) State.reset (fun t => t.br0.upCount == 0 && !t.br0.frameSeen) = true ∧
    leads (.upFrame .b0 (frame [])) State.reset (fun t => t.br0.upCount == 1 && t.br0.frameSeen) = true ∧
    leads (.upFrame .b0 (frame [])) (room.modBr .b0 (fun r => { r with state := .enumerating })) (fun t =>
      t.br0.fullCount == 1) = true ∧
    leads (.upFrame .b0 (frame [some (goodOne 5 0x08)])) live (fun t => (t.chan 1).msPeak == 1280 && (t.seat 1).cardFlag &&
      (t.entry? ⟨.b0, 1⟩).map (·.current) == some 1280 && t.br0.counter.value == 7) = true := by decide +kernel
theorem test_upFrame_brings_a_branch_up :
    let at_ (n : Nat) : State := State.reset.modBr .b0 (fun r => { r with upCount := n })
    leads (.upFrame .b0 (frame [])) (at_ 14) (fun t => t.br0.state == .down && t.br0.upCount == 15) = true ∧
    leads (.upFrame .b0 (frame [])) (at_ 15) (fun t => t.br0.state == .enumerating) = true ∧
    leads (.upFrame .b0 (frame [])) (power .sleep (at_ 15)) (fun t => t.br0.state == .beacon) = true := by decide +kernel
theorem test_upFrame_completes_a_message :
    let os := messageFrom 1 0 0x20 [7]
    let s : State := { room with lane0 := { Reset.lane with
      turn := .receiving 1 0, places := [⟨os.take 6, 1, .receiving, 0⟩] } }
    let f : UpFrame := { frame [] with flags := 0x40, element := os.getD 6 0 }
    let v := takeStations .b0 true f (s.modBr .b0 (fun r => { r with frameSeen := true, fullCount := 1 }))
    v.lane0 = s.lane0 ∧ messageDone (v.lane0.receiving ++ [f.element]) = true ∧
    leads (.upFrame .b0 f) s (fun t => t.lane0.turn == .free && t.lane0.last == 1 && t.pending == [] && leads (.laneMessageComplete .b0 1 os) v (· == t)) = true := by decide +kernel
theorem test_upFrame_changes_links :
    let s := room.modEntry ⟨.b0, 1⟩ (fun e => { e with badRun := 799 })
    leads (.upFrame .b0 (frame [])) s (fun t => (t.entry? ⟨.b0, 1⟩).map (·.link) == some .lost) = true := by decide +kernel
theorem test_upFrame_takes_an_element :
    let s := { room with lane0 := { Reset.lane with turn := .receiving 1 3, places := [⟨[0, 1], 1, .receiving, 0⟩] } }
    leads (.upFrame .b0 { frame [] with flags := 0x40, element := 0x20 }) s (fun t =>
      t.lane0.receiving == [0, 1, 0x20] && t.lane0.turn == .receiving 1 0) = true ∧
    messageDone (s.lane0.receiving ++ [0x20]) = false := by decide +kernel
theorem test_upFrame_feeds_the_checker :
    let s : State := { room with test := some { newTest 2 ⟨.b0, 2⟩ 5 with reference := some 2, matchRun := 3 } }
    let good : UpSlot := ⟨0, 12, 0, 0, Fmt.crc8 [0, 12, 0, 0]⟩
    leads (.upFrame .b0 (frame [none, some good])) s (fun t => t.test.map (·.matchRun) == some 4) = true ∧
    leads (.upFrame .b0 (frame [])) s (fun t => t.test.map (·.matchRun) == some 0) = true ∧
    leads (.upFrame .b1 (frame [])) s (fun t => t.test == s.test) = true := by decide +kernel

/-- A sleeping room whose branch 0 is at the last octet of a CARD_IN of card 7 from seat 3's station. -/
def carding : State :=
  { asleep with lane0 := { Reset.lane with
      turn := .receiving 3 0, places := [⟨(messageFrom 3 0 1 [0, 0, 0, 7]).take 9, 3, .receiving, 0⟩] } }

theorem test_upFrame_wakes :
    let os := messageFrom 3 0 1 [0, 0, 0, 7]
    let f : UpFrame := { frame [] with flags := 0x40, element := os.getD 9 0 }
    carding.lane0.receiving ++ [f.element] = os ∧ messageDone os = true ∧ Fmt.crc16 os = 0 ∧
    os.getD 1 0 = (⟨.b0, 3⟩ : Binding).octet ∧ carding.taken (os.headD 0) = true ∧ cardOf (payloadOf os) = some 7 ∧
    carding.isSeatNode ⟨.b0, 3⟩ = true ∧ carding.seatAt? ⟨.b0, 3⟩ = some 3 ∧ carding.pwr.maskCard = true ∧
    carding.pwr.state = .sleep ∧ carding.br0.state = .beacon ∧
    carding.br0.table.all (fun e => !decide ((e.takeSlot false f).reaches false = true)) = true ∧
    leads (.upFrame .b0 f) carding (fun t => t.pwr.state == .waking && t.pwr.pendingEvent == some (.card 3 7) &&
      t.br0.state == .enumerating && t.br0.table == []) = true := by decide +kernel
theorem test_downFrame_clauses :
    leads (.downFrame .b0) State.reset (fun t => t.br0.lastDown == some emptyFrame) = true ∧
    leads (.downFrame .b0) (room.modBr .b0 (fun r => { r with state := .enumerating, roll := some ⟨3, true, 0, 0, []⟩ })) (fun t =>
      t.br0.lastDown.map (fun d => (d.kind, d.roll)) == some (.roll, some (true, 3)) &&
      t.br0.roll == some ⟨3, false, 0, 0, []⟩) = true ∧
    leads (.downFrame .b0) asleep (fun t => t.br0.lastDown.map (fun d => (d.kind, d.slots)) == some (.beacon, [])) = true := by
  decide +kernel
theorem test_every_downFrame_computes :
    let at_ (x : BranchState) : State := loud.modBr .b0 (fun r => { r with state := x })
    let does (x : BranchState) : Bool := leads (.downFrame .b0) (at_ x) (fun t =>
      t.satur.getD 6 0 == 1 && t.latestA == (loud.contributors .A, loud.openCount .A))
    loud.latestA = ([], 0) ∧ (loud.contributors .A).length ≠ 0 ∧ does .down = true ∧ does .enumerating = true ∧
    does .running = true ∧ does .beacon = true := by decide +kernel

/-- The room with a test of seat 2 and an insertion at position 1 waiting. -/
def probing : State :=
  let s := room.modBr .b0 (fun r => { r with insertion := some (1, console) })
  { s with test := some (newTest 2 ⟨.b0, 2⟩ 5), cru := { s.cru with phase := .testFrame .b0 } }

theorem test_running_downFrame :
    room.outputAt ⟨.b0, 2⟩ = some 2 ∧ room.outputAt ⟨.b0, 9⟩ = none ∧ TablesWhole probing ∧
    leads (.downFrame .b0) probing (fun t => codeIn t == some 0 && t.cru.phase == .idle && t.br0.insertion == none &&
      match t.br0.lastDown with
      | none => false
      | some d => d.slots.length == 24 && (d.slots.getD 1 (downSlot 0 .off false false)).sample == 2 &&
          (d.slots.getD 1 (downSlot 0 .off false false)).loop &&
          d.slots.getD 8 (downSlot 1 .off false false) == downSlot 0 .off false false) = true := by
  unfold TablesWhole; decide +kernel
theorem test_downFrame_octets :
    DownFrame.octets ⟨.beacon, true, some (0x55, true), 9, none, []⟩ = [0x7E, 3, 0xE0, 0x55, 9] ∧
    DownFrame.octets ⟨.roll, false, none, 0, some (true, 25), []⟩ = [0x7E, 2, 0, 0, 0x99] ∧
    DownFrame.octets emptyFrame = [0x7E, 0, 0, 0, 0] ∧
    DownFrame.octets ⟨.running, false, some (7, false), 24, none, [⟨0x1234, .blinkWarn, true, false, 0x9A⟩]⟩ =
      [0x7E, 1, 0x40, 7, 24, 0x12, 0x34, BitVec.ofNat 8 (Lamp.blinkWarn.ctorIdx * 32 + 16), 0x9A] := by decide +kernel
theorem test_branchUp_clauses :
    leads (.branchUp .b0) { State.reset with br1 := room.br1 } (fun t => t.br0.state == .enumerating &&
      t.br0.roll == some ⟨1, true, 0, 0, []⟩ && t.br1 == room.br1) = true ∧
    leads (.branchUp .b0) (power .sleep State.reset) (fun t => t.br0.state == .beacon && t.br0.roll == none) = true ∧
    leads (.branchUp .b0) room (fun t => t == room) = true := by decide +kernel
theorem test_branchDown_clauses :
    leads (.branchDown .b0) busy (fun t => t.br0.state == .down && t.br0.table.all (fun e => e.link == .lost) &&
      t.floorA.grantOrder == [] && t.lane0.places == []) = true ∧
    leads (.branchDown .b0) State.reset (fun t => t == State.reset) = true := by decide +kernel
theorem test_branches_release :
    leads (.branchDown .b0) orderly (fun t => (t.seat 3).floorState == .idle && (t.seat 4).floorState == .idle &&
      t.floorA.named == []) = true ∧
    leads (.branchUp .b0) (orderly.modBr .b0 (fun r => { r with state := .down })) (fun t =>
      (t.seat 3).floorState == .idle && (t.seat 3).binding == none && t.floorA.named == []) = true := by decide +kernel

/-- Branch 0 ENUMERATING at a position with a number of damaged replies, and a good reply of a seat. -/
def rolling (p d : Nat) : State := room.modBr .b0 (fun r => { r with state := .enumerating, table := [], roll := some ⟨p, false, d, 3, []⟩ })
def reply (kind : Octet) : RollReply := ⟨kind, 101, Fmt.crc8 (kind :: Fmt.serial 101)⟩

theorem test_enumeration_clauses :
    leads (.rollReply .b0 (reply 0)) (rolling 24 0) (fun t => t.br0.state == .enumerating &&
      t.br0.table == [] && t.br0.roll == some ⟨25, false, 0, 0, [node 24 0 101]⟩) = true ∧
    leads (.rollReply .b0 (reply 0x80)) (rolling 3 0) (fun t => t.br0.state == .running &&
      (t.seat 1).binding == some ⟨.b0, 3⟩) = true ∧
    leads (.rollReply .b0 (reply 0)) (rolling 25 0) (fun t => t.br0.state == .running && t.br0.table == []) = true ∧
    leads (.rollReply .b0 { reply 0 with kind := 1 }) (rolling 1 2) (fun t => t.br0.roll == some ⟨1, false, 3, 0, []⟩) = true ∧
    leads (.rollReply .b0 { reply 0 with kind := 1 }) (rolling 1 3) (fun t => t.br0.state == .running) = true ∧
    leads (.rollSilence .b0) (rolling 1 0) (fun t => t.br0.state == .running) = true := by decide +kernel

/-! ## Lanes and queues -/

/-- A message from the node at position 1 of branch 0. -/
def message (dest kind : Octet) (payload : List Octet) : List Octet := messageFrom 1 dest kind payload

theorem test_message_check : Fmt.crc16 (message 0x18 0x55 [1, 2, 3]) = 0 := by decide +kernel
theorem test_message_clauses :
    leads (.laneMessageComplete .b0 1 [0, 1, 2, 0, 5, 5]) room (fun t => t.lane0.counts.crc == 1 && t.lane0.last == 1) = true ∧
    leads (.laneMessageComplete .b0 2 (message 0x18 0x55 [])) room (fun t => t.lane0.counts.source == 1) = true ∧
    leads (.laneMessageComplete .b0 1 (message 0x00 0x55 [])) room (fun t => t.lane0.places.length == 1) = true ∧
    leads (.laneMessageComplete .b0 1 (message 0xFF 0x55 [])) room (fun t => t.lane0.places.length == 1 &&
      t.lane1.out.length == 1) = true ∧
    leads (.laneMessageComplete .b0 1 (message 0x13 0x55 [])) room (fun t => t.lane0.counts.relayDrop == 1) = true ∧
    leads (.laneMessageComplete .b0 1 (message 0x18 0x55 [])) room (fun t =>
      t.lane0.out.contains (.relayed (message 0x18 0x55 []))) = true ∧
    leads (.laneMessageComplete .b0 1 (message 0x00 0x55 [])) { room with lane0 :=
        { Reset.lane with places := List.replicate 4 ⟨[], 9, .relay .b1, 0⟩ } } (fun t =>
      t.lane0.places.length == 4 && t.lane0.turn == .free) = true := by decide +kernel

/-- The nodes at two positions of branch 0 wait for the turn, which was last served at position 3. -/
def asking : State :=
  let ask (e : NodeEntry) : NodeEntry := { e with waiting := true }
  { (room.modEntry ⟨.b0, 2⟩ ask).modEntry ⟨.b0, 21⟩ ask with lane0 := { Reset.lane with last := 3 } }

theorem test_turn_clauses :
    leads (.turnOffer .b0) asking (fun t => t.lane0.turn == .offered 21 0) = true ∧
    leads (.turnOffer .b0) { asking with lane0 := { asking.lane0 with last := 21 } } (fun t =>
      t.lane0.turn == .offered 2 0) = true ∧
    leads (.turnOffer .b0) room (fun t => t == room) = true ∧
    leads (.turnOfferLapse .b0) { room with lane0 := { Reset.lane with turn := .offered 5 8 } } (fun t =>
      t.lane0.turn == .free && t.lane0.last == 5) = true ∧
    leads (.receptionGapTimeout .b0) { room with lane0 :=
        { Reset.lane with turn := .receiving 5 4, places := [⟨[0], 5, .receiving, 0⟩] } } (fun t =>
      t.lane0.turn == .free && t.lane0.places == [] && t.lane0.counts.framing == 1) = true := by decide +kernel
/-- The lane of branch 0 after an element: the turn, the places held, the framing errors and the hold violations. -/
def gets (l : Lane) (e : Option (Octet × Bool)) : LaneTurn × Nat × Nat × Nat :=
  let l := (takeElement .b0 e { room with lane0 := l }).lane0
  (l.turn, l.places.length, l.counts.framing, l.counts.holdViolation)

/-- Four occupied message places, and a reception from position 5 with some octets and a count of silent element times. -/
def fourPlaces : List Place := List.replicate 4 ⟨[], 9, .relay .b0, 0⟩
def receives (os : List Octet) (g : Nat) : Lane :=
  { Reset.lane with turn := .receiving 5 g, places := [⟨os, 5, .receiving, 0⟩] }

theorem test_element_clauses :
    gets Reset.lane (some (1, true)) = (.free, 0, 1, 0) ∧
    gets { Reset.lane with places := fourPlaces } (some (1, true)) = (.free, 4, 0, 1) ∧
    gets Reset.lane (some (1, false)) = (.free, 0, 0, 0) ∧
    gets { Reset.lane with turn := .offered 5 6 } (some (1, true)) = (.receiving 5 0, 1, 0, 0) ∧
    gets { Reset.lane with turn := .offered 5 6 } (some (1, false)) = (.offered 5 7, 0, 0, 0) ∧
    gets { Reset.lane with turn := .offered 5 7 } none = (.free, 0, 0, 0) ∧
    gets { Reset.lane with turn := .offered 5 0, places := fourPlaces } (some (1, true)) =
      (.offered 5 0, 4, 0, 1) := by decide +kernel
theorem test_element_clauses_receiving :
    gets (receives [0] 3) none = (.receiving 5 4, 1, 0, 0) ∧ gets (receives [0] 4) none = (.free, 0, 1, 0) ∧
    gets (receives [0] 0) (some (1, true)) = (.free, 0, 1, 0) ∧
    gets (receives [0] 2) (some (1, false)) = (.receiving 5 0, 1, 0, 0) ∧
    gets (receives (0 :: 0 :: 0 :: 61 :: List.replicate 61 0) 0) (some (1, false)) = (.free, 0, 1, 0) ∧
    gets (receives (0 :: 0 :: 0 :: 61 :: List.replicate 60 0) 0) (some (1, false)) = (.receiving 5 0, 1, 0, 0) ∧
    gets (receives [0, 5, 0x20, 0, 1] 0) (some (1, false)) = (.free, 0, 0, 0) := by decide +kernel
theorem test_node_tables_asking : NodeTablesInOrder asking :=
  fun b => by cases b <;> exact ⟨by decide +kernel, by decide +kernel, fun r h => by cases h⟩

/-- A waiting message of every source for branch 0: a relay, a directive, a report and an answer. -/
def laden : State :=
  let d : Directive := ⟨.plate ⟨.b0, 1⟩, [0]⟩
  { room with
    lane0 := { Reset.lane with places := [⟨message 0x18 0x55 [], 1, .relay .b0, 3⟩] }
    sd := { room.sd with waiting := [d] }
    cru := { room.cru with
      address := some ⟨.b0, 23⟩
      reports := [⟨.key, 0, []⟩]
      waiting := some (.b0, answerMessage console .ok [] .plain) } }

/-- The head of a queue of two, the first of them marked. -/
def sending (m : OutMark) (s : State) : State :=
  { s with lane0 := { s.lane0 with out := [.own 23 0x10 [7, 0] m, .own 23 0x10 [8, 0] .plain], sent := 7 } }

theorem test_outbound_clauses :
    laden.addressValid = true ∧ laden.relaysFor .b0 ≠ [] ∧ laden.targetBranch (.plate ⟨.b0, 1⟩) = some .b0 ∧
    leads (.outboundMessageSent .b0) (sending .plain room) (fun t => t.lane0.out.length == 1 && t.lane0.sent == 0) = true ∧
    leads (.outboundMessageSent .b0) (sending .resetAnswer laden) (fun t => t.lane0.out.length == 2 &&
      t.lane0.rotation == .answer && t.cru.waiting == none) = true ∧
    leads (.outboundMessageSent .b0) (sending .resetAnswer room) (fun t => t.cru.phase == .resetDue) = true ∧
    leads (.outboundMessageSent .b0) room (fun t => t == room) = true := by decide +kernel
theorem test_rotation_and_directives :
    let at_ (x : Source) : State := laden.modLane .b0 (fun l => { l with rotation := x })
    let d (t : Target) (x : Octet) : Directive := ⟨t, [x]⟩
    (at_ .report).nextSource .b0 = some .answer ∧ (at_ .answer).nextSource .b0 = some .relay ∧
    (at_ .relay).nextSource .b0 = some .directive ∧ (at_ .directive).nextSource .b0 = some .report ∧
    room.nextSource .b0 = none ∧ room.waitsFor .b0 .report = false ∧
    joinWaiting (d (.camera 1) 9) [d (.camera 1) 8, d (.camera 2) 7] = [d (.camera 1) 9, d (.camera 2) 7] ∧
    joinWaiting (d (.camera 3) 9) [d (.camera 1) 8] = [d (.camera 1) 8, d (.camera 3) 9] ∧
    joinWaiting (d (.screenPower 1) 9) [d (.screenShow 1) 8, d (.camera 2) 7] =
      [d (.screenPower 1) 9, d (.screenShow 1) 8, d (.camera 2) 7] ∧
    joinWaiting (d (.screenShow 1) 9) [d (.screenPower 1) 8, d (.camera 2) 7] =
      [d (.screenPower 1) 8, d (.screenShow 1) 9, d (.camera 2) 7] := by decide +kernel
theorem test_report_queue :
    let r (k : Nat) : Report := ⟨.key, k, []⟩
    let s (l m : Nat) : State := { room with cru := { room.cru with reports := (List.range l).map r, made := (List.range m).map r } }
    let known : State := { room with cru := { room.cru with address := some ⟨.b0, 23⟩, lost := 9, hello := none } }
    (s 31 2).addressValid = false ∧ ((deliver (s 31 2)).cru.reports.length, (deliver (s 31 2)).cru.lost) = (32, 1) ∧
    ((deliver (s 30 2)).cru.reports.length, (deliver (s 30 2)).cru.lost, (deliver (s 30 2)).cru.made) = (32, 0, []) ∧
    report .key [] room = room ∧ (report .key [] known).cru.made = [⟨.key, 0, []⟩] ∧
    known.addressValid = true ∧ known.atOnce .b0 = true ∧
    (deliverReport (r 0) known).lane0.out = [reportMessage ⟨.b0, 23⟩ 9 (r 0)] ∧ (deliverReport (r 0) known).cru.lost = 0 ∧
    (deliverReport (r 0) laden).cru.reports.length = 2 ∧
    gateReport 3 .stopped known = known ∧ nodeReport ⟨.b0, 1⟩ (node 1 0 101) .ok known = known ∧
    cardReport 3 7 .present none .cardIn false known = known ∧
    room.lowest .console = some ⟨.b0, 23⟩ ∧ room.cru.hello.isSome = true ∧
    ((chooseAddress room).cru.made.map (·.kind), (chooseAddress room).cru.hello) = ([.hello], none) ∧
    (chooseAddress known).cru.made = [] ∧ State.reset.lowest .console = none := by decide +kernel
theorem test_placed_clauses :
    leads .answerPlaced laden (fun t => t.cru.waiting == none && t.lane0.rotation == .answer && codeIn t == some 0) = true ∧
    leads (.relayPlaced .b0) laden (fun t => t.lane0.places == [] && t.lane0.out.length == 1) = true ∧
    leads .reportPlaced laden (fun t => t.cru.reports == [] && t.lane0.out.length == 1) = true ∧
    leads .directiveHandedOn laden (fun t => t.sd.waiting == [] && t.lane0.out.length == 1) = true := by decide +kernel

/-! ## The laws -/

theorem test_power_law : PowerLaw room ∧ PowerLaw asleep := by
  unfold PowerLaw; decide +kernel
theorem test_lane_bounded : laden.lane0.out.length ≤ 16 ∧ laden.lane0.places.length ≤ 4 ∧ laden.cru.reports.length ≤ 32 := by
  decide +kernel
theorem test_queues_bounded : QueuesBounded room ∧ QueuesBounded laden :=
  ⟨⟨⟨by decide +kernel, by decide +kernel, fun p g h => by cases h⟩,
    ⟨by decide +kernel, by decide +kernel, fun p g h => by cases h⟩, by decide +kernel⟩,
   ⟨⟨by decide +kernel, by decide +kernel, fun p g h => by cases h⟩,
    ⟨by decide +kernel, by decide +kernel, fun p g h => by cases h⟩, by decide +kernel⟩⟩
theorem test_reset_profile_in_range : Reset.profile.inRange :=
  ⟨by unfold FloorSettings.inRange; decide, by unfold GateSettings.inRange; decide,
   ⟨⟨by decide, by decide⟩, ⟨by decide, by decide⟩, ⟨by decide, by decide⟩, trivial, by decide, by decide⟩, by decide⟩
/-- The settings of reset, but for the mode of floor A, are within their ranges. -/
theorem settingsKept {s : State} (m : Mode) (h : s.floorA.settings = { Reset.profile.floor with mode := m } ∧
    s.floorA.gate = Reset.profile.gate ∧ s.floorA.mix = Reset.profile.mix ∧
    s.floorB.settings = Reset.profile.floor ∧ s.floorB.gate = Reset.profile.gate ∧
    s.floorB.mix = Reset.profile.mix ∧ s.profiles = List.replicate 8 Reset.profile) : SettingsInRange s := by
  have hp := test_reset_profile_in_range
  obtain ⟨a, b, c, d, e, f, g⟩ := h
  refine ⟨⟨?_, b ▸ hp.2.1, c ▸ hp.2.2.1⟩, ⟨d ▸ hp.1, e ▸ hp.2.1, f ▸ hp.2.2.1⟩, fun p h => ?_⟩
  · rw [a]
    exact hp.1
  · rw [g] at h
    exact List.eq_of_mem_replicate h ▸ hp
theorem test_settings_in_range : SettingsInRange busy := settingsKept .request (by decide +kernel)
theorem test_voice_hypotheses : (mode .voice orderly).floorA.settings.mode = .voice ∧ orderly.live .A = true ∧
    orderly.floorA.stack = [] ∧ TablesWhole (mode .voice orderly) ∧ SettingsInRange (mode .voice orderly) ∧
    ListsPlaced (mode .voice orderly) ∧ SeatsStandOnce (mode .voice orderly) := by
  refine ⟨by decide +kernel, by decide +kernel, by decide +kernel, by unfold TablesWhole; decide +kernel,
    settingsKept .voice (by decide +kernel),
    fun f => by cases f <;> decide +kernel,
    by unfold State.standsOnce; decide +kernel, fun f => ?_⟩
  cases f <;> refine ⟨by decide +kernel, by decide +kernel, fun e rest h => ?_, by decide +kernel⟩ <;> cases h
theorem test_clock_in_range : ClockInRange planned := by
  intro c h
  have : planned.clock = some ⟨100, 0, 0⟩ := by decide +kernel
  rw [this] at h
  cases h
  decide
theorem test_every_law_has_a_step :
    (match step { busy with pending := [.micPress 3] } with
      | .next t => t.floorA.grantOrder == [4, 2] && t.pending == []
      | .fault _ | .refused _ => false) = true ∧
    [room, planned, calm, staged, asleep, laden, asking].all (fun s => match step s with
      | .next _ => true
      | .fault _ | .refused _ => false) = true := by decide +kernel

end Sys2Proof.Tests
end

namespace Sys2Proof.Machine

/-! ## Numbered records of equal value -/

/-- A list of equal records reads as that record at every number. -/
theorem getD_replicate_self {α : Type} (m k : Nat) (a : α) : (List.replicate m a).getD k a = a := by
  rw [List.getD_eq_getElem?_getD, List.getElem?_getD_replicate_default_eq]

theorem reset_seat (n : Nat) (hn : n ∈ allSeats) :
    State.reset.seat n = Reset.seat (if n ≤ 24 then .A else .B) := by
  revert n
  decide +kernel

theorem reset_detectors (n : Nat) : State.reset.detectors n = Reset.dets := by
  cases n with
  | zero => rfl
  | succ k => exact getD_replicate_self 48 k Reset.dets

theorem reset_plate (n : Nat) : State.reset.plate n = Reset.plate := by
  cases n with
  | zero => rfl
  | succ k => exact getD_replicate_self 48 k Reset.plate

theorem reset_chan (c : Nat) : State.reset.chan c = Reset.chan := by
  cases c with
  | zero => rfl
  | succ k => exact getD_replicate_self 50 k Reset.chan

theorem reset_screen (k : Nat) : State.reset.screen k = Reset.screen := by
  cases k with
  | zero => rfl
  | succ k => exact getD_replicate_self 8 k Reset.screen

theorem reset_camera (k : Nat) : State.reset.camera k = Reset.camera := by
  cases k with
  | zero => rfl
  | succ k => exact getD_replicate_self 4 k Reset.camera

theorem reset_line (l : Nat) : State.reset.line l = Reset.line := by
  unfold State.line
  split <;> rfl

theorem reset_floor (f : Floor) : State.reset.floor f = Reset.floor Reset.profile := by
  cases f <;> rfl

theorem reset_br (b : Branch) : State.reset.br b = Reset.branch := by
  cases b <;> rfl

theorem reset_lane (b : Branch) : State.reset.lane b = Reset.lane := by
  cases b <;> rfl

theorem reset_meeting (f : Floor) : State.reset.meeting f = Reset.meeting := by
  cases f <;> rfl

/-- Nobody speaks and no line is bound after a reset. -/
theorem reset_contributors (f : Floor) : State.reset.contributors f = [] := by
  cases f <;> decide +kernel

/-- A seat that is not bound has no link. -/
theorem seatLink_of_unbound (s : State) (n : Nat) (h : (s.seat n).binding = none) : s.seatLink n = .lost := by
  unfold State.seatLink
  rw [h]
  rfl

/-- Settles O1: the branches of `step`. -/
theorem stepRunsTheFrontCommand : Obligations.StepRunsTheFrontCommand := by
  refine ⟨fun i rest s => rfl, fun s hq => ⟨fun i t ho => ?_, fun ho => ?_⟩⟩ <;> simp only [step, hq, ho]

theorem reset_seat_values (n : Nat) (hn : n ∈ allSeats) :
    let s := State.reset
    let clear : Detector := { window := List.replicate 20 false, pressed := false, held := none, longGiven := false }
    (s.seat n).serial = none ∧ (s.seat n).side = (if n ≤ 24 then Floor.A else Floor.B) ∧ (s.seat n).trim = 0 ∧
    (s.seat n).neighbours = [] ∧ (s.seat n).binding = none ∧ (s.seat n).role = .none ∧
    (s.seat n).delegate = none ∧ (s.seat n).presence = .absent ∧ (s.seat n).floorState = .idle ∧
    (s.seat n).accSeconds = 0 ∧ (s.seat n).accTurns = 0 ∧ (s.seat n).accRem = 0 ∧ (s.seat n).presets = [0, 0, 0, 0] ∧
    (s.seat n).refusal = none ∧ (s.seat n).turn = none ∧ (s.seat n).release = none ∧ (s.seat n).cardClear = 0 ∧
    s.seatLink n = .lost ∧ s.underTest n = false ∧ s.lamp n = .off ∧
    (s.detectors n).mic = clear ∧ (s.detectors n).priority = clear ∧ (s.detectors n).next = clear ∧
    s.plate n = { lit := true, role := .none, name := none, present := false, see := none, count := 0 } := by
  have hr := reset_seat n hn
  have hlink : State.reset.seatLink n = .lost := seatLink_of_unbound _ _ (by rw [hr]; rfl)
  have hlamp : State.reset.lamp n = (Reset.seat (if n ≤ 24 then .A else .B)).lamp := by
    rw [← hr]; rfl
  dsimp only
  rw [hr, hlink, hlamp, reset_detectors, reset_plate]
  exact ⟨rfl, rfl, rfl, rfl, rfl, rfl, rfl, rfl, rfl, rfl, rfl, rfl, rfl, rfl, rfl, rfl, rfl, rfl, rfl, rfl, rfl, rfl,
    rfl, rfl⟩

/-- Settles O28: each record of the reset state is read from its table. -/
theorem resetValuesAreTheManuals : Obligations.ResetValuesAreTheManuals := by
  refine ⟨reset_seat_values, fun c _ => ?_, fun f => ?_, rfl, reset_line, rfl, rfl, rfl, rfl, rfl, rfl, rfl, rfl, rfl,
    rfl, rfl, reset_screen, rfl, rfl, fun k => ?_, fun b => ?_, rfl, fun b => ?_, ?_⟩
  · rw [reset_chan]
    exact ⟨rfl, rfl, rfl, rfl, rfl⟩
  · rw [reset_meeting, reset_floor, reset_contributors]
    exact ⟨rfl, rfl, rfl, rfl, rfl, rfl, rfl, rfl, rfl, rfl, rfl, rfl⟩
  · rw [reset_camera]
    exact ⟨rfl, rfl, rfl, rfl, rfl, rfl, rfl, rfl, rfl, rfl, rfl⟩
  · rw [reset_br]
    exact ⟨rfl, rfl, rfl, rfl⟩
  · rw [reset_lane]
    exact ⟨rfl, rfl, rfl, rfl, rfl, rfl, rfl⟩
  · decide +kernel

/-! ## The laws after a reset -/

theorem reset_profile_inRange : Reset.profile.inRange := by
  refine ⟨?_, ?_, ?_, by decide⟩
  · unfold FloorSettings.inRange; decide
  · unfold GateSettings.inRange; decide
  · exact ⟨⟨by decide, by decide⟩, ⟨by decide, by decide⟩, ⟨by decide, by decide⟩, trivial, by decide, by decide⟩

/-- A floor with the settings of a profile whose settings are in range. -/
theorem floorReset_inRange (p : Profile) (h : p.inRange) : (Reset.floor p).inRange := ⟨h.1, h.2.1, h.2.2.1⟩

theorem reset_settingsInRange : SettingsInRange State.reset :=
  ⟨floorReset_inRange _ reset_profile_inRange, floorReset_inRange _ reset_profile_inRange,
    fun _ hp => List.eq_of_mem_replicate hp ▸ reset_profile_inRange⟩

theorem reset_laneBounded : Reset.lane.bounded :=
  ⟨by decide, by decide, fun _ _ h => by cases h⟩

theorem reset_calendarSound : CalendarSound State.reset := by
  refine ⟨Nat.zero_le _, List.nodup_nil, List.Pairwise.nil, List.Pairwise.nil, fun b hb => ?_, Nat.zero_le _, trivial,
    fun f h => ?_⟩
  · cases hb
  · rw [reset_meeting] at h
    cases h

theorem reset_named (f : Floor) : (State.reset.floor f).named = [] := by
  rw [reset_floor]; rfl

theorem reset_listsPlaced : ListsPlaced State.reset := by
  intro f
  rw [reset_named, reset_floor]
  exact ⟨fun n hn => by (cases hn), fun _ => rfl, by decide, by decide⟩

theorem reset_holdsOrdered : HoldsOrdered State.reset := by
  intro f
  rw [reset_floor]
  exact ⟨fun _ => rfl, fun h => absurd rfl h, fun e rest h => by (cases h), fun n hn => by (cases hn)⟩

theorem reset_seatsStandOnce : SeatsStandOnce State.reset := by
  refine ⟨fun n hn => ?_, reset_holdsOrdered⟩
  unfold State.standsOnce
  rw [reset_floor, reset_seat n hn]
  exact ⟨rfl, rfl, rfl, rfl⟩

theorem reset_nodeTablesInOrder : NodeTablesInOrder State.reset := by
  intro b
  rw [reset_br]
  exact ⟨List.Pairwise.nil, fun e he => by (cases he), fun r hr => by (cases hr)⟩

/-- Settles O60: every law is read off the records at reset. -/
theorem theLawsHoldAtReset : Obligations.TheLawsHoldAtReset :=
  ⟨fun _ => ⟨rfl, rfl⟩, ⟨reset_laneBounded, reset_laneBounded, by decide, rfl⟩, reset_settingsInRange,
    ⟨rfl, rfl, rfl, rfl, rfl, rfl, rfl, rfl, rfl, rfl, rfl⟩, fun c h => by (cases h), reset_calendarSound,
    reset_listsPlaced, reset_seatsStandOnce, Or.inr rfl, reset_nodeTablesInOrder⟩

end Sys2Proof.Machine

namespace Sys2Proof.Machine

/-! ## What the screen director does to the hub

The judgement of screens and cameras (08 R142 to R158) is made of writes of screen and camera records, of changes of the
waiting directives and of directives handed on. What all of these respect, the judgement respects. -/

/-- A relation of a state to a later one that every part of the screen director's judgement respects. -/
structure DirectorFrame (R : State → State → Prop) : Prop where
  refl : ∀ s, R s s
  trans : ∀ {s t u}, R s t → R t u → R s u
  screen : ∀ k f s, R s (s.modScreen k f)
  camera : ∀ k f s, R s (s.modCamera k f)
  waiting : ∀ (w : List Directive) (s : State), R s { s with sd := { s.sd with waiting := w } }
  handOn : ∀ d s, R s (handOn d s)

namespace DirectorFrame

variable {R : State → State → Prop} (h : DirectorFrame R)
include h

/-- A change that is made only on a condition. -/
theorem ifThen {s t u : State} {c : Prop} [Decidable c] (h1 : R s t) (h2 : R t u) : R s (if c then u else t) := by
  split
  · exact h.trans h1 h2
  · exact h1

/-- A change that is made unless a condition holds. -/
theorem ifElse {s t u : State} {c : Prop} [Decidable c] (h1 : R s t) (h2 : R t u) : R s (if c then t else u) := by
  split
  · exact h1
  · exact h.trans h1 h2

theorem forEach {α : Type} {f : α → State → State} (hf : ∀ a s, R s (f a s)) (l : List α) (s : State) :
    R s (forAll l f s) := by
  induction l generalizing s with
  | nil => exact h.refl s
  | cons a l ih => exact h.trans (hf a s) (ih (f a s))

theorem restScreen (k : Nat) (p : ScreenPower) (s : State) : R s (restScreen k p s) :=
  h.trans (h.screen k _ s) (h.waiting _ _)

theorem powerUp (k : Nat) (s : State) : R s (powerUp k s) := h.trans (h.screen k _ s) (h.handOn _ _)

theorem judgePower (k : Nat) (s : State) : R s (judgePower k s) := by
  have rest (p : ScreenPower) (c : Nat) : R s (sendPower k c (Machine.restScreen k p s)) :=
    h.trans (h.restScreen k p s) (h.handOn _ _)
  unfold Machine.judgePower
  dsimp only
  split
  case h_1 => exact h.powerUp k s
  case h_4 => exact h.powerUp k s
  case h_6 => exact rest .off 0
  case h_8 => exact rest .standby 1
  case h_9 => exact rest .off 0
  case h_11 => exact rest .standby 1
  case h_12 => exact rest .off 0
  all_goals exact h.refl s

theorem paceShow (k : Nat) (s : State) : R s (paceShow k s) := by
  unfold Machine.paceShow
  split
  · exact h.trans (h.screen k _ s) (h.handOn _ _)
  · exact h.screen k _ s

theorem refreshScreen (came : Bool) (k : Nat) (s : State) : R s (refreshScreen came k s) := by
  unfold Machine.refreshScreen
  split
  · exact h.trans (h.restScreen k .off s) (h.screen k _ _)
  · exact h.ifThen (h.ifThen (h.judgePower k s) (h.screen k _ _)) (h.paceShow k _)

theorem restCamera (k : Nat) (s : State) : R s (restCamera k s) :=
  h.ifThen (h.camera k _ s) (h.trans (h.camera k _ _) (h.handOn _ _))

theorem refreshCamera (k : Nat) (s : State) : R s (refreshCamera k s) := by
  unfold Machine.refreshCamera
  dsimp only
  split
  · exact h.camera k _ s
  · exact h.ifElse (h.ifElse (h.refl s) (h.trans (h.camera k _ s) (h.handOn _ _))) (h.restCamera k _)

/-- The screens and the cameras are judged. -/
theorem screensAndCameras (s : State) :
    R s (forAll (List.range' 1 4) Machine.refreshCamera (showScreens (dropWaiting s))) :=
  h.trans (h.waiting _ s) (h.trans (h.forEach (h.refreshScreen false) _ _) (h.forEach h.refreshCamera _ _))

/-- A relation that a write of a nameplate record respects too. -/
theorem drawPlate (hp : ∀ n f s, R s (State.modPlate n f s)) (made : Binding → Bool) (n : Nat) (s : State) :
    R s (drawPlate made n s) := by
  unfold Machine.drawPlate
  dsimp only
  split
  · exact h.ifThen (h.ifElse (h.refl s) (hp n _ s)) (h.handOn _ _)
  · exact h.ifElse (h.refl s) (hp n _ s)

end DirectorFrame

/-! ## Messages that stay

The screen director and the delivery of reports add messages to the outbound queues and change none that stand there but
a SHOW that has not been sent (08 R151, 10 R188, R189). -/

/-- No SHOW of any screen. -/
def OutMsg.lasting (m : OutMsg) : Prop := ∀ k, m.isShow k = false

/-- Every message of an outbound queue stays in it, SHOWs apart, and so does the answer that waits for a place. -/
structure KeepsMessages (s t : State) : Prop where
  out : ∀ b m, m.lasting → m ∈ (s.lane b).out → m ∈ (t.lane b).out
  waiting : t.cru.waiting = s.cru.waiting

namespace KeepsMessages

theorem refl (s : State) : KeepsMessages s s := ⟨fun _ _ _ h => h, rfl⟩

theorem trans {s t u : State} (h : KeepsMessages s t) (k : KeepsMessages t u) : KeepsMessages s u :=
  ⟨fun b m hm hs => k.out b m hm (h.out b m hm hs), k.waiting.trans h.waiting⟩

theorem of_eq {s t : State} (h0 : t.lane0 = s.lane0) (h1 : t.lane1 = s.lane1) (hc : t.cru = s.cru) :
    KeepsMessages s t := by
  refine ⟨fun b m _ hs => ?_, by rw [hc]⟩
  cases b with
  | b0 => exact (congrArg (m ∈ ·.out) h0).mpr hs
  | b1 => exact (congrArg (m ∈ ·.out) h1).mpr hs

end KeepsMessages

theorem lane_modLane_same (b : Branch) (f : Lane → Lane) (s : State) : (s.modLane b f).lane b = f (s.lane b) := by
  cases b <;> rfl

theorem lane_modLane_ne {a b : Branch} (h : a ≠ b) (f : Lane → Lane) (s : State) :
    (s.modLane b f).lane a = s.lane a := by
  match a, b, h with
  | .b0, .b1, _ => rfl
  | .b1, .b0, _ => rfl

/-- A change of one lane that leaves its messages in the queue. -/
theorem modLane_keepsMessages (b : Branch) (f : Lane → Lane)
    (h : ∀ l m, m.lasting → m ∈ l.out → m ∈ (f l).out) (s : State) : KeepsMessages s (s.modLane b f) := by
  refine ⟨fun a m hm hs => ?_, by rw [State.modLane_cru]⟩
  by_cases hab : a = b
  · subst hab
    rw [lane_modLane_same]
    exact h _ m hm hs
  · rwa [lane_modLane_ne hab]

theorem pushOut_keepsMessages (b : Branch) (x : OutMsg) (s : State) : KeepsMessages s (pushOut b x s) :=
  modLane_keepsMessages b _ (fun _ _ _ h => List.mem_append_left _ h) s

theorem mem_replaceShow (k : Nat) (x : OutMsg) (l : Lane) (m : OutMsg) (hm : m.lasting) (h : m ∈ l.out) :
    m ∈ (l.replaceShow k x).out := by
  have swap (os : List OutMsg) (ho : m ∈ os) : m ∈ os.map (fun y => if y.isShow k then x else y) :=
    List.mem_map.mpr ⟨m, ho, by rw [hm k]; rfl⟩
  unfold Lane.replaceShow
  dsimp only
  split
  · exact swap _ h
  · rw [← List.take_append_drop 1 l.out] at h
    rcases List.mem_append.mp h with h | h
    · exact List.mem_append_left _ h
    · exact List.mem_append_right _ (swap _ h)

theorem shown_keepsMessages (t : Target) (s : State) : KeepsMessages s (shown t s) :=
  .of_eq (shown_lane0 t s) (shown_lane1 t s) (shown_cru t s)

theorem handOn_keepsMessages (d : Directive) (s : State) : KeepsMessages s (handOn d s) := by
  unfold handOn
  dsimp only
  split
  · exact .refl s
  · split
    · exact (modLane_keepsMessages _ _ (mem_replaceShow _ _) s).trans (shown_keepsMessages _ _)
    · split
      · exact (pushOut_keepsMessages _ _ s).trans (shown_keepsMessages _ _)
      · exact .of_eq rfl rfl rfl

theorem keepsMessages_directorFrame : DirectorFrame KeepsMessages where
  refl := .refl
  trans := .trans
  screen _ _ _ := .of_eq (by simp) (by simp) (by simp)
  camera _ _ _ := .of_eq (by simp) (by simp) (by simp)
  waiting _ _ := .of_eq rfl rfl rfl
  handOn := handOn_keepsMessages

theorem refreshPlate_keepsMessages (n : Nat) (s : State) : KeepsMessages s (refreshPlate n s) := by
  unfold refreshPlate
  exact keepsMessages_directorFrame.drawPlate (fun _ _ _ => .of_eq (by simp) (by simp) (by simp)) _ n s

theorem deliverReport_keepsMessages (r : Report) (s : State) : KeepsMessages s (deliverReport r s) := by
  have queued : KeepsMessages s { s with cru := s.cru.push r } := by
    refine ⟨fun b m _ h => by cases b <;> exact h, ?_⟩
    simp only [Cru.push]
    split <;> rfl
  unfold deliverReport
  split
  · exact queued
  · split
    · next d _ _ =>
      have hp := pushOut_keepsMessages d.branch (reportMessage d s.cru.lost r) s
      exact ⟨fun b m hm h => by cases b <;> exact hp.out _ m hm h, rfl⟩
    · exact queued

theorem deliver_keepsMessages (s : State) : KeepsMessages s (deliver s) := by
  have h : KeepsMessages s { s with cru := { s.cru with made := [] } } :=
    ⟨fun b m _ h => by cases b <;> exact h, rfl⟩
  exact h.trans (keepsMessages_directorFrame.forEach deliverReport_keepsMessages _ _)

theorem refreshAll_keepsMessages (s : State) : KeepsMessages s (refreshAll s) := by
  have plates := (keepsMessages_directorFrame.screensAndCameras s).trans
    (keepsMessages_directorFrame.forEach refreshPlate_keepsMessages allSeats _)
  have paid (u : State) : KeepsMessages u { u with sd := { u.sd with plateDue := [] } } := .of_eq rfl rfl rfl
  unfold refreshAll
  exact plates.trans (paid _)

theorem refresh_lane (b : Branch) (s : State) : (refresh s).lane b = (deliver (refreshAll s)).lane b := by
  cases b <;> simp only [refresh, State.lane]

theorem refresh_cru (s : State) : (refresh s).cru = (deliver (refreshAll s)).cru := by
  simp only [refresh]

/-- What stands in an outbound queue at the end of a command is still there after the refresh. -/
theorem refresh_keepsMessages (s : State) : KeepsMessages s (refresh s) := by
  obtain ⟨hout, hwait⟩ := (refreshAll_keepsMessages s).trans (deliver_keepsMessages _)
  exact ⟨fun b m hm hs => by rw [refresh_lane]; exact hout b m hm hs, by rw [refresh_cru, hwait]⟩

/-- States of one core wait for the same. -/
theorem phase_of_core {s t : State} (h : t.core = s.core) : t.cru.phase = s.cru.phase := by
  have hc : t.core.cru.phase = s.core.cru.phase := by rw [h]
  exact hc

/-- RESET: the answer that makes the reset due, with the console request unit busy until it has been sent. -/
theorem reset_answers (h : Head) (s : State) (hr : s.readyFor h) :
    ∃ t, exec (.reset h (.fields ())) s = .next t ∧ t.cru.phase = .resetAnswer ∧
      t.core = ({ s with cru := { s.cru with phase := .resetAnswer } } : State).core ∧
      (answerMessage h .ok [] .resetAnswer ∈ (t.lane h.branch).out ∨
        t.cru.waiting = some (h.branch, answerMessage h .ok [] .resetAnswer)) := by
  let u : State := { s with cru := { s.cru with phase := .resetAnswer } }
  let m := answerMessage h .ok [] .resetAnswer
  have hh : handle h (.reset h (.fields ())) (.fields ()) (resetRequest h) s = refresh (placeAnswer h.branch m u) :=
    handle_later h _ () (resetRequest h) s _ hr rfl
  have hcore : (refresh (placeAnswer h.branch m u)).core = u.core := (refresh_core _).trans (placeAnswer_core _ _ u)
  have keeps := refresh_keepsMessages (placeAnswer h.branch m u)
  refine ⟨refresh (placeAnswer h.branch m u), ?_, ?_, ?_, ?_⟩
  · show finish s _ = _
    rw [hh]
    exact finish_of_pending _ _ (by simp [u])
  · exact phase_of_core (s := u) hcore
  · exact hcore
  · rcases placeAnswer_answers h.branch m u with hout | hwait
    · exact Or.inl (keeps.out _ m (fun _ => rfl) (List.mem_of_getLast? hout))
    · exact Or.inr (keeps.waiting.trans hwait)

end Sys2Proof.Machine

namespace Sys2Proof.Machine

/-! ## What a warm reset makes of each record -/

/-- The hub after a warm reset, with a queue of waiting commands. -/
abbrev warmWith (q : List Instr) (s : State) : State := { warmState s with pending := q }

theorem warmWith_seat (q : List Instr) (s : State) (n : Nat) : (warmWith q s).seat n = (s.seat n).warm := by
  cases n with
  | zero => rfl
  | succ k => exact List.getD_map s.seats (Reset.seat .A) SeatRec.warm

theorem warmWith_floor (q : List Instr) (s : State) (f : Floor) :
    (warmWith q s).floor f = Reset.floor (s.profile 0) := by
  cases f <;> rfl

theorem warmWith_line (q : List Instr) (s : State) (l : Nat) : (warmWith q s).line l = (s.line l).warm :=
  (apply_ite LineRec.warm (l = 2) s.line2 s.line1).symm

theorem warmWith_screen (q : List Instr) (s : State) (k : Nat) : (warmWith q s).screen k = (s.screen k).warmed := by
  cases k with
  | zero => rfl
  | succ k => exact List.getD_map s.sd.screens Reset.screen ScreenRec.warmed

theorem warmWith_camera (q : List Instr) (s : State) (k : Nat) : (warmWith q s).camera k = (s.camera k).warm := by
  cases k with
  | zero => rfl
  | succ k => exact List.getD_map s.sd.cameras Reset.camera CameraRec.warm

theorem warmWith_lane (q : List Instr) (s : State) (b : Branch) : (warmWith q s).lane b = Reset.lane := by
  cases b <;> rfl

/-- The partition that a warm reset gives, by the mode and by the reading as it stood (06 R116). -/
theorem warmPartition_eq (p : PartRec) : p.warmPartition = match p.mode with
    | .forceCombined => .combined
    | .forceSplit => .split
    | .follow => if p.reading = .closed then .split else .combined := by
  unfold PartRec.warmPartition
  cases p.mode with
  | follow => cases p.reading <;> rfl
  | forceCombined => rfl
  | forceSplit => rfl

/-- RESET: the answer that makes the reset due, with the console request unit busy until it has been sent. -/
theorem warmWith_seat_values (q : List Instr) (s : State) (n : Nat) :
    let t := warmWith q s
    (t.seat n).serial = (s.seat n).serial ∧ (t.seat n).side = (s.seat n).side ∧
    (t.seat n).trim = (s.seat n).trim ∧ (t.seat n).neighbours = (s.seat n).neighbours ∧
    (t.seat n).presets = (s.seat n).presets ∧ (t.seat n).binding = none ∧ (t.seat n).role = .none ∧
    (t.seat n).delegate = none ∧ (t.seat n).presence = .absent ∧ (t.seat n).floorState = .idle ∧
    (t.seat n).accSeconds = 0 ∧ (t.seat n).accTurns = 0 := by
  dsimp only
  rw [warmWith_seat]
  exact ⟨rfl, rfl, rfl, rfl, rfl, rfl, rfl, rfl, rfl, rfl, rfl, rfl⟩

/-- The timers of a seat, its detectors and its nameplate are those of a power-on reset. -/
theorem warmWith_seat_timers (q : List Instr) (s : State) (n : Nat) :
    let t := warmWith q s
    (t.seat n).refusal = none ∧ (t.seat n).turn = none ∧ (t.seat n).release = none ∧ (t.seat n).cardClear = 0 ∧
    t.detectors n = State.reset.detectors n ∧ t.plate n = State.reset.plate n ∧ t.lamp n = .off := by
  have hlamp : (warmWith q s).lamp n = ((warmWith q s).seat n).lamp := rfl
  dsimp only
  rw [hlamp, warmWith_seat]
  refine ⟨rfl, rfl, rfl, rfl, rfl, ?_, rfl⟩
  cases n <;> rfl

/-- Settles O29: a RESET is answered before the reset that it asks for; a warm reset makes of each record what its own
rule says. -/
theorem resetsKeepWhatTheManualSays : Obligations.ResetsKeepWhatTheManualSays := by
  refine ⟨⟨reset_answers, fun s hd => ⟨warmWith s.pending s, ?_, rfl⟩, fun s hd => ?_⟩, fun s => rfl, fun s =>
    ⟨warmWith s.pending s, rfl, rfl, warmWith_seat_values _ s, fun n _ => warmWith_seat_timers _ s n, fun f => ?_,
     warmWith_line _ s, rfl, rfl, rfl, rfl, warmPartition_eq s.part,
     rfl, rfl, rfl, rfl, rfl, rfl, rfl, rfl, rfl, rfl, rfl, rfl, fun b => ?_, fun k => ?_, fun k => ?_, ?_⟩⟩
  · simp only [exec, execResetAfterAnswer, finish, hd, if_true]
  · simp [exec, execResetAfterAnswer, finish, hd]
  · have hm : (warmWith s.pending s).meeting f = Reset.meeting := congrArg FloorRec.meeting (warmWith_floor _ s f)
    rw [hm, warmWith_floor]
    exact ⟨(by cases f <;> rfl), rfl, rfl, rfl, rfl⟩
  · rw [warmWith_lane]
    exact ⟨rfl, rfl, rfl, rfl, rfl, rfl, rfl⟩
  · rw [warmWith_screen]
    exact ⟨rfl, rfl, rfl, rfl, rfl, rfl, rfl, rfl, rfl⟩
  · rw [warmWith_camera]
    exact ⟨rfl, rfl, rfl, rfl, rfl, rfl, rfl, rfl, rfl, rfl, rfl⟩
  · repeat' apply And.intro
    all_goals rfl

end Sys2Proof.Machine

namespace Sys2Proof.Machine

/-! ## Reading a record after an update -/

namespace State

theorem seat_of_seats {s t : State} (h : t.seats = s.seats) (n : Nat) : t.seat n = s.seat n := by
  cases n with
  | zero => rfl
  | succ k => exact congrArg (·.getD k (Reset.seat .A)) h

theorem floor_of_floors {s t : State} (hA : t.floorA = s.floorA) (hB : t.floorB = s.floorB) (f : Floor) :
    t.floor f = s.floor f := by
  cases f
  · exact hA
  · exact hB

theorem seat_modSeat_ne {m n : Nat} (h : n ≠ m) (f : SeatRec → SeatRec) (s : State) :
    (s.modSeat m f).seat n = s.seat n := by
  cases m with
  | zero => rfl
  | succ j => cases n with
    | zero => rfl
    | succ k =>
      have hjk : j ≠ k := fun e => h (by rw [e])
      simp only [seat, modSeat, List.getD_eq_getElem?_getD, List.getElem?_modify_ne _ _ hjk]

/-- A seat that the table holds. -/
theorem seat_modSeat_same {n : Nat} {s : State} (h1 : 1 ≤ n) (hn : n ≤ s.seats.length) (f : SeatRec → SeatRec) :
    (s.modSeat n f).seat n = f (s.seat n) := by
  cases n with
  | zero => exact absurd h1 (by decide)
  | succ k =>
    have hk : k < s.seats.length := hn
    simp only [seat, modSeat, List.getD_eq_getElem?_getD, List.getElem?_modify_eq, List.getElem?_eq_getElem hk,
      Option.map_eq_map, Option.map_some, Option.getD_some]

/-- A seat that the table does not hold reads as after a reset. -/
theorem seat_beyond {n : Nat} {s : State} (h : ¬ (1 ≤ n ∧ n ≤ s.seats.length)) : s.seat n = Reset.seat .A := by
  cases n with
  | zero => rfl
  | succ k =>
    have hk : s.seats.length ≤ k := by omega
    simp only [seat, List.getD_eq_getElem?_getD, List.getElem?_eq_none hk, Option.getD_none]

/-- What holds of a record after a reset and of the written record holds of the seat after the write. -/
theorem seat_modSeat_cases {n : Nat} {s : State} (f : SeatRec → SeatRec) :
    (s.modSeat n f).seat n = f (s.seat n) ∨
      (s.modSeat n f).seat n = Reset.seat .A ∧ s.seat n = Reset.seat .A := by
  by_cases h : 1 ≤ n ∧ n ≤ s.seats.length
  · exact Or.inl (seat_modSeat_same h.1 h.2 f)
  · refine Or.inr ⟨?_, seat_beyond h⟩
    apply seat_beyond
    cases n with
    | zero => simp
    | succ k => simpa [modSeat] using h

/-- Two updates that agree on the seat's record. -/
theorem modSeat_congr {n : Nat} {s : State} {f g : SeatRec → SeatRec} (h : f (s.seat n) = g (s.seat n)) :
    s.modSeat n f = s.modSeat n g := by
  cases n with
  | zero => rfl
  | succ k =>
    have hl : s.seats.modify k f = s.seats.modify k g := by
      refine List.ext_getElem? fun i => ?_
      by_cases hi : k = i
      · subst hi
        rw [List.getElem?_modify_eq, List.getElem?_modify_eq]
        cases hk : s.seats[k]? with
        | none => rfl
        | some r =>
          have hr : s.seat (k + 1) = r := by simp [seat, List.getD_eq_getElem?_getD, hk]
          rw [hr] at h
          exact congrArg some h
      · rw [List.getElem?_modify_ne _ _ hi, List.getElem?_modify_ne _ _ hi]
    simp only [modSeat, hl]

@[simp] theorem modSeat_seats_length (n : Nat) (f : SeatRec → SeatRec) (s : State) :
    (s.modSeat n f).seats.length = s.seats.length := by
  cases n with
  | zero => rfl
  | succ k => exact List.length_modify f s.seats k

theorem floor_modFloor_same (f : Floor) (g : FloorRec → FloorRec) (s : State) :
    (s.modFloor f g).floor f = g (s.floor f) := by
  cases f <;> rfl

theorem floor_modFloor_ne {e f : Floor} (h : e ≠ f) (g : FloorRec → FloorRec) (s : State) :
    (s.modFloor f g).floor e = s.floor e := by
  match e, f, h with
  | .A, .B, _ => rfl
  | .B, .A, _ => rfl

@[simp] theorem floor_modSeat (n : Nat) (g : SeatRec → SeatRec) (f : Floor) (s : State) :
    (s.modSeat n g).floor f = s.floor f :=
  floor_of_floors (modSeat_floorA n g s) (modSeat_floorB n g s) f

@[simp] theorem seat_modFloor (f : Floor) (g : FloorRec → FloorRec) (n : Nat) (s : State) :
    (s.modFloor f g).seat n = s.seat n :=
  seat_of_seats (modFloor_seats f g s) n

@[simp] theorem seat_modMeeting (f : Floor) (g : Meeting → Meeting) (n : Nat) (s : State) :
    (s.modMeeting f g).seat n = s.seat n := seat_modFloor f _ n s

theorem meeting_modMeeting_same (f : Floor) (g : Meeting → Meeting) (s : State) :
    (s.modMeeting f g).meeting f = g (s.meeting f) :=
  congrArg FloorRec.meeting (floor_modFloor_same f _ s)

@[simp] theorem meeting_modSeat (n : Nat) (g : SeatRec → SeatRec) (f : Floor) (s : State) :
    (s.modSeat n g).meeting f = s.meeting f := congrArg FloorRec.meeting (floor_modSeat n g f s)

theorem modMeeting_modMeeting (f : Floor) (g g' : Meeting → Meeting) (s : State) :
    (s.modMeeting f g).modMeeting f g' = s.modMeeting f (fun m => g' (g m)) := by
  cases f <;> rfl

/-- Two updates that agree on the floor's meeting record. -/
theorem modMeeting_congr {f : Floor} {s : State} {g g' : Meeting → Meeting} (h : g (s.meeting f) = g' (s.meeting f)) :
    s.modMeeting f g = s.modMeeting f g' := by
  cases f
  · exact congrArg (fun m => ({ s with floorA := { s.floorA with meeting := m } } : State)) h
  · exact congrArg (fun m => ({ s with floorB := { s.floorB with meeting := m } } : State)) h

end State

@[simp] theorem seat_core (n : Nat) (s : State) : s.core.seat n = s.seat n := State.seat_of_seats rfl n

@[simp] theorem floor_core (f : Floor) (s : State) : s.core.floor f = s.floor f := State.floor_of_floors rfl rfl f

@[simp] theorem pending_core (s : State) : s.core.pending = s.pending := rfl

/-- States of one core have the same seats. -/
theorem seat_of_core {s t : State} (h : t.core = s.core) (n : Nat) : t.seat n = s.seat n := by
  rw [← seat_core, h, seat_core]

theorem floor_of_core {s t : State} (h : t.core = s.core) (f : Floor) : t.floor f = s.floor f := by
  rw [← floor_core, h, floor_core]

theorem pending_of_core {s t : State} (h : t.core = s.core) : t.pending = s.pending := by
  rw [← pending_core, h, pending_core]

/-! ## Presence (01 R9 to R13) -/

/-- The meeting record once a seat has checked in for the first time (01 R12, 07 R131). -/
def Meeting.checkIn (n : Nat) (m : Meeting) : Meeting :=
  { m with checkedIn := if m.checkedIn.contains n then m.checkedIn else m.checkedIn ++ [n],
           state := if m.state = .checkIn then .inSession else m.state }

theorem takesCards_eq_runs (m : MeetingState) : m.takesCards = m.runs := by
  cases m <;> rfl

/-- The first check-in of a running meeting: its record alone changes, and a BOOKING report may be made. -/
theorem firstCheckIn_core (n : Nat) (f : Floor) (s : State) (hr : s.runs f = true) :
    (firstCheckIn f (noteCheckedIn n f s)).core = (s.modMeeting f (Meeting.checkIn n)).core := by
  have noted : noteCheckedIn n f s = s.modMeeting f (fun m =>
      { m with checkedIn := if m.checkedIn.contains n then m.checkedIn else m.checkedIn ++ [n] }) := by
    refine State.modMeeting_congr ?_
    have hrun : (s.meeting f).state.runs = true := hr
    by_cases hc : n ∈ (s.meeting f).checkedIn <;> simp [hrun, hc]
  rw [noted]
  unfold firstCheckIn
  split
  · next hs =>
    rw [State.meeting_modMeeting_same, beq_iff_eq] at hs
    refine (report_core _ _ _).trans ?_
    rw [State.modMeeting_modMeeting]
    refine congrArg State.core (State.modMeeting_congr ?_)
    simp only [Meeting.checkIn, if_pos hs]
  · next hs =>
    rw [State.meeting_modMeeting_same, beq_iff_eq] at hs
    refine congrArg State.core (State.modMeeting_congr ?_)
    simp only [Meeting.checkIn, if_neg hs]

/-- A seat of a running meeting becomes PRESENT by a source. -/
theorem becomePresent_core (n : Nat) (p : Presence) (s : State) (hr : s.runs (s.seatFloor n) = true) :
    (becomePresent n p s).core =
      (if (s.seat n).presence = .absent ∧ (s.seat n).role ≠ .none then
        (s.modSeat n (SeatRec.withPresence p)).modMeeting (s.seatFloor n) (Meeting.checkIn n)
      else s.modSeat n (SeatRec.withPresence p)).core := by
  have hrole : ((s.modSeat n (SeatRec.withPresence p)).seat n).role = (s.seat n).role := by
    rcases State.seat_modSeat_cases (n := n) (s := s) (SeatRec.withPresence p) with h | ⟨h, h'⟩
    · rw [h]
      unfold SeatRec.withPresence
      split <;> rfl
    · rw [h, h']
  unfold becomePresent
  dsimp only
  rw [hrole]
  by_cases hc : (s.seat n).presence = .absent ∧ (s.seat n).role ≠ .none
  · rw [if_pos hc, if_pos (by simpa using hc)]
    refine firstCheckIn_core n _ _ ?_
    unfold State.runs
    rwa [State.meeting_modSeat]
  · rw [if_neg hc, if_neg (by simpa using hc)]

theorem cardReport_core (n : Nat) (card : CardId) (o : CardOutcome) (right : Option Nat) (c : CardCause) (changed : Bool)
    (s : State) : (cardReport n card o right c changed s).core = s.core := reportIf_core _ _ _ s

/-- An accepted CHECK_IN. -/
theorem checkInSeat_core (n : Nat) (s : State) (hr : s.runs (s.seatFloor n) = true) (hn : (s.seat n).role ≠ .none)
    (ha : (s.seat n).presence = .absent) :
    (checkInSeat n s).core =
      ((s.modSeat n (fun r => { r with presence := .console, cardClear := 0 })).modMeeting (s.seatFloor n)
        (Meeting.checkIn n)).core := by
  unfold checkInSeat
  rw [cardReport_core, becomePresent_core n .console s hr, if_pos ⟨ha, hn⟩]
  refine congrArg (fun t : State => (t.modMeeting (s.seatFloor n) (Meeting.checkIn n)).core) (State.modSeat_congr ?_)
  unfold SeatRec.withPresence
  rw [ha]
  rfl

/-- Settles O5: each check turns the request away in its turn; what passes them all is `checkInSeat_core`. -/
theorem checkInMakesASeatPresent : Obligations.CheckInMakesASeatPresent := by
  intro h n s hr
  show ∃ t, finish s (handle h (.checkIn h (.fields n)) (.fields n) checkIn s) = .next t ∧ _
  have away (c : Code) (hc : checkIn n s = refusal c s) := handle_refusal h (.checkIn h (.fields n)) n checkIn s c hr hc
  dsimp only
  split
  · next hb => exact away .range (by simp [checkIn, hb])
  · next hb =>
    split
    · next hs => exact away .state (by simp [checkIn, hb, hs])
    · next hs =>
      split
      · next hn => exact away .notFound (by simp [checkIn, hb, hs, hn])
      · next hn =>
        split
        · next ha => exact away .already (by simp [checkIn, hb, hs, hn, ha])
        · next ha =>
          have hrun : s.runs (s.seatFloor n) = true := by
            unfold State.runs
            rw [← takesCards_eq_runs]
            simpa using hs
          have hcore := checkInSeat_core n s hrun hn (not_not.mp ha)
          have hdone : checkIn n s = done (checkInSeat n s) := by simp [checkIn, hb, hs, hn, ha]
          obtain ⟨u, hu, hans, huc⟩ := handle_done h (.checkIn h (.fields n)) n checkIn s _ hr hdone
            (by rw [pending_of_core hcore]; simp)
          exact ⟨u, hu, hans, huc.trans hcore⟩

end Sys2Proof.Machine

namespace Sys2Proof.Machine

/-! ## Seats that an operation passes by

A grant, a close or a release of one seat leaves every other seat as it was and puts it in no list. -/

/-- Seat `n` is as it was, and no list of a floor names it that did not. -/
structure PassesBy (n : Nat) (s t : State) : Prop where
  seat : t.seat n = s.seat n
  named : ∀ f, n ∈ (t.floor f).named → n ∈ (s.floor f).named

theorem FloorRec.mem_named (r : FloorRec) (n : Nat) :
    n ∈ r.named ↔ n ∈ r.queue ∨ n ∈ r.grantOrder ∨ n ∈ r.susp.map (·.seat) ∨ n ∈ r.stack.map (·.holder) := by
  simp only [FloorRec.named, List.mem_append, or_assoc]

namespace PassesBy

variable {n : Nat} {s t u : State}

theorem refl (n : Nat) (s : State) : PassesBy n s s := ⟨rfl, fun _ h => h⟩

theorem trans (h : PassesBy n s t) (k : PassesBy n t u) : PassesBy n s u :=
  ⟨k.seat.trans h.seat, fun f hu => h.named f (k.named f hu)⟩

theorem of_core (h : t.core = s.core) : PassesBy n s t :=
  ⟨seat_of_core h n, fun f ht => by rwa [floor_of_core h] at ht⟩

theorem modSeat {m : Nat} (h : n ≠ m) (f : SeatRec → SeatRec) (s : State) : PassesBy n s (s.modSeat m f) :=
  ⟨State.seat_modSeat_ne h f s, fun g hg => by rwa [State.floor_modSeat] at hg⟩

/-- A floor's lists change, but take up no seat `n`. -/
theorem modFloor (f : Floor) (g : FloorRec → FloorRec) (h : ∀ r : FloorRec, n ∈ (g r).named → n ∈ r.named) (s : State) :
    PassesBy n s (s.modFloor f g) := by
  refine ⟨State.seat_modFloor f g n s, fun e he => ?_⟩
  by_cases hef : e = f
  · subst hef
    rw [State.floor_modFloor_same] at he
    exact h _ he
  · rwa [State.floor_modFloor_ne hef] at he

end PassesBy

theorem leaveQueue_passesBy (n m : Nat) (s : State) : PassesBy n s (leaveQueue m s) := by
  refine .modFloor _ _ (fun r hr => ?_) s
  simp only [FloorRec.mem_named, List.mem_filter] at hr ⊢
  tauto

section
variable {n m : Nat} (h : n ≠ m)
include h

theorem becomeSpeaking_passesBy (x : Turn) (s : State) : PassesBy n s (becomeSpeaking m x s) := by
  refine (PassesBy.modFloor _ _ (fun r hr => ?_) s).trans (.modSeat h _ _)
  simp only [FloorRec.mem_named, List.mem_append, List.mem_singleton] at hr ⊢
  tauto

theorem grant_passesBy (c : KeyCause) (s : State) : PassesBy n s (grant m c s) :=
  (leaveQueue_passesBy n m s).trans ((becomeSpeaking_passesBy h _ _).trans (.of_core (report_core _ _ _)))

theorem leaveSuspension_passesBy (x : FloorState) (s : State) : PassesBy n s (leaveSuspension m x s) := by
  refine (PassesBy.modFloor _ _ (fun r hr => ?_) s).trans (.modSeat h _ _)
  simp only [FloorRec.mem_named, List.mem_map, List.mem_filter] at hr ⊢
  rcases hr with hr | hr | ⟨e, he, hn⟩ | hr
  · exact Or.inl hr
  · exact Or.inr (Or.inl hr)
  · exact Or.inr (Or.inr (Or.inl ⟨e, he.1, hn⟩))
  · exact Or.inr (Or.inr (Or.inr hr))

theorem endSuspended_passesBy (c : KeyCause) (sub : Option SubCause) (s : State) :
    PassesBy n s (endSuspended m c sub s) :=
  (leaveSuspension_passesBy h .idle s).trans (.of_core (report_core _ _ _))

end

/-! ## What a seat that is off its lists can be granted -/

theorem seat_still {s t : State} (h : t.still = s.still) (n : Nat) : (t.seat n).still = (s.seat n).still := by
  have hs : t.seats.map SeatRec.still = s.seats.map SeatRec.still := congrArg State.seats h
  cases n with
  | zero => rfl
  | succ k =>
    have hk := congrArg (·.getD k (Reset.seat .A).still) hs
    rwa [List.getD_map, List.getD_map] at hk

theorem floor_still {s t : State} (h : t.still = s.still) (f : Floor) : (t.floor f).still = (s.floor f).still := by
  cases f
  · exact congrArg State.floorA h
  · exact congrArg State.floorB h

theorem settings_of_still {s t : State} (h : t.still = s.still) (f : Floor) :
    (t.floor f).settings = (s.floor f).settings := (congrArg FloorRec.settings (floor_still h f) :)

theorem pending_of_still {s t : State} (h : t.still = s.still) : t.pending = s.pending := by
  have hp : t.still.pending = s.still.pending := by rw [h]
  exact hp

theorem part_of_still {s t : State} (h : t.still = s.still) : t.part = s.part := by
  have hp : t.still.part = s.still.part := by rw [h]
  exact hp

theorem seatFloor_of_still {s t : State} (h : t.still = s.still) (n : Nat) : t.seatFloor n = s.seatFloor n := by
  have hside : (t.seat n).side = (s.seat n).side := (congrArg SeatRec.side (seat_still h n) :)
  unfold State.seatFloor
  rw [part_of_still h, hside]

theorem linkOf_of_branches {s t : State} (h0 : t.br0 = s.br0) (h1 : t.br1 = s.br1) (d : Option Binding) :
    t.linkOf d = s.linkOf d := by
  cases d with
  | none => rfl
  | some d =>
    have hb : t.br d.branch = s.br d.branch := by
      cases d.branch
      · exact h0
      · exact h1
    simp only [State.linkOf, State.entry?, hb]

/-- Admission reads nothing that the floor controllers own. -/
theorem admission_of_still {s t : State} (h : t.still = s.still) (n : Nat) : t.admission n = s.admission n := by
  have hr := seat_still h n
  have hrole : (t.seat n).role = (s.seat n).role := (congrArg SeatRec.role hr :)
  have hpres : (t.seat n).presence = (s.seat n).presence := (congrArg SeatRec.presence hr :)
  have hbind : (t.seat n).binding = (s.seat n).binding := (congrArg SeatRec.binding hr :)
  have hexh : (t.seat n).exhausted = (s.seat n).exhausted := (congrArg SeatRec.exhausted hr :)
  have h0 : t.still.br0 = s.still.br0 := by rw [h]
  have h1 : t.still.br1 = s.still.br1 := by rw [h]
  have htest : t.still.test = s.still.test := by rw [h]
  have hlink : t.seatLink n = s.seatLink n := by
    unfold State.seatLink
    rw [hbind]
    exact linkOf_of_branches h0 h1 _
  have hut : t.underTest n = s.underTest n := congrArg (fun x : Option PathTest => match x with
    | some t => t.seat == n
    | none => false) htest
  unfold State.admission
  simp only [hrole, hpres, hexh, hlink, hut, seatFloor_of_still h, settings_of_still h]

/-- No grant pass of floor `f` grants seat `n`: no list of the floor names it, and it would not be admitted or the floor is
not in VOICE mode (02 R34, R36). -/
structure Ungrantable (n : Nat) (f : Floor) (s : State) : Prop where
  named : n ∉ (s.floor f).named
  barred : s.admission n ≠ none ∨ (s.floor f).settings.mode ≠ .voice

theorem Ungrantable.of_passesBy {n : Nat} {f : Floor} {s t : State} (h : Ungrantable n f s) (hp : PassesBy n s t)
    (ht : t.still = s.still) : Ungrantable n f t := by
  refine ⟨fun hn => h.named (hp.named f hn), ?_⟩
  rw [admission_of_still ht, settings_of_still ht]
  exact h.barred

theorem grantQueue_passesBy {n : Nat} (f : Floor) (c : KeyCause) (k : Nat) (s : State) (h : n ∉ (s.floor f).named) :
    PassesBy n s (grantQueue f c k s) := by
  induction k generalizing s with
  | zero => exact .refl n s
  | succ k ih =>
    unfold grantQueue
    split
    · split
      · next m rest hq =>
        have hm : n ≠ m := by
          rintro rfl
          exact h ((FloorRec.mem_named _ _).mpr (Or.inl (by rw [hq]; exact List.mem_cons_self)))
        have hp := grant_passesBy hm c s
        exact hp.trans (ih _ (fun hn => h (hp.named f hn)))
      · exact .refl n s
    · exact .refl n s

/-- The first candidate is one. -/
theorem firstCandidate_voiceCandidate {s : State} {f : Floor} {m : Nat} (h : s.firstCandidate f = some m) :
    s.voiceCandidate m = true := by
  have found (better : Nat → Nat → Prop) [DecidableRel better] (l : List Nat) (best : Option Nat)
      (hl : l.foldl (fun best n => match best with
        | none => some n
        | some m => if better n m then some n else some m) best = some m) : best = some m ∨ m ∈ l := by
    induction l generalizing best with
    | nil => exact Or.inl hl
    | cons a l ih =>
      rcases ih _ hl with hb | hb
      · cases best with
        | none => exact Or.inr (List.mem_cons.mpr (Or.inl (Option.some.inj hb).symm))
        | some b =>
          dsimp only at hb
          split at hb
          · exact Or.inr (List.mem_cons.mpr (Or.inl (Option.some.inj hb).symm))
          · exact Or.inl hb
      · exact Or.inr (List.mem_cons_of_mem _ hb)
  rcases found (fun n m => (s.chan n).opening.getD 0 < (s.chan m).opening.getD 0) _ none h with hn | hm
  · cases hn
  · exact (List.mem_filter.mp hm).2

theorem grantVoices_passesBy {n : Nat} (f : Floor) (k : Nat) (s : State) (h : s.admission n ≠ none) :
    PassesBy n s (grantVoices f k s) := by
  induction k generalizing s with
  | zero => exact .refl n s
  | succ k ih =>
    unfold grantVoices
    split
    · split
      · next m hc =>
        have hm : n ≠ m := by
          rintro rfl
          have hv := firstCandidate_voiceCandidate hc
          simp only [State.voiceCandidate, Bool.and_eq_true, Option.isNone_iff_eq_none] at hv
          exact h hv.2
        refine (grant_passesBy hm .voice s).trans (ih _ ?_)
        rwa [admission_of_still (grant_still m .voice s)]
      · exact .refl n s
    · exact .refl n s

theorem grantPass_passesBy {n : Nat} {f : Floor} {s : State} (h : Ungrantable n f s) :
    PassesBy n s (grantPass f s) := by
  unfold grantPass
  split
  · split
    · split
      · exact grantQueue_passesBy f .auto 8 s h.named
      · exact .refl n s
    · next hm => exact grantVoices_passesBy f 8 s (h.barred.resolve_right (not_not.mpr hm))
    · exact .refl n s
    · exact .refl n s
  · exact .refl n s

theorem settleEntry_passesBy {n : Nat} (f : Floor) (e : SuspEntry) (h : n ≠ e.seat)
    (d : State × List Nat × List Nat) : PassesBy n d.1 (settleEntry f e d).1 := by
  have resumed (r : FloorRec) (hr : n ∈ FloorRec.named { r with susp := r.susp.filter (·.seat != e.seat) }) :
      n ∈ r.named := by
    simp only [FloorRec.mem_named, List.mem_map, List.mem_filter] at hr ⊢
    rcases hr with hr | hr | ⟨x, hx, hn⟩ | hr
    · exact Or.inl hr
    · exact Or.inr (Or.inl hr)
    · exact Or.inr (Or.inr (Or.inl ⟨x, hx.1, hn⟩))
    · exact Or.inr (Or.inr (Or.inr hr))
  unfold settleEntry
  dsimp only
  split
  · exact (PassesBy.modFloor f _ resumed d.1).trans
      ((becomeSpeaking_passesBy h _ _).trans (.of_core (report_core _ _ _)))
  · exact endSuspended_passesBy h _ _ _

theorem settleEntries_passesBy {n : Nat} (f : Floor) (l : List SuspEntry) (hl : n ∉ l.map (·.seat))
    (d : State × List Nat × List Nat) : PassesBy n d.1 (l.foldl (fun d e => settleEntry f e d) d).1 := by
  induction l generalizing d with
  | nil => exact .refl n _
  | cons e l ih =>
    rw [List.map_cons, List.mem_cons, not_or] at hl
    exact (settleEntry_passesBy f e hl.1 d).trans (ih hl.2 _)

theorem settleEntries_still (f : Floor) (l : List SuspEntry) (d : State × List Nat × List Nat) :
    (l.foldl (fun d e => settleEntry f e d) d).1.still = d.1.still := by
  induction l generalizing d with
  | nil => rfl
  | cons e l ih => exact (ih _).trans (settleEntry_still f e d)

/-- A settlement passes by a seat that its floor's lists do not name (03 R54). -/
theorem settle_passesBy {n : Nat} {f : Floor} {s : State} (h : Ungrantable n f s) : PassesBy n s (settle f s) := by
  have hsusp : n ∉ (s.floor f).susp.map (·.seat) := fun hn =>
    h.named ((FloorRec.mem_named _ _).mpr (Or.inr (Or.inr (Or.inl hn))))
  have settled (body : List Octet) :=
    (settleEntries_passesBy f _ hsusp (s, [], [])).trans (.of_core (report_core .priority body _))
  exact (settled _).trans (grantPass_passesBy
    (h.of_passesBy (settled _) ((report_still _ _ _).trans (settleEntries_still f _ _))))

/-! ## Forced releases (02 R43) -/

/-- What a seat's record becomes at a forced release; a running or suspended turn is accounted (02 R43; 03 R53, R57,
R63). -/
def SeatRec.releasedAs (r : SeatRec) : SeatRec := match r.floorState with
  | .idle => r
  | .speaking | .suspended | .priority => (r.toState .idle).accountTurn
  | .queued | .priorityWait => r.toState .idle

/-- Seat `n` has left the lists of its floor, with its turn accounted; nothing but the floor controllers' own has
changed. -/
structure TakenOff (n : Nat) (s u : State) : Prop where
  seat : u.seat n = (s.seat n).releasedAs
  named : n ∉ (u.floor (s.seatFloor n)).named
  still : u.still = s.still

namespace TakenOff

variable {n : Nat} {s u t : State}

theorem andThen (h : TakenOff n s u) (hp : PassesBy n u t) (ht : t.still = u.still) : TakenOff n s t :=
  ⟨hp.seat.trans h.seat, fun hn => h.named (hp.named _ hn), ht.trans h.still⟩

theorem of_core (h : TakenOff n s u) (ht : t.core = u.core) : TakenOff n s t :=
  h.andThen (.of_core ht) (still_of_core ht)

theorem keyReport (h : TakenOff n s u) (m : Nat) (c : KeyCause) (sub : Option SubCause) (r : Option Refused) :
    TakenOff n s (keyReport m c sub r u) := h.of_core (report_core _ _ _)

theorem endedReport (h : TakenOff n s u) (f : Floor) (e : HoldEntry) (w : EndReason) :
    TakenOff n s (endedReport f e w u) := h.of_core (report_core _ _ _)

theorem priorityReport (h : TakenOff n s u) (f : Floor) (o : HoldOutcome) (l : Option Level) (m r : Option Nat)
    (x : List Octet) : TakenOff n s (priorityReport f o l m r x u) := h.of_core (report_core _ _ _)

theorem ungrantable (h : TakenOff n s u)
    (hb : s.admission n ≠ none ∨ (s.floor (s.seatFloor n)).settings.mode ≠ .voice) :
    Ungrantable n (s.seatFloor n) u := by
  refine ⟨h.named, ?_⟩
  rwa [admission_of_still h.still, settings_of_still h.still]

theorem releasedFrom (h : TakenOff n s t) : releasedFrom s n t := by
  have hseat : (t.seat n).floorState = .idle ∧ (t.seat n).accTurns = match (s.seat n).floorState with
      | .speaking | .suspended | .priority => min 255 ((s.seat n).accTurns + 1)
      | .idle | .queued | .priorityWait => (s.seat n).accTurns := by
    rw [h.seat]
    unfold SeatRec.releasedAs
    cases hst : (s.seat n).floorState with
    | idle => exact ⟨hst, rfl⟩
    | queued | priorityWait => exact ⟨rfl, rfl⟩
    | speaking | suspended | priority => exact ⟨rfl, rfl⟩
  refine ⟨⟨hseat.1, ?_⟩, hseat.2⟩
  rw [seatFloor_of_still h.still]
  exact h.named

/-- A seat of the table leaves its floor's lists. -/
theorem of_update {g : FloorRec → FloorRec} {k : SeatRec → SeatRec} (hn : n ∈ allSeats) (hl : s.seats.length = 48)
    (hk : k (s.seat n) = (s.seat n).releasedAs) (hg : n ∉ (g (s.floor (s.seatFloor n))).named)
    (hks : ∀ r, (k r).still = r.still) (hgs : ∀ r, (g r).still = r.still) :
    TakenOff n s ((s.modFloor (s.seatFloor n) g).modSeat n k) := by
  obtain ⟨h1, h2⟩ := List.mem_range'_1.mp hn
  refine ⟨?_, ?_, (modSeat_still n k hks _).trans (modFloor_still _ g hgs s)⟩
  · rw [State.seat_modSeat_same h1 (by rw [State.modFloor_seats]; omega), State.seat_modFloor, hk]
  · rwa [State.floor_modSeat, State.floor_modFloor_same]

end TakenOff

theorem modSeat_modFloor (n : Nat) (k : SeatRec → SeatRec) (f : Floor) (g : FloorRec → FloorRec) (s : State) :
    (s.modSeat n k).modFloor f g = (s.modFloor f g).modSeat n k := by
  cases f <;> cases n <;> rfl

/-- What an update of a seat's record keeps, the seat keeps, whatever seat is updated. -/
theorem seat_modSeat_keeps {α : Type} (p : SeatRec → α) {k : SeatRec → SeatRec} (hk : ∀ r, p (k r) = p r) (m n : Nat)
    (s : State) : p ((s.modSeat m k).seat n) = p (s.seat n) := by
  by_cases h : n = m
  · subst h
    rcases State.seat_modSeat_cases (n := n) (s := s) k with h | ⟨h, h'⟩
    · rw [h, hk]
    · rw [h, h']
  · rw [State.seat_modSeat_ne h]

theorem seatFloor_modSeat {k : SeatRec → SeatRec} (hk : ∀ r, (k r).side = r.side) (m n : Nat) (s : State) :
    (s.modSeat m k).seatFloor n = s.seatFloor n := by
  unfold State.seatFloor
  rw [seat_modSeat_keeps SeatRec.side hk, State.modSeat_part]

theorem standsOnce_modSeat {k : SeatRec → SeatRec} (hside : ∀ r, (k r).side = r.side)
    (hst : ∀ r, (k r).floorState = r.floorState) {m n : Nat} {s : State} (h : s.standsOnce n) :
    (s.modSeat m k).standsOnce n := by
  unfold State.standsOnce
  rw [seatFloor_modSeat hside, State.floor_modSeat, seat_modSeat_keeps SeatRec.floorState hst]
  exact h

/-- The list that names a seat that stands in its place (02 R18, R19; 03 R47, R55). -/
theorem mem_lists_of_standsOnce {s : State} {n : Nat} (h : s.standsOnce n) :
    let r := s.floor (s.seatFloor n)
    let st := (s.seat n).floorState
    (n ∈ r.queue ↔ st = .queued) ∧ (n ∈ r.grantOrder ↔ st = .speaking) ∧
    (n ∈ r.susp.map (·.seat) ↔ st = .suspended) ∧
    (n ∈ r.stack.map (·.holder) ↔ st = .priority ∨ st = .priorityWait) := by
  obtain ⟨hq, hg, hs, hh⟩ := h
  have placed (l : List Nat) (p : Prop) [Decidable p] (hc : l.count n = if p then 1 else 0) : n ∈ l ↔ p := by
    rw [← List.count_pos_iff, hc]
    split <;> simp_all
  exact ⟨placed _ _ hq, placed _ _ hg, placed _ _ hs, placed _ _ hh⟩

section
variable {n : Nat} {s : State} (hn : n ∈ allSeats) (hl : s.seats.length = 48) (hp : s.standsOnce n)
include hn hl hp

theorem dequeue_takenOff (hst : (s.seat n).floorState = .queued) (c : KeyCause) (sub : Option SubCause) :
    TakenOff n s (dequeue n c sub s) := by
  obtain ⟨-, hg, hs, hh⟩ := mem_lists_of_standsOnce hp
  refine .keyReport (.of_update hn hl ?_ ?_ (fun _ => ?_) (fun _ => ?_)) n c sub none
  · simp only [SeatRec.releasedAs, hst]
  · simp only [FloorRec.mem_named, hg, hs, hh, hst]
    simp
  all_goals rfl

theorem close_takenOff (hst : (s.seat n).floorState = .speaking) (c : KeyCause) (sub : Option SubCause) :
    TakenOff n s (close n c sub s) := by
  obtain ⟨hq, -, hs, hh⟩ := mem_lists_of_standsOnce hp
  refine .keyReport (.of_update hn hl ?_ ?_ (fun _ => ?_) (fun _ => ?_)) n c sub none
  · simp only [SeatRec.releasedAs, hst]
  · simp only [FloorRec.mem_named, hq, hs, hh, hst]
    simp
  all_goals rfl

theorem endSuspended_takenOff (hst : (s.seat n).floorState = .suspended) (c : KeyCause) (sub : Option SubCause) :
    TakenOff n s (endSuspended n c sub s) := by
  obtain ⟨hq, hg, -, hh⟩ := mem_lists_of_standsOnce hp
  refine .keyReport (.of_update hn hl ?_ ?_ (fun _ => ?_) (fun _ => ?_)) n c sub none
  · simp only [SeatRec.releasedAs, hst]
  · simp only [FloorRec.mem_named, hq, hg, hh, hst]
    simp
  all_goals rfl

/-- A holder's entry leaves the stack. -/
theorem releaseHolder_takenOff (hst : (s.seat n).floorState = .priority ∨ (s.seat n).floorState = .priorityWait)
    (l : List HoldEntry) (hrest : n ∉ l.map (·.holder)) :
    TakenOff n s ((releaseHolder n s).modFloor (s.seatFloor n) (fun r => { r with stack := l })) := by
  obtain ⟨hq, hg, hs, -⟩ := mem_lists_of_standsOnce hp
  unfold releaseHolder
  rw [modSeat_modFloor]
  refine .of_update hn hl ?_ ?_ (fun r => ?_) (fun _ => rfl)
  · rcases hst with hst | hst <;> simp [SeatRec.releasedAs, hst]
  · simp only [FloorRec.mem_named, hq, hg, hs]
    rcases hst with hst | hst <;> simpa [hst] using hrest
  · split <;> rfl

/-- The end of a holder's entry (03 R53): a takeover raises the other holder, a stack that becomes empty is settled. -/
theorem endEntry_takenOff (hst : (s.seat n).floorState = .priority ∨ (s.seat n).floorState = .priorityWait)
    (h2 : (s.floor (s.seatFloor n)).stack.length ≤ 2)
    (hb : s.admission n ≠ none ∨ (s.floor (s.seatFloor n)).settings.mode ≠ .voice) (w : EndReason) :
    TakenOff n s (endEntry n w (s.seatFloor n) s) := by
  have hone : ((s.floor (s.seatFloor n)).stack.map (·.holder)).count n = 1 := by
    obtain ⟨-, -, -, hh⟩ := hp
    rw [hh, if_pos hst]
  have off := releaseHolder_takenOff hn hl hp hst
  unfold endEntry
  split
  · next hs =>
    rw [hs] at hone
    cases hone
  · next e hs =>
    have he : e.holder = n := by
      rw [hs, List.map_singleton, List.count_singleton] at hone
      simpa using hone
    rw [if_pos (beq_iff_eq.mpr he)]
    have h0 := ((off [] (by simp)).keyReport n .priority none none).endedReport (s.seatFloor n) e w
    exact h0.andThen (settle_passesBy (h0.ungrantable hb)) (settle_still _ _)
  · next e low rest hs =>
    obtain rfl : rest = [] := by
      rw [hs] at h2
      exact List.eq_nil_of_length_eq_zero (by simpa using h2)
    rw [hs] at hone
    simp only [List.map_cons, List.map_nil, List.count_cons, List.count_nil] at hone
    by_cases he : e.holder = n
    · have hlow : n ≠ low.holder := by
        rintro hlow
        simp [he, ← hlow] at hone
      rw [if_pos (beq_iff_eq.mpr he)]
      have h0 := (off [low] (by simpa using hlow)).keyReport n .priority none none
      have h1 := h0.andThen (.modSeat hlow _ _) (toState_still .priority low.holder _)
      exact ((h1.keyReport _ _ _ _).endedReport _ _ _).priorityReport _ _ _ _ _ _
    · have hlow : low.holder = n := by
        by_contra hlow
        simp [he, hlow] at hone
      rw [if_neg (by simpa using he), if_pos (beq_iff_eq.mpr hlow)]
      exact ((off [e] (by simpa using fun h => he h.symm)).keyReport _ _ _ _).endedReport _ _ _

/-- A forced release of a seat that no grant pass grants again (02 R43). -/
theorem forcedRelease_takenOff (h2 : (s.floor (s.seatFloor n)).stack.length ≤ 2)
    (hb : s.admission n ≠ none ∨ (s.floor (s.seatFloor n)).settings.mode ≠ .voice) (sub : SubCause) :
    TakenOff n s (forcedRelease n sub s) := by
  have pass {u : State} (h : TakenOff n s u) : TakenOff n s (grantPass (s.seatFloor n) u) :=
    h.andThen (grantPass_passesBy (h.ungrantable hb)) (grantPass_still _ _)
  unfold forcedRelease
  dsimp only
  split
  · next hst =>
    obtain ⟨hq, hg, hs, hh⟩ := mem_lists_of_standsOnce hp
    refine ⟨by simp only [SeatRec.releasedAs, hst], ?_, rfl⟩
    simp only [FloorRec.mem_named, hq, hg, hs, hh, hst]
    simp
  · next hst => exact pass (dequeue_takenOff hn hl hp hst _ _)
  · next hst => exact pass (close_takenOff hn hl hp hst _ _)
  · next hst => exact pass (endSuspended_takenOff hn hl hp hst _ _)
  · next hst => exact pass (endEntry_takenOff hn hl hp (Or.inl hst) h2 hb _)
  · next hst => exact pass (endEntry_takenOff hn hl hp (Or.inr hst) h2 hb _)

end

/-- The same release, told from a state in which the seat had the same floor state and account of turns. -/
theorem releasedFrom_congr {n : Nat} {s u t : State} (hst : (u.seat n).floorState = (s.seat n).floorState)
    (hacc : (u.seat n).accTurns = (s.seat n).accTurns) (h : releasedFrom u n t) : releasedFrom s n t := by
  unfold releasedFrom at *
  rwa [← hst, ← hacc]

end Sys2Proof.Machine

namespace Sys2Proof.Machine

/-! ## Many seats updated in turn -/

theorem seat_forAll_modSeat_not_mem {l : List Nat} {n : Nat} (h : n ∉ l) (k : Nat → SeatRec → SeatRec) (s : State) :
    (forAll l (fun m => State.modSeat m (k m)) s).seat n = s.seat n := by
  induction l generalizing s with
  | nil => rfl
  | cons m l ih =>
    rw [List.mem_cons, not_or] at h
    exact (ih h.2 (s.modSeat m (k m))).trans (State.seat_modSeat_ne h.1 (k m) s)

/-- What every write of seat `n` makes, and a record after a reset has, seat `n` has once its turn has come. -/
theorem forAll_modSeat_makes (P : SeatRec → Prop) {l : List Nat} {n : Nat} (hn : n ∈ l) {k : Nat → SeatRec → SeatRec}
    (h0 : P (Reset.seat .A)) (hk : ∀ r, P (k n r)) (s : State) :
    P ((forAll l (fun m => State.modSeat m (k m)) s).seat n) := by
  induction l generalizing s with
  | nil => cases hn
  | cons m l ih =>
    by_cases hl : n ∈ l
    · exact ih hl (s.modSeat m (k m))
    · obtain rfl : n = m := (List.mem_cons.mp hn).resolve_right hl
      have hlast := seat_forAll_modSeat_not_mem hl k (s.modSeat n (k n))
      refine (congrArg P hlast).mpr ?_
      rcases State.seat_modSeat_cases (n := n) (s := s) (k n) with h | ⟨h, -⟩
      · rw [h]
        exact hk _
      · rw [h]
        exact h0

theorem forAll_modSeat_keeps {α : Type} (p : SeatRec → α) {k : Nat → SeatRec → SeatRec} (hk : ∀ m r, p (k m r) = p r)
    (l : List Nat) (n : Nat) (s : State) :
    p ((forAll l (fun m => State.modSeat m (k m)) s).seat n) = p (s.seat n) :=
  forAll_keeps (fun t => p (t.seat n)) _ (fun m t => seat_modSeat_keeps p (hk m) m n t) l s

theorem floor_forAll_modSeat (l : List Nat) (k : Nat → SeatRec → SeatRec) (f : Floor) (s : State) :
    (forAll l (fun m => State.modSeat m (k m)) s).floor f = s.floor f :=
  forAll_keeps (·.floor f) _ (fun m t => State.floor_modSeat m (k m) f t) l s

/-- The seats of a floor are told by the sides and the partition. -/
theorem floorSeats_of_eq {s t : State} (hp : t.part = s.part) (hs : ∀ n, (t.seat n).side = (s.seat n).side) (f : Floor) :
    t.floorSeats f = s.floorSeats f := by
  have hf : t.seatFloor = s.seatFloor := by
    funext n
    unfold State.seatFloor
    rw [hp, hs n]
  unfold State.floorSeats
  rw [hf]

/-! ## The end of a meeting (07 R137) -/

theorem reports_core {α : Type} (l : List α) {f : α → State → State} (hf : ∀ a s, (f a s).core = s.core) (s : State) :
    (forAll l f s).core = s.core := forAll_keeps State.core f hf l s

/-- A floor's seats at a meeting's end (02 R44), before the reports. -/
def clearedFloor (f : Floor) (s : State) : State :=
  (forAll (s.floorSeats f) (fun n => State.modSeat n SeatRec.endMeeting) s).modFloor f
    (fun r => { r with queue := [], grantOrder := [], stack := [], susp := [] })

theorem releaseFloor_core (f : Floor) (s : State) : (releaseFloor f s).core = (clearedFloor f s).core := by
  unfold releaseFloor
  dsimp only
  refine (reports_core _ (fun _ _ => ?_) _).trans (reports_core _ (fun _ _ => ?_) _) <;> exact report_core _ _ _

theorem endMeeting_idle (r : SeatRec) : r.endMeeting.floorState = .idle := by
  unfold SeatRec.endMeeting
  split <;> rfl

theorem endMeeting_side (r : SeatRec) : r.endMeeting.side = r.side := by
  unfold SeatRec.endMeeting
  split <;> rfl

theorem releaseFloor_seat (f : Floor) (s : State) (n : Nat) :
    (releaseFloor f s).seat n = (forAll (s.floorSeats f) (fun n => State.modSeat n SeatRec.endMeeting) s).seat n := by
  rw [seat_of_core (releaseFloor_core f s)]
  exact State.seat_modFloor f _ n _

theorem releaseFloor_idle {f : Floor} {s : State} {n : Nat} (hn : n ∈ s.floorSeats f) :
    ((releaseFloor f s).seat n).floorState = .idle := by
  rw [releaseFloor_seat]
  exact forAll_modSeat_makes (fun r => r.floorState = .idle) hn rfl endMeeting_idle s

theorem releaseFloor_part (f : Floor) (s : State) : (releaseFloor f s).part = s.part := by
  have hc : (releaseFloor f s).part = (clearedFloor f s).part := (congrArg State.part (releaseFloor_core f s) :)
  rw [hc, clearedFloor, State.modFloor_part]
  exact forAll_keeps (·.part) _ (fun m t => State.modSeat_part m _ t) _ s

theorem releaseFloor_floorSeats (f : Floor) (s : State) : (releaseFloor f s).floorSeats f = s.floorSeats f := by
  refine floorSeats_of_eq (releaseFloor_part f s) (fun n => ?_) f
  rw [releaseFloor_seat]
  exact forAll_modSeat_keeps SeatRec.side (fun _ => endMeeting_side) _ n s

theorem releaseFloor_named (f : Floor) (s : State) : ((releaseFloor f s).floor f).named = [] := by
  rw [floor_of_core (releaseFloor_core f s), clearedFloor, State.floor_modFloor_same]
  rfl

theorem completedReport_core (id : Nat) (f : Option (Floor × MeetingState)) (o : Outcome) (start stop : Option Nat)
    (count : Nat) (seats : List Nat) (s : State) : (completedReport id f o start stop count seats s).core = s.core := by
  have parts (k part : Nat) (seats : List Nat) (s : State) :
      (completedParts id f o start stop count k part seats s).core = s.core := by
    induction k generalizing part seats s with
    | zero => rfl
    | succ k ih =>
      unfold completedParts
      dsimp only
      split
      · exact report_core _ _ _
      · exact (ih _ _ _).trans (report_core _ _ _)
  exact parts 4 1 seats s

/-- What the clearing of a roster writes, the nameplates apart: ABSENT seats without role and delegate record (01 R6). -/
def unseated (seats : List Nat) (s : State) : State :=
  forAll seats (fun n => State.modSeat n (fun r => { r with role := .none, delegate := none }))
    (forAll seats (fun n => State.modPlate n (fun p => { p with see := none, count := 0 }))
      (forAll seats (fun n => State.modSeat n (SeatRec.withPresence .absent)) s))

theorem clearRoster_core (f : Floor) (s : State) : (clearRoster f s).core = (unseated (s.floorSeats f) s).core := by
  unfold clearRoster writeRoles
  dsimp only
  refine (reports_core _ clearPlate_core _).trans (reports_core _ (fun _ _ => ?_) _)
  exact report_core _ _ _

theorem unseated_seat {l : List Nat} {n : Nat} (hn : n ∈ l) (s : State) :
    ((unseated l s).seat n).presence = .absent ∧ ((unseated l s).seat n).role = .none ∧
      ((unseated l s).seat n).delegate = none := by
  have written : ((unseated l s).seat n).role = .none ∧ ((unseated l s).seat n).delegate = none :=
    forAll_modSeat_makes (fun r => r.role = .none ∧ r.delegate = none) hn ⟨rfl, rfl⟩
      (by intro r; exact ⟨rfl, rfl⟩) _
  have absent (r : SeatRec) : (r.withPresence .absent).presence = .absent := by
    unfold SeatRec.withPresence
    split
    · next h => simpa using h
    · rfl
  refine ⟨?_, written⟩
  unfold unseated
  rw [forAll_modSeat_keeps SeatRec.presence (by intros; rfl),
    State.seat_of_seats (forAll_keeps (·.seats) _ (fun m t => State.modPlate_seats m _ t) _ _)]
  exact forAll_modSeat_makes (fun r => r.presence = .absent) hn rfl absent s

theorem unseated_floorState (l : List Nat) (n : Nat) (s : State) :
    ((unseated l s).seat n).floorState = (s.seat n).floorState := by
  have kept (r : SeatRec) : (r.withPresence .absent).floorState = r.floorState := by
    unfold SeatRec.withPresence
    split <;> rfl
  unfold unseated
  rw [forAll_modSeat_keeps SeatRec.floorState (by intros; rfl),
    State.seat_of_seats (forAll_keeps (·.seats) _ (fun m t => State.modPlate_seats m _ t) _ _)]
  exact forAll_modSeat_keeps SeatRec.floorState (fun _ => kept) l n s

theorem unseated_floor (l : List Nat) (f : Floor) (s : State) : (unseated l s).floor f = s.floor f := by
  unfold unseated
  rw [floor_forAll_modSeat, forAll_keeps (·.floor f) _ (fun m t => State.floor_of_floors (State.modPlate_floorA m _ t)
    (State.modPlate_floorB m _ t) f), floor_forAll_modSeat]

theorem camerasLeave_core (f : Floor) (s : State) : (camerasLeave f s).core = s.core := by
  refine reports_core _ (fun k t => ?_) s
  dsimp only
  split
  · exact restCamera_core k t
  · rfl

/-- The hub once steps 1 to 3 of a meeting's end have cleared its roster (07 R137). -/
def disbanded (f : Floor) (o : Outcome) (s : State) : State :=
  let m := s.meeting f
  let u := releaseFloor f s
  clearRoster f (completedReport (m.served.getD 0) (some (f, .vacant)) o m.start
    (if m.state.runs then u.clock.map (·.minute) else none) m.checkedIn.length
    ((u.floorSeats f).filter (fun n => (u.seat n).role != .none)) u)

theorem endMeeting_core (f : Floor) (o : Outcome) (s : State) :
    (endMeeting f o s).core = ((match (s.meeting f).served with
      | some id => removeBooking id (disbanded f o s)
      | none => disbanded f o s).modMeeting f (fun _ => Reset.meeting)).core := by
  unfold endMeeting
  dsimp only
  rw [camerasLeave_core]
  rfl

/-- Clearing the roster goes by what the release of the floor has left. -/
theorem disbanded_core (f : Floor) (o : Outcome) (s : State) :
    ∃ w : State, w.core = (releaseFloor f s).core ∧
      (disbanded f o s).core = (unseated (s.floorSeats f) w).core := by
  unfold disbanded
  dsimp only
  generalize hw : completedReport _ _ _ _ _ _ _ _ = w
  have hc : w.core = (releaseFloor f s).core := by
    rw [← hw]
    exact completedReport_core _ _ _ _ _ _ _ _
  have hpart : w.part = (releaseFloor f s).part := (congrArg State.part hc :)
  have hseats : w.floorSeats f = s.floorSeats f := by
    rw [← releaseFloor_floorSeats f s]
    exact floorSeats_of_eq hpart (fun n => by rw [seat_of_core hc]) f
  exact ⟨w, hc, by rw [clearRoster_core, hseats]⟩

theorem disbanded_seat {f : Floor} {n : Nat} {s : State} (o : Outcome) (hn : n ∈ s.floorSeats f) :
    ((disbanded f o s).seat n).floorState = .idle ∧ ((disbanded f o s).seat n).presence = .absent ∧
      ((disbanded f o s).seat n).role = .none ∧ ((disbanded f o s).seat n).delegate = none := by
  obtain ⟨w, hw, hd⟩ := disbanded_core f o s
  rw [seat_of_core hd]
  refine ⟨?_, unseated_seat hn w⟩
  rw [unseated_floorState, seat_of_core hw]
  exact releaseFloor_idle hn

theorem disbanded_named (f : Floor) (o : Outcome) (s : State) : ((disbanded f o s).floor f).named = [] := by
  obtain ⟨w, hw, hd⟩ := disbanded_core f o s
  rw [floor_of_core hd, unseated_floor, floor_of_core hw]
  exact releaseFloor_named f s

theorem endMeeting_seat (f : Floor) (o : Outcome) (s : State) (n : Nat) :
    (endMeeting f o s).seat n = (disbanded f o s).seat n := by
  rw [seat_of_core (endMeeting_core f o s), State.seat_modMeeting]
  split <;> rfl

theorem endMeeting_floor (f : Floor) (o : Outcome) (s : State) :
    (endMeeting f o s).floor f = { (disbanded f o s).floor f with meeting := Reset.meeting } := by
  rw [floor_of_core (endMeeting_core f o s), State.modMeeting, State.floor_modFloor_same]
  split <;> rfl

theorem bookings_of_core {s t : State} (h : t.core = s.core) : t.bookings = s.bookings :=
  (congrArg State.bookings h :)

/-- The served booking has left the table. -/
theorem endMeeting_booking {f : Floor} {s : State} {id : Nat} (o : Outcome) (h : (s.meeting f).served = some id) :
    (endMeeting f o s).booking? id = none := by
  have hb : (endMeeting f o s).bookings = (disbanded f o s).bookings.filter (·.id != id) := by
    rw [bookings_of_core (endMeeting_core f o s), h, State.modMeeting_bookings]
    rfl
  unfold State.booking?
  rw [hb]
  exact List.find?_eq_none.mpr (fun b hb => by simpa using (List.mem_filter.mp hb).2)

/-- The end of a meeting, read from the floor, its seats and the booking table (07 R137). -/
theorem endMeeting_frees (f : Floor) (o : Outcome) (s : State) :
    let t := endMeeting f o s
    t.meeting f = Reset.meeting ∧ (t.floor f).named = [] ∧
    (∀ n ∈ s.floorSeats f, (t.seat n).floorState = .idle ∧ (t.seat n).presence = .absent ∧
      (t.seat n).role = .none ∧ (t.seat n).delegate = none) ∧
    (∀ id, (s.meeting f).served = some id → t.booking? id = none) := by
  have hf := endMeeting_floor f o s
  refine ⟨congrArg FloorRec.meeting hf, ?_, fun n hn => ?_, fun id => endMeeting_booking o⟩
  · rw [hf]
    exact disbanded_named f o s
  · rw [endMeeting_seat]
    exact disbanded_seat o hn

end Sys2Proof.Machine

namespace Sys2Proof.Machine

/-! ## The queue of commands

No operation of the hub touches the queue of waiting commands (log entry 46). What keeps the core, or the core less the
floor controllers' own, keeps it anyhow; here is the rest, up to the end of a meeting and the pass that follows it. -/

@[simp] theorem forcedRelease_pending (n : Nat) (sub : SubCause) (s : State) :
    (forcedRelease n sub s).pending = s.pending := pending_of_still (forcedRelease_still n sub s)

@[simp] theorem grantPass_pending (f : Floor) (s : State) : (grantPass f s).pending = s.pending :=
  pending_of_still (grantPass_still f s)

@[simp] theorem priorityRelease_pending (n : Nat) (s : State) : (priorityRelease n s).pending = s.pending :=
  pending_of_still (priorityRelease_still n s)

@[simp] theorem endTest_pending (w : TestEnd) (s : State) : (endTest w s).pending = s.pending := by
  unfold endTest
  split
  · rfl
  · exact report_pending _ _ _

@[simp] theorem endTestOn_pending (f : Floor) (s : State) : (endTestOn f s).pending = s.pending := by
  unfold endTestOn
  split
  · split
    · exact endTest_pending _ s
    · rfl
  · rfl

@[simp] theorem endTestOf_pending (n : Nat) (s : State) : (endTestOf n s).pending = s.pending := by
  unfold endTestOf
  split
  · exact endTest_pending _ s
  · rfl

@[simp] theorem stopChan_pending (c : Nat) (s : State) : (stopChan c s).pending = s.pending := by
  unfold stopChan
  dsimp only
  split
  · exact (reportIf_pending _ _ _ _).trans (State.modChan_pending _ _ _)
  · exact State.modChan_pending _ _ _

@[simp] theorem clearDets_pending (n : Nat) (s : State) : (clearDets n s).pending = s.pending :=
  State.modDets_pending _ _ _

@[simp] theorem loseSeat_pending (n : Nat) (s : State) : (loseSeat n s).pending = s.pending := by
  simp [loseSeat]

@[simp] theorem freshDets_pending (n : Nat) (s : State) : (freshDets n s).pending = s.pending := by
  unfold freshDets
  dsimp only
  split <;> simp

@[simp] theorem setSeatBinding_pending (d : Option Binding) (n : Nat) (s : State) :
    (setSeatBinding d n s).pending = s.pending := by
  unfold setSeatBinding bindingReport
  split
  · rfl
  · dsimp only
    split <;> split <;> simp

@[simp] theorem setLineBinding_pending (d : Option Binding) (l : Nat) (s : State) :
    (setLineBinding d l s).pending = s.pending := by
  unfold setLineBinding
  dsimp only
  split <;> simp

/-! ### Wakes (11 R199 to R201) -/

@[simp] theorem powerReport_pending (p : WakeProgress) (c : Option (PowerCause × Nat)) (x : Option Fate) (s : State) :
    (powerReport p c x s).pending = s.pending := report_pending _ _ _

@[simp] theorem dropInsertion_pending (b : Branch) (s : State) : (dropInsertion b s).pending = s.pending := by
  unfold dropInsertion
  split
  · rfl
  · exact (answer_pending _ _ _ _).trans (State.modBr_pending _ _ _)

@[simp] theorem chooseAddress_pending (s : State) : (chooseAddress s).pending = s.pending := by
  unfold chooseAddress hello
  split
  · rfl
  · split
    · exact report_pending _ _ _
    · rfl

@[simp] theorem unbindBranch_pending (b : Branch) (s : State) : (unbindBranch b s).pending = s.pending := by
  unfold unbindBranch
  dsimp only
  rw [forAll_keeps (·.pending) _ (fun k t => State.modCamera_pending k _ t),
    forAll_keeps (·.pending) _ (fun k t => State.modScreen_pending k _ t),
    forAll_keeps (·.pending) _ (setLineBinding_pending none), forAll_keeps (·.pending) _ (setSeatBinding_pending none)]

@[simp] theorem emptyTable_pending (b : Branch) (x : BranchState) (r : Option Roll) (s : State) :
    (emptyTable b x r s).pending = s.pending := by
  have hwall (t : State) : (chooseWall t).pending = t.pending := rfl
  unfold emptyTable branchReport
  simp [hwall]

@[simp] theorem startEnumeration_pending (b : Branch) (s : State) : (startEnumeration b s).pending = s.pending :=
  emptyTable_pending _ _ _ _

@[simp] theorem wakeBranch_pending (b : Branch) (s : State) : (wakeBranch b s).pending = s.pending := by
  unfold wakeBranch
  split
  · exact startEnumeration_pending b s
  · rfl

@[simp] theorem bookingReport_pending (e : BookingEvent) (id : Nat) (f : Option Floor) (x : List Octet) (s : State) :
    (bookingReport e id f x s).pending = s.pending := report_pending _ _ _

@[simp] theorem refreshDue_pending (f : Floor) (s : State) : (refreshDue f s).pending = s.pending := by
  unfold refreshDue
  dsimp only
  split
  · rfl
  · split <;> simp

@[simp] theorem writeRoles_pending (l : List Nat) (g : Nat → Role × Option Delegate) (s : State) :
    (writeRoles l g s).pending = s.pending := by
  unfold writeRoles
  dsimp only
  have hreport (n : Nat) (t : State) : (rosterReport n t).pending = t.pending := report_pending _ _ _
  rw [forAll_keeps (·.pending) _ hreport, forAll_keeps (·.pending) _ (fun n t => State.modSeat_pending n _ t)]

@[simp] theorem zeroAccounts_pending (f : Floor) (s : State) : (zeroAccounts f s).pending = s.pending :=
  forAll_keeps (·.pending) _ (fun n t => State.modSeat_pending n _ t) _ _

@[simp] theorem loadProfile_pending (f : Floor) (p : Profile) (s : State) : (loadProfile f p s).pending = s.pending :=
  State.modFloor_pending _ _ _

@[simp] theorem restPower_pending (s : State) : (restPower s).pending = s.pending := rfl

@[simp] theorem startWalkin_pending (f : Floor) (s : State) : (startWalkin f s).pending = s.pending := by
  simp [startWalkin]

@[simp] theorem micPress_pending (n : Nat) (s : State) : (micPress n s).pending = s.pending := by
  unfold micPress
  dsimp only
  split
  · split
    · exact pending_of_still (request_still n s)
    · split
      · exact (pending_of_still (request_still n _)).trans (startWalkin_pending _ s)
      · exact pending_of_still (refuse_still _ _ _ s)
  · exact pending_of_still (dequeue_still _ _ _ s)
  · exact (grantPass_pending _ _).trans (pending_of_still (close_still _ _ _ s))
  · exact (grantPass_pending _ _).trans (pending_of_still (endSuspended_still _ _ _ s))
  · rfl
  · rfl

@[simp] theorem floorKey_pending (n : Nat) (k : Key) (e : KeyEvent) (s : State) :
    (floorKey n k e s).pending = s.pending := by
  unfold floorKey
  split
  · exact micPress_pending n s
  · exact pending_of_still (micLong_still n s)
  · rfl
  · exact pending_of_still (priorityPress_still n s)
  · exact priorityRelease_pending n s
  · rfl
  · exact pending_of_still (nextPress_still n s)
  · rfl
  · rfl

@[simp] theorem cardReport_pending (n : Nat) (card : CardId) (o : CardOutcome) (r : Option Nat) (c : CardCause)
    (x : Bool) (s : State) : (cardReport n card o r c x s).pending = s.pending := reportIf_pending _ _ _ _

@[simp] theorem firstCheckIn_pending (n : Nat) (f : Floor) (s : State) :
    (firstCheckIn f (noteCheckedIn n f s)).pending = s.pending := by
  unfold firstCheckIn noteCheckedIn
  split <;> simp

@[simp] theorem becomePresent_pending (n : Nat) (p : Presence) (s : State) :
    (becomePresent n p s).pending = s.pending := by
  unfold becomePresent
  dsimp only
  split <;> simp

@[simp] theorem cardInSeat_pending (n : Nat) (c : CardId) (s : State) : (cardInSeat n c s).pending = s.pending := by
  unfold cardInSeat
  dsimp only
  split
  · simp
  · split
    · simp
    · split <;> simp

@[simp] theorem applyPending_pending (e : Option WakeEvent) (s : State) : (applyPending e s).pending = s.pending := by
  unfold applyPending
  split
  · rfl
  · split
    · dsimp only
      split <;> simp
    · rfl
  · split <;> simp

@[simp] theorem lockFirst_pending (s : State) : (lockFirst s).pending = s.pending := by
  unfold lockFirst
  split
  · exact powerReport_pending _ _ _ _
  · rfl

@[simp] theorem ready_pending (s : State) : (ready s).pending = s.pending := by
  simp [ready]

@[simp] theorem wakeCheck_pending (s : State) : (wakeCheck s).pending = s.pending := by
  unfold wakeCheck
  split
  · exact ready_pending s
  · rfl

@[simp] theorem beginWaking_pending (c : PowerCause) (n : Nat) (e : Option WakeEvent) (s : State) :
    (beginWaking c n e s).pending = s.pending := by
  simp [beginWaking]

@[simp] theorem calendarWake_pending (s : State) : (calendarWake s).pending = s.pending := by
  unfold calendarWake
  split
  · rfl
  · exact powerReport_pending _ _ _ _
  · exact beginWaking_pending _ _ _ s
  · rfl

/-! ### The evaluation pass (07 R128) and the partition change (06 R109 to R113) -/

@[simp] theorem endMeeting_pending (f : Floor) (o : Outcome) (s : State) : (endMeeting f o s).pending = s.pending := by
  have hrelease : (releaseFloor f s).pending = s.pending := by
    rw [pending_of_core (releaseFloor_core f s), clearedFloor, State.modFloor_pending]
    exact forAll_keeps (·.pending) _ (fun n t => State.modSeat_pending n _ t) _ s
  have hunseated (l : List Nat) (w : State) : (unseated l w).pending = w.pending := by
    unfold unseated
    rw [forAll_keeps (·.pending) _ (fun n t => State.modSeat_pending n _ t),
      forAll_keeps (·.pending) _ (fun n t => State.modPlate_pending n _ t),
      forAll_keeps (·.pending) _ (fun n t => State.modSeat_pending n _ t)]
  obtain ⟨w, hw, hd⟩ := disbanded_core f o s
  have hdisbanded : (disbanded f o s).pending = s.pending := by
    rw [pending_of_core hd, hunseated, pending_of_core hw, hrelease]
  rw [pending_of_core (endMeeting_core f o s), State.modMeeting_pending]
  split <;> exact hdisbanded

@[simp] theorem prepare_pending (f : Floor) (b : Booking) (s : State) : (prepare f b s).pending = s.pending := by
  simp [prepare]

@[simp] theorem startBooked_pending (f : Floor) (b : Booking) (s : State) : (startBooked f b s).pending = s.pending := by
  unfold startBooked
  dsimp only
  split <;> simp

@[simp] theorem releaseBooking_pending (b : Booking) (o : Outcome) (s : State) :
    (releaseBooking b o s).pending = s.pending :=
  (pending_of_core (completedReport_core _ _ _ _ _ _ _ _)).trans rfl

@[simp] theorem returnBooking_pending (b : Booking) (f : Option Floor) (s : State) :
    (returnBooking b f s).pending = s.pending := by
  simp [returnBooking]

@[simp] theorem unholdBooking_pending (b : Booking) (s : State) : (unholdBooking b s).pending = s.pending := by
  unfold unholdBooking
  split <;> simp

@[simp] theorem holdBooking_pending (b : Booking) (s : State) : (holdBooking b s).pending = s.pending := by
  unfold holdBooking
  split <;> simp

@[simp] theorem showFloor_pending (f : Floor) (s : State) : (showFloor f s).pending = s.pending :=
  pending_of_core (showFloor_core f s)

/-- Those to whom a pass passes on what it does keep the queue of commands. -/
structure PassedOn.KeepsPending (p : PassedOn) : Prop where
  shown : ∀ f s, (p.shown f s).pending = s.pending
  ended : ∀ s, (p.ended s).pending = s.pending

section
variable {p : PassedOn} (hp : p.KeepsPending)
include hp

theorem endInPass_pending (f : Floor) (o : Outcome) (s : State) : (endInPass p f o s).pending = s.pending :=
  (hp.ended _).trans ((hp.shown f _).trans (endMeeting_pending f o s))

theorem judgeOverrun_pending (f : Floor) (b : Booking) (s : State) : (judgeOverrun p f b s).pending = s.pending := by
  unfold judgeOverrun
  dsimp only
  split
  · exact (endInPass_pending hp _ _ _).trans (State.modMeeting_pending _ _ s)
  · exact State.modMeeting_pending _ _ s

theorem judgeFloor_pending (f : Floor) (s : State) : (judgeFloor p f s).pending = s.pending := by
  have warned (b : Booking) : (giveWarning f b s).pending = s.pending := by
    unfold giveWarning
    split <;> simp
  unfold judgeFloor
  dsimp only
  split
  · rfl
  · split
    · rfl
    · rfl
    · rfl
    · split
      · exact endInPass_pending hp _ _ s
      · exact warned _
    · split
      · unfold enterOverrun
        rw [judgeOverrun_pending hp, hp.shown, bookingReport_pending, State.modMeeting_pending]
        exact warned _
      · exact warned _
    · exact judgeOverrun_pending hp _ _ s

theorem judgePreparing_pending (b : Booking) (s : State) : (judgePreparing p b s).pending = s.pending := by
  unfold judgePreparing
  split
  · rfl
  · split
    · exact endInPass_pending hp _ _ s
    · split
      · rw [hp.shown, returnBooking_pending, State.modMeeting_pending]
      · split
        · rw [hp.shown, startBooked_pending]
        · rfl

theorem preempt_pending (f : Floor) (b : Booking) (s : State) : (preempt p f b s).pending = s.pending := by
  unfold preempt
  dsimp only
  split
  · rw [hp.shown, startBooked_pending, endInPass_pending hp]
  · exact endInPass_pending hp _ _ s

theorem judgeWaiting_pending (b : Booking) (s : State) : (judgeWaiting p b s).pending = s.pending := by
  unfold judgeWaiting
  split
  · exact releaseBooking_pending _ _ s
  · split
    · exact releaseBooking_pending _ _ s
    · split
      · exact unholdBooking_pending _ s
      · split
        · exact holdBooking_pending _ s
        · split
          · rw [hp.shown]
            split <;> simp
          · split
            · simp
            · exact preempt_pending hp _ _ s
          all_goals exact holdBooking_pending _ s

theorem judgeBooking_pending (id : Nat) (s : State) : (judgeBooking p id s).pending = s.pending := by
  unfold judgeBooking
  split
  · rfl
  · split
    · exact judgePreparing_pending hp _ s
    · exact judgeWaiting_pending hp _ s
    · exact judgeWaiting_pending hp _ s

theorem evaluate_pending (s : State) : (evaluate p s).pending = s.pending := by
  unfold evaluate refreshDues
  split
  · rw [refreshDue_pending, refreshDue_pending, forAll_keeps (·.pending) _ (judgeBooking_pending hp),
      judgeFloor_pending hp, judgeFloor_pending hp]
  · simp

end

theorem insideChange_keepsPending : insideChange.KeepsPending := ⟨fun _ _ => rfl, fun _ => rfl⟩

@[simp] theorem rejudgePreparing_pending (id : Nat) (s : State) : (rejudgePreparing id s).pending = s.pending := by
  unfold rejudgePreparing
  split
  · split <;> simp
  · rfl

@[simp] theorem changePartition_pending (s : State) : (changePartition s).pending = s.pending := by
  unfold changePartition wallReport
  dsimp only
  rw [pending_of_core (showScreens_core _), evaluate_pending insideChange_keepsPending,
    forAll_keeps (·.pending) _ rejudgePreparing_pending, report_pending]

@[simp] theorem applyTarget_pending (s : State) : (applyTarget s).pending = s.pending := by
  unfold applyTarget
  split
  · exact changePartition_pending s
  · rfl

theorem atOnce_keepsPending : atOnce.KeepsPending := ⟨showFloor_pending, applyTarget_pending⟩

@[simp] theorem evaluationPass_pending (s : State) : (evaluationPass s).pending = s.pending :=
  evaluate_pending atOnce_keepsPending s

@[simp] theorem endMeetingNow_pending (f : Floor) (o : Outcome) (s : State) :
    (endMeetingNow f o s).pending = s.pending := by
  simp [endMeetingNow]

/-- SESSION_END (07 R136). -/
theorem sessionEnd_spec (h : Head) (k : Nat) (s : State) (hr : s.readyFor h) :
    ∃ t, exec (.sessionEnd h (.fields k)) s = .next t ∧
      match floorOfCode k with
      | none => turnsAway h .range s t
      | some f => if !s.runs f then turnsAway h .state s t else accepts h (endMeetingNow f .ended s) t := by
  show ∃ t, finish s (handle h (.sessionEnd h (.fields k)) (.fields k) sessionEnd s) = .next t ∧ _
  split
  · next hf => exact handle_refusal h _ k sessionEnd s .range hr (by simp only [sessionEnd, hf])
  · next f hf =>
    split
    · next hrun => exact handle_refusal h _ k sessionEnd s .state hr (by simp only [sessionEnd, hf, if_pos hrun])
    · next hrun =>
      exact handle_done h _ k sessionEnd s _ hr (by simp only [sessionEnd, hf, if_neg hrun]) (endMeetingNow_pending _ _ s)

/-- WALKIN_IDLE_END (07 R136). -/
theorem walkinIdleEnd_spec (f : Floor) (s : State) (h : (s.meeting f).state = .walkIn) :
    ∃ t, exec (.walkinIdleEnd f) s = .next t ∧ t.core = (endMeetingNow f .released s).core := by
  refine ⟨refresh (endMeetingNow f .released s), ?_, refresh_core _⟩
  simp only [exec, execWalkinIdleEnd, h, beq_self_eq_true, if_true]
  exact finish_of_pending _ _ (by simp)

/-- Settles O21: both ways for a meeting to end run the same disbanding of its floor. -/
theorem meetingEndsFreeTheFloor : Obligations.MeetingEndsFreeTheFloor :=
  ⟨endMeeting_frees, sessionEnd_spec, walkinIdleEnd_spec⟩

end Sys2Proof.Machine

namespace Sys2Proof.Machine

/-! ## The end of a meaning -/

/-- A meaning that ends with the refresh, made on a state of a known core. -/
theorem finish_refresh {s u v : State} (hc : u.core = v.core) (hp : v.pending = s.pending) :
    ∃ t, finish s (refresh u) = .next t ∧ t.core = v.core ∧ t.sd = (refresh u).sd := by
  refine ⟨refresh u, finish_of_pending _ _ ?_, (refresh_core u).trans hc, rfl⟩
  rw [refresh_pending, pending_of_core hc, hp]

/-! ## A wrong-seat display outlasts the refresh (08 R153) -/

theorem shown_plates (t : Target) (s : State) : (shown t s).sd.plates = s.sd.plates := by
  unfold shown
  split
  · next k => cases k <;> rfl
  all_goals rfl

theorem handOn_plates (d : Directive) (s : State) : (handOn d s).sd.plates = s.sd.plates := by
  unfold handOn
  dsimp only
  split
  · rfl
  · split
    · rw [shown_plates, State.modLane_sd]
    · split
      · rw [shown_plates, pushOut_sd]
      · rfl

theorem plates_directorFrame : DirectorFrame (fun s t => t.sd.plates = s.sd.plates) where
  refl _ := rfl
  trans h k := k.trans h
  screen k _ _ := by cases k <;> rfl
  camera k _ _ := by cases k <;> rfl
  waiting _ _ := rfl
  handOn := handOn_plates

theorem plate_of_plates {s t : State} (h : t.sd.plates = s.sd.plates) (n : Nat) : t.plate n = s.plate n := by
  cases n with
  | zero => rfl
  | succ k => exact congrArg (·.getD k Reset.plate) h

theorem plate_modPlate_ne {m n : Nat} (h : n ≠ m) (f : Plate → Plate) (s : State) :
    (s.modPlate m f).plate n = s.plate n := by
  cases m with
  | zero => rfl
  | succ j => cases n with
    | zero => rfl
    | succ k =>
      have hjk : j ≠ k := fun e => h (by rw [e])
      simp only [State.plate, State.modPlate, List.getD_eq_getElem?_getD, List.getElem?_modify_ne _ _ hjk]

/-- A nameplate that the table holds. -/
theorem plate_modPlate_same {n : Nat} {s : State} (h1 : 1 ≤ n) (hn : n ≤ s.sd.plates.length) (f : Plate → Plate) :
    (s.modPlate n f).plate n = f (s.plate n) := by
  cases n with
  | zero => exact absurd h1 (by decide)
  | succ k =>
    have hk : k < s.sd.plates.length := hn
    simp only [State.plate, State.modPlate, List.getD_eq_getElem?_getD, List.getElem?_modify_eq,
      List.getElem?_eq_getElem hk, Option.map_eq_map, Option.map_some, Option.getD_some]

theorem plates_length_modPlate (n : Nat) (f : Plate → Plate) (s : State) :
    (s.modPlate n f).sd.plates.length = s.sd.plates.length := by
  cases n with
  | zero => rfl
  | succ k => exact List.length_modify f s.sd.plates k

/-- The wrong-seat display of a seat's nameplate. -/
def Plate.wrongSeat (p : Plate) : Option Nat × Nat := (p.see, p.count)

/-- The nameplate of a seat that can be reached, in an ACTIVE room, keeps its wrong-seat display. -/
theorem plateOf_wrongSeat {s : State} {n : Nat} (ha : s.pwr.state = .active)
    (hr : s.reachable (s.seat n).binding = true) : (s.plateOf n).wrongSeat = (s.plate n).wrongSeat := by
  simp [State.plateOf, Plate.wrongSeat, ha, hr]

theorem refreshPlate_wrongSeat {s : State} {n : Nat} (ha : s.pwr.state = .active)
    (hr : s.reachable (s.seat n).binding = true) (h1 : 1 ≤ n) (hn : n ≤ s.sd.plates.length) (m : Nat) :
    ((refreshPlate m s).plate n).wrongSeat = (s.plate n).wrongSeat := by
  have drawn : ((if s.plateOf m == s.plate m then s else s.modPlate m (fun _ => s.plateOf m)).plate n).wrongSeat =
      (s.plate n).wrongSeat := by
    split
    · rfl
    · by_cases hm : n = m
      · subst hm
        rw [plate_modPlate_same h1 hn, plateOf_wrongSeat ha hr]
      · rw [plate_modPlate_ne hm]
  unfold refreshPlate drawPlate
  dsimp only
  split
  · split
    · rw [plate_of_plates (handOn_plates _ _)]
      exact drawn
    · exact drawn
  · exact drawn

theorem refreshPlate_platesLength (m : Nat) (s : State) :
    (refreshPlate m s).sd.plates.length = s.sd.plates.length := by
  have drawn (c : Bool) (p : Plate) :
      (if c then s else s.modPlate m (fun _ => p)).sd.plates.length = s.sd.plates.length := by
    split
    · rfl
    · exact plates_length_modPlate m _ s
  unfold refreshPlate drawPlate
  dsimp only
  split
  · split
    · rw [handOn_plates]
      exact drawn _ _
    · exact drawn _ _
  · exact drawn _ _

/-- Reachability and power are read from the core. -/
theorem reachable_of_core {s t : State} (h : t.core = s.core) (d : Option Binding) : t.reachable d = s.reachable d := by
  have h0 : t.br0 = s.br0 := (congrArg State.br0 h :)
  have h1 : t.br1 = s.br1 := (congrArg State.br1 h :)
  unfold State.reachable
  rw [linkOf_of_branches h0 h1]

theorem power_of_core {s t : State} (h : t.core = s.core) : t.pwr = s.pwr :=
  (congrArg State.pwr h :)

theorem refreshPlates_wrongSeat {n : Nat} (h1 : 1 ≤ n) (l : List Nat) (s : State) (ha : s.pwr.state = .active)
    (hr : s.reachable (s.seat n).binding = true) (hn : n ≤ s.sd.plates.length) :
    ((forAll l refreshPlate s).plate n).wrongSeat = (s.plate n).wrongSeat := by
  induction l generalizing s with
  | nil => rfl
  | cons m l ih =>
    have hc := refreshPlate_core m s
    refine (ih (refreshPlate m s) ?_ ?_ ?_).trans (refreshPlate_wrongSeat ha hr h1 hn m)
    · rwa [power_of_core hc]
    · rwa [seat_of_core hc, reachable_of_core hc]
    · rwa [refreshPlate_platesLength]

theorem dropWaiting_core (s : State) : (dropWaiting s).core = s.core := by
  simp only [State.core, dropWaiting, Director.inner]

theorem screensAndCameras_core (s : State) :
    (forAll (List.range' 1 4) refreshCamera (showScreens (dropWaiting s))).core = s.core := by
  rw [forAll_keeps State.core _ refreshCamera_core, showScreens_core, dropWaiting_core]

theorem screensAndCameras_plates (s : State) :
    (forAll (List.range' 1 4) refreshCamera (showScreens (dropWaiting s))).sd.plates = s.sd.plates :=
  plates_directorFrame.screensAndCameras s

theorem refresh_plates (s : State) : (refresh s).sd.plates = (forAll allSeats refreshPlate
    (forAll (List.range' 1 4) refreshCamera (showScreens (dropWaiting s)))).sd.plates := by
  have hd : (refresh s).sd = (deliver (refreshAll s)).sd := by simp only [refresh]
  rw [hd, deliver_sd]
  simp only [refreshAll]

/-- A wrong-seat display stays while the room is ACTIVE and the seat can be reached. -/
theorem refresh_wrongSeat {s : State} {n : Nat} (ha : s.pwr.state = .active)
    (hr : s.reachable (s.seat n).binding = true) (h1 : 1 ≤ n) (hn : n ≤ s.sd.plates.length) :
    ((refresh s).plate n).wrongSeat = (s.plate n).wrongSeat := by
  have judged (u : State) (hc : u.core = s.core) (hu : u.sd.plates = s.sd.plates) :
      ((forAll allSeats refreshPlate u).plate n).wrongSeat = (s.plate n).wrongSeat := by
    rw [refreshPlates_wrongSeat h1 allSeats u, plate_of_plates hu]
    · rwa [power_of_core hc]
    · rwa [seat_of_core hc, reachable_of_core hc]
    · rwa [hu]
  rw [plate_of_plates (refresh_plates s)]
  exact judged _ (screensAndCameras_core s) (screensAndCameras_plates s)

/-! ## Cards (01 R9 to R12, 10 R187, 11 R199) -/

/-- A card that nothing is bound for goes to a NO_SEAT report alone; while ACTIVE it restarts the idle count. -/
theorem deliverCard_unbound_core {d : Binding} {s : State} (h : s.seatAt? d = none) (c : CardId) :
    (deliverCard d c s).core = (if s.pwr.state = .active then restPower s else s).core := by
  have hrest : (restPower s).seatAt? d = none := h
  unfold deliverCard
  by_cases ha : s.pwr.state = .active
  · rw [if_pos ha, if_pos (by simpa using ha)]
    simp only [cardIn, hrest]
    exact cardReport_core _ _ _ _ _ _ _
  · rw [if_neg ha, if_neg (by simpa using ha)]
    simp only [cardIn, h]
    exact cardReport_core _ _ _ _ _ _ _

/-- The seat bound at a place is a seat of the table. -/
theorem seatAt_spec {s : State} {d : Binding} {n : Nat} (h : s.seatAt? d = some n) :
    n ∈ allSeats ∧ (s.seat n).binding = some d :=
  ⟨List.mem_of_find?_eq_some h, by simpa using List.find?_some h⟩

/-- The own card of a seat of a running meeting makes it PRESENT by CARD (01 R9, R12). -/
theorem cardInSeat_own_core {n : Nat} {c : CardId} {s : State} (ht : (s.meeting (s.seatFloor n)).state.takesCards = true)
    (hc : (s.seat n).delegate.map (·.card) = some c) : (cardInSeat n c s).core = (becomePresent n .card s).core := by
  unfold cardInSeat
  dsimp only
  rw [if_neg (by simp [ht]), if_pos (by simp [hc])]
  exact cardReport_core _ _ _ _ _ _ _

/-- A card that is not the seat's own changes nothing of the core. -/
theorem cardInSeat_other_core {n : Nat} {c : CardId} {s : State} (hc : (s.seat n).delegate.map (·.card) ≠ some c) :
    (cardInSeat n c s).core = s.core := by
  unfold cardInSeat
  dsimp only
  split
  · exact cardReport_core _ _ _ _ _ _ _
  · rw [if_neg (by simpa using hc)]
    split
    · exact (cardReport_core _ _ _ _ _ _ _).trans ((owePlate_core _ _).trans (modPlate_core _ _ _))
    · exact cardReport_core _ _ _ _ _ _ _

theorem cardInSeat_closed_core {n : Nat} {c : CardId} {s : State}
    (ht : (s.meeting (s.seatFloor n)).state.takesCards = false) : (cardInSeat n c s).core = s.core := by
  simp only [cardInSeat, ht]
  exact cardReport_core _ _ _ _ _ _ _

/-- The card of another seat of the floor shows that seat on the nameplate (08 R153). -/
theorem cardInSeat_wrongSeat {n m : Nat} {c : CardId} {s : State}
    (ht : (s.meeting (s.seatFloor n)).state.takesCards = true) (hc : (s.seat n).delegate.map (·.card) ≠ some c)
    (hm : s.cardHolder (s.seatFloor n) n c = some m) (h1 : 1 ≤ n) (hn : n ≤ s.sd.plates.length) :
    ((cardInSeat n c s).plate n).wrongSeat = (some m, 0) ∧
      (cardInSeat n c s).sd.plates.length = s.sd.plates.length := by
  have hshown : (cardInSeat n c s).sd.plates =
      (s.modPlate n (fun p => { p with see := some m, count := 0 })).sd.plates := by
    unfold cardInSeat
    dsimp only
    rw [if_neg (by simp [ht]), if_neg (by simpa using hc), hm]
    unfold cardReport reportIf
    dsimp only
    split
    · rw [report_sd]
      rfl
    · rfl
  refine ⟨?_, by rw [hshown, plates_length_modPlate]⟩
  rw [plate_of_plates hshown, plate_modPlate_same h1 hn]
  rfl

end Sys2Proof.Machine

namespace Sys2Proof.Machine

/-! ## A seat whose card has gone (01 R10, R11; 02 R43) -/

/-- The hub once a PRESENT seat has become ABSENT, before any release. -/
def madeAbsent (n : Nat) (s : State) : State := s.modSeat n (fun r => { r with presence := .absent, cardClear := 0 })

/-- A PRESENT seat has become ABSENT; where presence is required it has been released, and else nothing of the core has
changed beside. -/
def LeavesSeat (n : Nat) (s t : State) : Prop :=
  t.still = (madeAbsent n s).still ∧ (t.seat n).presence = .absent ∧
  if (s.floor (s.seatFloor n)).settings.presenceRequired then
    TablesWhole s → ListsPlaced s → s.standsOnce n → releasedFrom s n t
  else t.core = (madeAbsent n s).core

/-- A seat that is not as after a reset is in the table. -/
theorem mem_allSeats_of_present {s : State} {n : Nat} (hl : s.seats.length = 48) (h : (s.seat n).presence ≠ .absent) :
    n ∈ allSeats := by
  by_contra hn
  refine h ?_
  rw [State.seat_beyond]
  · rfl
  · rw [hl]
    simpa [allSeats, List.mem_range'_1, Nat.lt_succ_iff] using hn

theorem madeAbsent_presence (n : Nat) (s : State) : ((madeAbsent n s).seat n).presence = .absent := by
  rcases State.seat_modSeat_cases (n := n) (s := s) (fun r => { r with presence := .absent, cardClear := 0 }) with
    h | ⟨h, -⟩
  · exact (congrArg SeatRec.presence h :)
  · exact (congrArg SeatRec.presence h :)

theorem madeAbsent_seatFloor (n : Nat) (s : State) : (madeAbsent n s).seatFloor n = s.seatFloor n := by
  apply seatFloor_modSeat
  intro r
  rfl

theorem madeAbsent_floor (n : Nat) (s : State) (f : Floor) : (madeAbsent n s).floor f = s.floor f :=
  State.floor_modSeat _ _ _ _

theorem becomeAbsent_eq {n : Nat} {s : State} (h : (s.seat n).presence ≠ .absent) :
    becomeAbsent n s = if (s.floor (s.seatFloor n)).settings.presenceRequired then
      forcedRelease n .absent (madeAbsent n s) else madeAbsent n s := by
  have hgone : s.modSeat n (SeatRec.withPresence .absent) = madeAbsent n s :=
    State.modSeat_congr (by rw [SeatRec.withPresence, if_neg (by simpa using h)])
  unfold becomeAbsent
  dsimp only
  rw [hgone, madeAbsent_seatFloor, madeAbsent_floor]

/-- Where presence is required an ABSENT seat is not admitted (02 R24). -/
theorem admission_of_absent {n : Nat} {s : State} (hp : (s.seat n).presence = .absent)
    (hr : (s.floor (s.seatFloor n)).settings.presenceRequired = true) : s.admission n ≠ none := by
  unfold State.admission
  dsimp only
  rw [hp, hr]
  split <;> simp

/-- The release of a seat that has become ABSENT (02 R43). -/
theorem madeAbsent_takenOff {n : Nat} {s : State} (hreq : (s.floor (s.seatFloor n)).settings.presenceRequired = true)
    (h : (s.seat n).presence ≠ .absent) (htab : TablesWhole s) (hlist : ListsPlaced s) (hp : s.standsOnce n) :
    TakenOff n (madeAbsent n s) (forcedRelease n .absent (madeAbsent n s)) := by
  obtain ⟨hl, -⟩ := htab
  obtain ⟨-, -, -, h2⟩ := hlist (s.seatFloor n)
  have hfloor : (madeAbsent n s).floor ((madeAbsent n s).seatFloor n) = s.floor (s.seatFloor n) := by
    rw [madeAbsent_seatFloor, madeAbsent_floor]
  have hp' : (madeAbsent n s).standsOnce n := by
    refine standsOnce_modSeat (fun _ => ?_) (fun _ => ?_) hp <;> rfl
  have hl' : (madeAbsent n s).seats.length = 48 := (State.modSeat_seats_length _ _ _).trans hl
  exact forcedRelease_takenOff (mem_allSeats_of_present hl h) hl' hp'
    (by rwa [hfloor]) (Or.inl (admission_of_absent (madeAbsent_presence n s) (by rwa [hfloor]))) .absent

theorem becomeAbsent_still {n : Nat} {s : State} (h : (s.seat n).presence ≠ .absent) :
    (becomeAbsent n s).still = (madeAbsent n s).still := by
  rw [becomeAbsent_eq h]
  split
  · exact forcedRelease_still _ _ _
  · rfl

theorem becomeAbsent_leaves {n : Nat} {s t : State} (h : (s.seat n).presence ≠ .absent)
    (ht : t.core = (becomeAbsent n s).core) : LeavesSeat n s t := by
  have hstill : t.still = (madeAbsent n s).still := (still_of_core ht).trans (becomeAbsent_still h)
  have hpres : (t.seat n).presence = ((madeAbsent n s).seat n).presence :=
    (congrArg SeatRec.presence (seat_still hstill n) :)
  refine ⟨hstill, hpres.trans (madeAbsent_presence n s), ?_⟩
  rw [becomeAbsent_eq h] at ht
  split
  · next hreq =>
    intro htab hlist hp
    rw [if_pos hreq] at ht
    have off := (madeAbsent_takenOff hreq h htab hlist hp).of_core ht
    refine releasedFrom_congr ?_ ?_ off.releasedFrom
    · exact seat_modSeat_keeps SeatRec.floorState (by intro r; rfl) n n s
    · exact seat_modSeat_keeps SeatRec.accTurns (by intro r; rfl) n n s
  · next hreq => rwa [if_neg hreq] at ht

/-- A card-present flag that is lost (01 R11). -/
theorem cardFlagLoss_leaves (n : Nat) (s : State) (h : (s.seat n).presence = .card) :
    ∃ t, exec (.cardFlagLoss n) s = .next t ∧ LeavesSeat n s t := by
  have ha : (s.seat n).presence ≠ .absent := by
    rw [h]
    decide
  have hcore : (cardFlagLoss n s).core = (becomeAbsent n s).core := cardReport_core _ _ _ _ _ _ _
  have hpend : (becomeAbsent n s).pending = s.pending :=
    (pending_of_still (becomeAbsent_still ha)).trans (State.modSeat_pending _ _ _)
  obtain ⟨t, ht, htc, -⟩ := finish_refresh hcore hpend
  refine ⟨t, ?_, becomeAbsent_leaves ha htc⟩
  simp only [exec, execCardFlagLoss, h, beq_self_eq_true, if_true, ht]

theorem cardFlagLoss_idle (n : Nat) (s : State) (h : (s.seat n).presence ≠ .card) :
    exec (.cardFlagLoss n) s = .next s := by
  have hc : ((s.seat n).presence == .card) = false := by simpa using h
  simp only [exec, execCardFlagLoss, hc]
  rfl

/-! ## The station messages (01 R9, R10; 10 R187; 11 R199) -/

section
variable (b : Branch) (p : Nat) (c : CardId) (s : State) (hb : (s.br b).state.carriesLane = true)
include hb

theorem execCardIn_carried : exec (.cardIn b p c) s = finish s (refresh (stationCardIn ⟨b, p⟩ c s)) := by
  simp only [exec, execCardIn, hb, if_true]

theorem execCardOut_carried : exec (.cardOut b p c) s = finish s (refresh (stationCardOut ⟨b, p⟩ c s)) := by
  simp only [exec, execCardOut, hb, if_true]

/-- Outside ACTIVE the CARD_IN of a bound station goes to the power manager (11 R199). -/
theorem execCardIn_toPower {n : Nat} (hseat : s.isSeatNode ⟨b, p⟩ = true) (hn : s.seatAt? ⟨b, p⟩ = some n)
    (ha : s.pwr.state ≠ .active) : exec (.cardToPower b p c) s = exec (.cardIn b p c) s := by
  have ha' : (s.pwr.state == .active) = false := by simpa using ha
  rw [execCardIn_carried b p c s hb]
  simp only [exec, execCardToPower, stationCardIn, deliverCard, hseat, ha', hb, hn]
  rfl

end

/-- A card message from a node that is no SEAT node is counted (10 R187, R194). -/
theorem countKind_next (b : Branch) (s : State) : ∃ t, finish s (refresh (countKind b s)) = .next t ∧
    t.core = (s.modLane b (fun l => { l with counts := { l.counts with kind := min (l.counts.kind + 1) 65535 } })).core := by
  obtain ⟨t, ht, htc, -⟩ := finish_refresh (s := s) (u := countKind b s) rfl (State.modLane_pending _ _ _)
  exact ⟨t, ht, htc⟩

/-- CARD_OUT at a seat whose own card makes it ABSENT (01 R10). -/
theorem cardOut_own_core {d : Binding} {c : CardId} {s : State} {n : Nat} (hn : s.seatAt? d = some n)
    (ht : (s.meeting (s.seatFloor n)).state.takesCards = true) (hc : (s.seat n).delegate.map (·.card) = some c)
    (ha : (s.seat n).presence ≠ .absent) : (cardOut d c s).core = (becomeAbsent n s).core := by
  simp only [cardOut, hn]
  rw [if_neg (by simp [ht]), if_pos (by simp [hc]), if_neg (by simpa using ha)]
  exact cardReport_core _ _ _ _ _ _ _

/-- Any other CARD_OUT changes nothing of the core. -/
theorem cardOut_quiet_core {d : Binding} {c : CardId} {s : State}
    (h : ∀ n, s.seatAt? d = some n → ¬ ((s.meeting (s.seatFloor n)).state.takesCards = true ∧
      (s.seat n).delegate.map (·.card) = some c ∧ (s.seat n).presence ≠ .absent)) :
    (cardOut d c s).core = s.core := by
  unfold cardOut
  split
  · exact cardReport_core _ _ _ _ _ _ _
  · next n hn =>
    split
    · exact cardReport_core _ _ _ _ _ _ _
    · next ht =>
      split
      · next hc =>
        split
        · exact cardReport_core _ _ _ _ _ _ _
        · next ha => exact absurd ⟨by simpa using ht, by simpa using hc, by simpa using ha⟩ (h n hn)
      · exact cardReport_core _ _ _ _ _ _ _

/-- CARD_OUT: the own card of a PRESENT seat of a running meeting makes it ABSENT; any other changes nothing of the core
(01 R10). -/
theorem cardOut_spec (b : Branch) (p : Nat) (c : CardId) (s : State) (hb : (s.br b).state.carriesLane = true) :
    ∃ t, exec (.cardOut b p c) s = .next t ∧
    if s.isSeatNode ⟨b, p⟩ = false then
      t.core = (s.modLane b (fun l => { l with counts := { l.counts with kind := min (l.counts.kind + 1) 65535 } })).core
    else match s.seatAt? ⟨b, p⟩ with
      | none => t.core = s.core
      | some n =>
        if (s.meeting (s.seatFloor n)).state.takesCards = true ∧ (s.seat n).delegate.map (·.card) = some c ∧
          (s.seat n).presence ≠ .absent then LeavesSeat n s t
        else t.core = s.core := by
  have quiet (h : (cardOut ⟨b, p⟩ c s).core = s.core) :
      ∃ t, finish s (refresh (cardOut ⟨b, p⟩ c s)) = .next t ∧ t.core = s.core := by
    obtain ⟨t, ht, htc, -⟩ := finish_refresh h rfl
    exact ⟨t, ht, htc⟩
  rw [execCardOut_carried b p c s hb]
  split
  · next hseat =>
    rw [stationCardOut, if_neg (by simp [hseat])]
    exact countKind_next b s
  · next hseat =>
    rw [stationCardOut, if_pos (by simpa using hseat)]
    split
    · next hn => exact quiet (cardOut_quiet_core (fun n h => absurd (hn.symm.trans h) (by simp)))
    · next n hn =>
      split
      · next h =>
        obtain ⟨ht, hc, ha⟩ := h
        obtain ⟨t, ht', htc, -⟩ := finish_refresh (s := s) (cardOut_own_core hn ht hc ha)
          ((pending_of_still (becomeAbsent_still ha)).trans (State.modSeat_pending _ _ _))
        exact ⟨t, ht', becomeAbsent_leaves ha htc⟩
      · next h =>
        refine quiet (cardOut_quiet_core (fun m hm => ?_))
        obtain rfl : n = m := Option.some.inj (hn.symm.trans hm)
        exact h

/-- The own card at a running meeting (01 R9, R12). -/
theorem cardIn_own_core {n : Nat} {c : CardId} {s : State} (ht : (s.meeting (s.seatFloor n)).state.takesCards = true)
    (hc : (s.seat n).delegate.map (·.card) = some c) :
    let here := s.modSeat n (fun r => if r.presence = .card then r else { r with presence := .card, cardClear := 0 })
    (cardInSeat n c s).core = (if (s.seat n).presence = .absent ∧ (s.seat n).role ≠ .none then
        here.modMeeting (s.seatFloor n) (fun m => { m with
          checkedIn := if n ∈ m.checkedIn then m.checkedIn else m.checkedIn ++ [n]
          state := if m.state = .checkIn then .inSession else m.state })
      else here).core := by
  have hrun : s.runs (s.seatFloor n) = true := (takesCards_eq_runs _).symm.trans ht
  have hwrite : SeatRec.withPresence .card =
      fun r => if r.presence = .card then r else { r with presence := .card, cardClear := 0 } := by
    funext r
    simp [SeatRec.withPresence]
  have hmeet : Meeting.checkIn n = fun m => { m with
      checkedIn := if n ∈ m.checkedIn then m.checkedIn else m.checkedIn ++ [n]
      state := if m.state = .checkIn then .inSession else m.state } := by
    funext m
    simp [Meeting.checkIn]
  dsimp only
  rw [cardInSeat_own_core ht hc, becomePresent_core n .card s hrun, hwrite, hmeet]

/-- The seat is PRESENT by CARD after its own card. -/
theorem presence_of_own_card {n : Nat} {s t : State} (hn : n ∈ allSeats) (hl : s.seats.length = 48)
    (h : t.core = (becomePresent n .card s).core) (hr : s.runs (s.seatFloor n) = true) :
    (t.seat n).presence = .card := by
  obtain ⟨h1, h2⟩ := List.mem_range'_1.mp hn
  have hwritten : ((s.modSeat n (SeatRec.withPresence .card)).seat n).presence = .card := by
    rw [State.seat_modSeat_same h1 (by omega)]
    unfold SeatRec.withPresence
    split
    · next h => simpa using h
    · rfl
  rw [becomePresent_core n .card s hr] at h
  rw [seat_of_core h]
  split
  · rw [State.seat_modMeeting]
    exact hwritten
  · exact hwritten

/-- The seat whose card was shown stands on the nameplate of a station that can be reached (08 R153). -/
theorem cardIn_shows_seat {n m : Nat} {d : Binding} {c : CardId} {s t : State} (ha : s.pwr.state = .active)
    (hbind : (s.seat n).binding = some d) (hlink : s.linkOf (some d) ≠ .lost) (h1 : 1 ≤ n)
    (hn : n ≤ (restPower s).sd.plates.length) (ht : (s.meeting (s.seatFloor n)).state.takesCards = true)
    (hc : (s.seat n).delegate.map (·.card) ≠ some c) (hm : s.cardHolder (s.seatFloor n) n c = some m)
    (htsd : t.sd = (refresh (cardInSeat n c (restPower s))).sd) : (t.plate n).wrongSeat = (some m, 0) := by
  obtain ⟨hshown, hlen⟩ := cardInSeat_wrongSeat (s := restPower s) ht hc hm h1 hn
  have hcore := cardInSeat_other_core (s := restPower s) hc
  have hact : (cardInSeat n c (restPower s)).pwr.state = .active := by
    rw [power_of_core hcore]
    exact ha
  have hreach : (cardInSeat n c (restPower s)).reachable ((cardInSeat n c (restPower s)).seat n).binding = true := by
    rw [reachable_of_core hcore, seat_of_core hcore]
    show (s.linkOf (s.seat n).binding != .lost) = true
    rw [hbind]
    simpa using hlink
  rw [plate_of_plates (congrArg Director.plates htsd), refresh_wrongSeat hact hreach h1 (by rwa [hlen]), hshown]

/-- A card at the station of a bound seat while the room is ACTIVE (01 R9). -/
theorem execCardIn_active {b : Branch} {p : Nat} {c : CardId} {s : State} {n : Nat}
    (hb : (s.br b).state.carriesLane = true) (hseat : s.isSeatNode ⟨b, p⟩ = true) (hn : s.seatAt? ⟨b, p⟩ = some n)
    (ha : s.pwr.state = .active) :
    exec (.cardIn b p c) s = finish s (refresh (cardInSeat n c (restPower s))) := by
  have hrest : (restPower s).seatAt? ⟨b, p⟩ = some n := hn
  rw [execCardIn_carried b p c s hb]
  simp only [stationCardIn, deliverCard, cardIn, hseat, ha, hrest, beq_self_eq_true, if_true]

/-- CARD_IN (01 R9). -/
theorem cardIn_spec (b : Branch) (p : Nat) (c : CardId) (s : State) (hb : (s.br b).state.carriesLane = true) :
    ∃ t, exec (.cardIn b p c) s = .next t ∧
    if s.isSeatNode ⟨b, p⟩ = false then
      t.core = (s.modLane b (fun l => { l with counts := { l.counts with kind := min (l.counts.kind + 1) 65535 } })).core
    else match s.seatAt? ⟨b, p⟩ with
      | none => t.core = (if s.pwr.state = .active then restPower s else s).core
      | some n =>
        let f := s.seatFloor n
        if s.pwr.state ≠ .active then exec (.cardToPower b p c) s = .next t
        else if (s.meeting f).state.takesCards = false then t.core = (restPower s).core
        else if (s.seat n).delegate.map (·.card) = some c then
          (TablesWhole s → (t.seat n).presence = .card) ∧
          let here := (restPower s).modSeat n (fun r =>
            if r.presence = .card then r else { r with presence := .card, cardClear := 0 })
          t.core = (if (s.seat n).presence = .absent ∧ (s.seat n).role ≠ .none then
              here.modMeeting f (fun m => { m with
                checkedIn := if n ∈ m.checkedIn then m.checkedIn else m.checkedIn ++ [n]
                state := if m.state = .checkIn then .inSession else m.state })
            else here).core
        else t.core = (restPower s).core ∧
          ∀ m, (s.floorSeats f).find? (fun m => m != n && ((s.seat m).delegate.map (·.card)) == some c) = some m →
            TablesWhole s → s.linkOf (some ⟨b, p⟩) ≠ .lost → (t.plate n).see = some m ∧ (t.plate n).count = 0 := by
  split
  · next hseat =>
    rw [execCardIn_carried b p c s hb, stationCardIn, if_neg (by simp [hseat])]
    exact countKind_next b s
  · next hseat =>
    have hseat' : s.isSeatNode ⟨b, p⟩ = true := by simpa using hseat
    split
    · next hn =>
      rw [execCardIn_carried b p c s hb, stationCardIn, if_pos hseat']
      obtain ⟨t, ht, htc, -⟩ := finish_refresh (s := s) (deliverCard_unbound_core hn c) (by split <;> rfl)
      exact ⟨t, ht, htc⟩
    · next n hn =>
      dsimp only
      split
      · next ha => exact ⟨_, rfl, execCardIn_toPower b p c s hb hseat' hn ha⟩
      · next ha =>
        have ha' : s.pwr.state = .active := not_not.mp ha
        rw [execCardIn_active hb hseat' hn ha']
        obtain ⟨hmem, hbind⟩ := seatAt_spec hn
        split
        · next ht =>
          obtain ⟨t, ht', htc, -⟩ := finish_refresh (s := s) (cardInSeat_closed_core (s := restPower s) (c := c) ht) rfl
          exact ⟨t, ht', htc⟩
        · next ht =>
          have ht' : (s.meeting (s.seatFloor n)).state.takesCards = true := by simpa using ht
          split
          · next hc =>
            have hcore := cardInSeat_own_core (s := restPower s) ht' hc
            have hrun : (restPower s).runs ((restPower s).seatFloor n) = true := (takesCards_eq_runs _).symm.trans ht'
            obtain ⟨t, hnext, htc, -⟩ := finish_refresh (s := s) hcore (becomePresent_pending n .card _)
            refine ⟨t, hnext, fun htab => presence_of_own_card (s := restPower s) hmem htab.1 htc hrun, ?_⟩
            exact htc.trans (hcore.symm.trans (cardIn_own_core (s := restPower s) ht' hc))
          · next hc =>
            obtain ⟨t, hnext, htc, htsd⟩ := finish_refresh (s := s) (cardInSeat_other_core (s := restPower s) hc) rfl
            refine ⟨t, hnext, htc, fun m hm htab hlink => ?_⟩
            obtain ⟨h1, h2⟩ := List.mem_range'_1.mp hmem
            obtain ⟨-, -, -, -, -, -, -, -, hplates, -⟩ := htab
            have hlen : n ≤ (restPower s).sd.plates.length := by
              show n ≤ s.sd.plates.length
              omega
            have hshown := cardIn_shows_seat (s := s) (t := t) ha' hbind hlink h1 hlen ht' hc hm htsd
            exact ⟨congrArg Prod.fst hshown, congrArg Prod.snd hshown⟩

/-- Settles O35: a card at a station, a card taken away, and the loss of a card flag, each by its own lemma. -/
theorem cardsSetPresence : Obligations.CardsSetPresence :=
  ⟨fun b p c s hb => ⟨cardIn_spec b p c s hb, cardOut_spec b p c s hb⟩, cardFlagLoss_leaves, cardFlagLoss_idle⟩

end Sys2Proof.Machine

namespace Sys2Proof.Machine

/-! ## ROSTER_EDIT (01 R7, R8) -/

theorem closeTurn_still (n : Nat) (c : KeyCause) (o : TurnOutcome) (s : State) :
    (closeTurn n c o s).still = s.still :=
  (grantPass_still _ _).trans ((turnReport_still _ _ _ _).trans (close_still _ _ _ s))

theorem editHold_still (n : Nat) (old new : Role) (s : State) : (editHold n old new s).still = s.still := by
  unfold editHold
  split
  iterate 2
    split
    · exact endEntry_still _ _ _ s
    · rfl
  · split
    · exact dequeue_still _ _ _ s
    · rfl
  all_goals rfl

theorem editAllowance_still (n : Nat) (old : Option Nat) (s : State) : (editAllowance n old s).still = s.still := by
  unfold editAllowance
  split
  · exact closeTurn_still _ _ _ s
  · rfl

theorem editConsequences_still (n : Nat) (old : SeatRec) (role : Role) (s : State) :
    (editConsequences n old role s).still = s.still := by
  unfold editConsequences
  split
  · exact forcedRelease_still _ _ s
  · exact (editAllowance_still _ _ _).trans (editHold_still _ _ _ s)

/-- The hub once the fields of an edit are written. -/
def edited (n : Nat) (role : Role) (d : Option Delegate) (s : State) : State :=
  s.modSeat n (fun r => { r with role := role, delegate := d })

/-- An edit ends with what its consequences make; only a SEAT report may come after. -/
theorem applyEdit_core (n : Nat) (role : Role) (d : Option Delegate) (s : State) :
    (applyEdit n role d s).core = (editConsequences n (s.seat n) role (edited n role d s)).core := by
  unfold applyEdit
  dsimp only
  split
  · rfl
  · exact report_core _ _ _

theorem applyEdit_still (n : Nat) (role : Role) (d : Option Delegate) (s : State) :
    (applyEdit n role d s).still = (edited n role d s).still :=
  (still_of_core (applyEdit_core n role d s)).trans (editConsequences_still _ _ _ _)

/-- A seat that an edit has taken off its lists is not closed by its allowance. -/
theorem editAllowance_of_takenOff {n : Nat} {s u : State} (old : Option Nat) (h : TakenOff n s u) :
    editAllowance n old u = u := by
  have hidle : (u.seat n).floorState = .idle := h.releasedFrom.1.1
  unfold editAllowance
  rw [hidle]
  simp

theorem edited_seatFloor (n : Nat) (role : Role) (d : Option Delegate) (s : State) :
    (edited n role d s).seatFloor n = s.seatFloor n := by
  apply seatFloor_modSeat
  intro r
  rfl

theorem edited_floor (n : Nat) (role : Role) (d : Option Delegate) (s : State) (f : Floor) :
    (edited n role d s).floor f = s.floor f := State.floor_modSeat _ _ _ _

theorem edited_standsOnce {n : Nat} {role : Role} {d : Option Delegate} {s : State} (hp : s.standsOnce n) :
    (edited n role d s).standsOnce n := by
  refine standsOnce_modSeat (fun _ => ?_) (fun _ => ?_) hp <;> rfl

theorem edited_length {n : Nat} {role : Role} {d : Option Delegate} {s : State} (hl : s.seats.length = 48) :
    (edited n role d s).seats.length = 48 := (State.modSeat_seats_length _ _ _).trans hl

section
variable {n : Nat} {role : Role} {d : Option Delegate} {s : State} (hn : n ∈ allSeats) (hl : s.seats.length = 48)
include hn hl

theorem edited_seat : (edited n role d s).seat n = { s.seat n with role := role, delegate := d } := by
  obtain ⟨h1, h2⟩ := List.mem_range'_1.mp hn
  exact State.seat_modSeat_same h1 (by omega) _

/-- What is off its lists once the consequences are taken has been released by the edit. -/
theorem releasedFrom_of_edit {t : State}
    (h : TakenOff n (edited n role d s) (editConsequences n (s.seat n) role (edited n role d s)))
    (ht : t.core = (applyEdit n role d s).core) : releasedFrom s n t := by
  have hseat := edited_seat (role := role) (d := d) hn hl
  refine releasedFrom_congr ?_ ?_ (h.of_core (ht.trans (applyEdit_core n role d s))).releasedFrom
  · rw [hseat]
  · rw [hseat]

/-- A seat whose role becomes NONE is released (02 R43). -/
theorem editConsequences_none (hp : s.standsOnce n) (h2 : (s.floor (s.seatFloor n)).stack.length ≤ 2) :
    TakenOff n (edited n .none d s) (editConsequences n (s.seat n) .none (edited n .none d s)) := by
  have hbar : (edited n .none d s).admission n ≠ none := by
    unfold State.admission
    rw [edited_seat hn hl]
    simp
  refine forcedRelease_takenOff hn (edited_length hl) (edited_standsOnce hp) ?_ (Or.inl hbar) .role
  rwa [edited_seatFloor, edited_floor]

/-- A QUEUED seat that becomes a chair seat leaves the queue (01 R8). -/
theorem editConsequences_queued (hp : s.standsOnce n) (hst : (s.seat n).floorState = .queued)
    (hc : role.isChair = true) :
    TakenOff n (edited n role d s) (editConsequences n (s.seat n) role (edited n role d s)) := by
  have hrole : role ≠ .none := by
    rintro rfl
    cases hc
  have hst' : ((edited n role d s).seat n).floorState = .queued := by rwa [edited_seat hn hl]
  have off := dequeue_takenOff hn (edited_length hl)
    (edited_standsOnce (role := role) (d := d) hp) hst' .release (some .role)
  have hhold : editHold n (s.seat n).role role (edited n role d s) =
      dequeue n .release (some .role) (edited n role d s) := by
    simp only [editHold, hst', hc, if_true]
  unfold editConsequences
  rw [if_neg (by simpa using hrole), hhold, editAllowance_of_takenOff _ off]
  exact off

/-- A holder that loses or exchanges its chair role leaves the stack, where no voice is granted (01 R8). -/
theorem editConsequences_holder (hp : s.standsOnce n) (h2 : (s.floor (s.seatFloor n)).stack.length ≤ 2)
    (hst : (s.seat n).floorState = .priority ∨ (s.seat n).floorState = .priorityWait)
    (hc : (s.seat n).role.isChair = true) (hne : role ≠ (s.seat n).role)
    (hm : (s.floor (s.seatFloor n)).settings.mode ≠ .voice) :
    TakenOff n (edited n role d s) (editConsequences n (s.seat n) role (edited n role d s)) := by
  by_cases hrole : role = .none
  · subst hrole
    exact editConsequences_none hn hl hp h2
  · have hfloor : (edited n role d s).floor ((edited n role d s).seatFloor n) = s.floor (s.seatFloor n) := by
      rw [edited_seatFloor, edited_floor]
    have hst' : ((edited n role d s).seat n).floorState = .priority ∨
        ((edited n role d s).seat n).floorState = .priorityWait := by rwa [edited_seat hn hl]
    have off := endEntry_takenOff hn (edited_length hl) (edited_standsOnce hp) hst' (by rwa [hfloor])
      (Or.inr (by rwa [hfloor])) .role
    have hhold : editHold n (s.seat n).role role (edited n role d s) =
        endEntry n .role ((edited n role d s).seatFloor n) (edited n role d s) := by
      have hc' : ((s.seat n).role.isChair && (s.seat n).role != role) = true := by
        simp [hc, Ne.symm hne]
      unfold editHold
      rcases hst' with h | h <;> simp only [h, hc', if_true]
    unfold editConsequences
    rw [if_neg (by simpa using hrole), hhold, editAllowance_of_takenOff _ off]
    exact off

end

/-- Settles O6: an edit keeps all but what the floor controllers own, and its consequences take the seat off its lists. -/
theorem rosterEditWritesOneSeat : Obligations.RosterEditWritesOneSeat := by
  intro h a s hr
  show ∃ t, finish s (handle h (.rosterEdit h (.fields a)) (.fields a) rosterEdit s) = .next t ∧ _
  have away (c : Code) (hc : rosterEdit a s = refusal c s) :=
    handle_refusal h (.rosterEdit h (.fields a)) a rosterEdit s c hr hc
  split
  · next hrole => exact away .range (by simp only [rosterEdit, hrole])
  · next role hrole =>
    split
    · next hb => exact away .range (by simp only [rosterEdit, hrole, if_pos hb])
    · next hb =>
      split
      · next hs => exact away .state (by simp only [rosterEdit, hrole, if_neg hb, if_pos hs])
      · next hs =>
        split
        · next hk => exact away .locked (by simp only [rosterEdit, hrole, if_neg hb, if_neg hs, if_pos hk])
        · next hk =>
          split
          · next hc =>
            exact away .roster (by simp only [rosterEdit, hrole, if_neg hb, if_neg hs, if_neg hk, if_pos hc])
          · next hc =>
            have hdone : rosterEdit a s = done (applyEdit a.seat role a.record s) := by
              simp only [rosterEdit, hrole, if_neg hb, if_neg hs, if_neg hk, if_neg hc]
            have hstill := applyEdit_still a.seat role a.record s
            obtain ⟨t, ht, hans, hcore⟩ := handle_done h (.rosterEdit h (.fields a)) a rosterEdit s _ hr hdone
              ((pending_of_still hstill).trans (State.modSeat_pending _ _ _))
            refine ⟨t, ht, hans, (still_of_core hcore).trans hstill, fun htab hlist hp => ?_⟩
            have hn : a.seat ∈ allSeats := by
              simp only [editBad, badSeat] at hb
              simp only [allSeats, List.mem_range'_1]
              simp at hb
              omega
            obtain ⟨hl, -⟩ := htab
            obtain ⟨-, -, -, h2⟩ := hlist (s.seatFloor a.seat)
            refine ⟨?_, fun hst hchair => ?_, fun hst hchair hne hm => ?_⟩
            · rintro rfl
              exact releasedFrom_of_edit hn hl (editConsequences_none hn hl hp h2) hcore
            · exact releasedFrom_of_edit hn hl (editConsequences_queued hn hl hp hst hchair) hcore
            · exact releasedFrom_of_edit hn hl (editConsequences_holder hn hl hp h2 hst hchair hne hm) hcore

end Sys2Proof.Machine

namespace Sys2Proof.Machine

/-! ## What taking a binding leaves as it was (01 R3)

A seat that binds or unbinds may be released, its detectors and its channel may be cleared and its path test may end;
the written fields of the seats and the tables stay. -/

/-- A seat record less what the floor controllers own and less its card count. -/
def SeatRec.settled (r : SeatRec) : SeatRec := { r.still with cardClear := 0 }

/-- The waiting commands, the node tables, and the rooms' tables that no seat's release touches. -/
def State.tables (s : State) : List Instr × BranchRec × BranchRec × PartRec × Option Clock × List Booking ×
    List Profile × Power × List (Option (Octet × Octet)) :=
  (s.pending, s.br0, s.br1, s.part, s.clock, s.bookings, s.profiles, s.pwr, s.filter)

/-- The seats keep their written fields and their bindings, and the tables stand. -/
structure KeepsSeats (s t : State) : Prop where
  seat : ∀ n, (t.seat n).settled = (s.seat n).settled
  length : t.seats.length = s.seats.length
  tables : t.tables = s.tables

namespace KeepsSeats

variable {s t u : State}

theorem refl (s : State) : KeepsSeats s s := ⟨fun _ => rfl, rfl, rfl⟩

theorem trans (h : KeepsSeats s t) (k : KeepsSeats t u) : KeepsSeats s u :=
  ⟨fun n => (k.seat n).trans (h.seat n), k.length.trans h.length, k.tables.trans h.tables⟩

theorem ifElse {c : Prop} [Decidable c] (h : KeepsSeats s t) (k : KeepsSeats s u) :
    KeepsSeats s (if c then t else u) := by
  split
  · exact h
  · exact k

theorem of_still (h : t.still = s.still) : KeepsSeats s t where
  seat n := congrArg (fun r : SeatRec => { r with cardClear := 0 }) (seat_still h n)
  length := by simpa only [State.still, List.length_map] using congrArg (·.seats.length) h
  tables := (congrArg State.tables h :)

theorem of_core (h : t.core = s.core) : KeepsSeats s t := of_still (still_of_core h)

theorem of_seats (hs : t.seats = s.seats) (ht : t.tables = s.tables) : KeepsSeats s t :=
  ⟨fun n => congrArg SeatRec.settled (State.seat_of_seats hs n), congrArg List.length hs, ht⟩

end KeepsSeats

/-- The fields of a seat that a SEAT_MAP does not speak of. -/
def SeatRec.unmapped (r : SeatRec) : Role × Option Delegate × Presence × List Nat :=
  (r.role, r.delegate, r.presence, r.presets)

theorem tables_modSeat (n : Nat) (f : SeatRec → SeatRec) (s : State) : (s.modSeat n f).tables = s.tables := by
  cases n <;> rfl

theorem endTestOf_keepsSeats (n : Nat) (s : State) : KeepsSeats s (endTestOf n s) := by
  have cleared : KeepsSeats s { s with test := none } := .of_seats rfl rfl
  have ended : KeepsSeats s (endTest .linkLost s) := by
    unfold endTest
    split
    · exact .refl s
    · exact cleared.trans (.of_core (report_core _ _ _))
  exact ended.ifElse (.refl s)

theorem clearDets_keepsSeats (n : Nat) (s : State) : KeepsSeats s (clearDets n s) := by
  cases n <;> exact .of_seats rfl rfl

theorem loseSeat_keepsSeats (n : Nat) (s : State) : KeepsSeats s (loseSeat n s) := by
  have uncounted (t : State) : KeepsSeats t (t.modSeat n (fun r => { r with cardClear := 0 })) :=
    ⟨fun m => seat_modSeat_keeps SeatRec.settled (by intro r; rfl) n m t, State.modSeat_seats_length n _ t,
      tables_modSeat n _ t⟩
  exact (KeepsSeats.of_still (forcedRelease_still n .linkLost s)).trans ((clearDets_keepsSeats n _).trans
    ((uncounted _).trans (endTestOf_keepsSeats n _)))

theorem freshDets_keepsSeats (n : Nat) (s : State) : KeepsSeats s (freshDets n s) :=
  ((clearDets_keepsSeats n s).trans (.of_still (priorityRelease_still n _))).ifElse (clearDets_keepsSeats n s)

theorem stopChan_keepsSeats (c : Nat) (s : State) : KeepsSeats s (stopChan c s) := by
  have stopped (f : Chan → Chan) : KeepsSeats s (s.modChan c f) := by
    cases c <;> exact .of_seats rfl rfl
  exact ((stopped _).trans (.of_core (reportIf_core _ _ _ _))).ifElse (stopped _)

theorem modSeat_id (n : Nat) (s : State) : s.modSeat n id = s := by
  cases n with
  | zero => rfl
  | succ k => simp only [State.modSeat, List.modify_id]

/-- A seat that takes a binding: beside it, nothing written changes. -/
theorem setSeatBinding_keepsSeats (d : Option Binding) (n : Nat) (s : State) :
    KeepsSeats (s.modSeat n (fun r => { r with binding := d })) (setSeatBinding d n s) := by
  unfold setSeatBinding
  split
  · next h =>
    have hid : s.modSeat n (fun r => { r with binding := d }) = s.modSeat n id :=
      State.modSeat_congr (by rw [← h]; rfl)
    rw [hid, modSeat_id]
    exact .refl s
  · dsimp only
    generalize s.modSeat n (fun r => { r with binding := d }) = u
    have linked : KeepsSeats u (if u.seatLink n == .lost then loseSeat n u else freshDets n (endTestOf n u)) :=
      (loseSeat_keepsSeats n u).ifElse ((endTestOf_keepsSeats n u).trans (freshDets_keepsSeats n _))
    have shown (t : State) : KeepsSeats t (if d.isNone then stopChan n t else owePlate n t) :=
      (stopChan_keepsSeats n t).ifElse (.of_core (owePlate_core n t))
    exact (linked.trans (shown _)).trans (.of_core (report_core _ _ _))

/-! ## Seats that bind through the tables (01 R3) -/

/-- A seat's record with the binding that the tables of `s` give its serial. -/
def SeatRec.boundIn (s : State) (r : SeatRec) : SeatRec := { r.settled with binding := s.placeOf .seat r.serial }

theorem placeOf_of_tables {s t : State} (h : t.tables = s.tables) (k : NodeKind) (x : Option Serial) :
    t.placeOf k x = s.placeOf k x := by
  have h0 : t.br0 = s.br0 := congrArg (fun x => x.2.1) h
  have h1 : t.br1 = s.br1 := congrArg (fun x => x.2.2.1) h
  have hf : t.findNode k = s.findNode k := funext fun y => by simp only [State.findNode, h0, h1]
  exact congrArg x.bind hf

theorem bindSeat_tables (n : Nat) (s : State) : (bindSeat n s).tables = s.tables :=
  (setSeatBinding_keepsSeats _ n s).tables.trans (tables_modSeat n _ s)

theorem bindSeat_length (n : Nat) (s : State) : (bindSeat n s).seats.length = s.seats.length :=
  (setSeatBinding_keepsSeats _ n s).length.trans (State.modSeat_seats_length n _ s)

theorem bindSeat_same (n : Nat) (s : State) : ((bindSeat n s).seat n).settled = (s.seat n).boundIn s := by
  refine ((setSeatBinding_keepsSeats _ n s).seat n).trans ?_
  rcases State.seat_modSeat_cases (n := n) (s := s)
    (fun r => { r with binding := s.placeOf .seat (s.seat n).serial }) with h | ⟨h, hreset⟩
  · rw [h]; rfl
  · rw [h, hreset]; rfl

theorem bindSeat_ne {n m : Nat} (h : m ≠ n) (s : State) : ((bindSeat n s).seat m).settled = (s.seat m).settled := by
  refine ((setSeatBinding_keepsSeats _ n s).seat m).trans ?_
  rw [State.seat_modSeat_ne h]

/-- Binding reads the serial and the tables alone. -/
theorem boundIn_congr {s t : State} {r q : SeatRec} (ht : t.tables = s.tables)
    (h : ({ r with binding := none } : SeatRec).settled = ({ q with binding := none } : SeatRec).settled) :
    r.boundIn t = q.boundIn s := by
  have hx : r.serial = q.serial := (congrArg SeatRec.serial h :)
  unfold SeatRec.boundIn
  rw [placeOf_of_tables ht, hx]
  exact congrArg (fun p : SeatRec => { p with binding := s.placeOf .seat q.serial }) h

/-- Each seat of the list binds, and no other. -/
theorem seat_forAll_bindSeat (l : List Nat) (n : Nat) (s : State) :
    ((forAll l bindSeat s).seat n).settled = if n ∈ l then (s.seat n).boundIn s else (s.seat n).settled := by
  induction l generalizing s with
  | nil => rfl
  | cons m l ih =>
    refine (ih (bindSeat m s)).trans ?_
    by_cases hm : n = m
    · subst hm
      rw [if_pos List.mem_cons_self]
      have hsame := bindSeat_same n s
      split
      · exact boundIn_congr (bindSeat_tables n s) (congrArg (fun p : SeatRec => { p with binding := none }) hsame)
      · exact hsame
    · have hne := bindSeat_ne hm s
      simp only [List.mem_cons, hm, false_or]
      split
      · exact boundIn_congr (bindSeat_tables m s) (congrArg (fun p : SeatRec => { p with binding := none }) hne)
      · exact hne

/-! ## Entries that are written to the seats they name -/

section
variable {α : Type} (g : α → Nat) (k : α → SeatRec → SeatRec)

theorem seat_forAll_modSeat_of_unnamed {l : List α} {n : Nat} (h : ∀ a ∈ l, g a ≠ n) (s : State) :
    (forAll l (fun a => State.modSeat (g a) (k a)) s).seat n = s.seat n := by
  induction l generalizing s with
  | nil => rfl
  | cons a l ih =>
    refine (ih (fun b hb => h b (List.mem_cons_of_mem a hb)) _).trans ?_
    exact State.seat_modSeat_ne (Ne.symm (h a List.mem_cons_self)) _ s

theorem length_forAll_modSeat (l : List α) (s : State) :
    (forAll l (fun a => State.modSeat (g a) (k a)) s).seats.length = s.seats.length :=
  forAll_keeps (·.seats.length) _ (fun a t => State.modSeat_seats_length (g a) (k a) t) l s

theorem tables_forAll_modSeat (l : List α) (s : State) :
    (forAll l (fun a => State.modSeat (g a) (k a)) s).tables = s.tables :=
  forAll_keeps State.tables _ (fun a t => tables_modSeat (g a) (k a) t) l s

/-- When no seat is named twice, each named seat has what its own entry makes of it. -/
theorem seat_forAll_modSeat_of_named {l : List α} {a : α} (hd : (l.map g).Nodup) (ha : a ∈ l) (s : State)
    (h1 : 1 ≤ g a) (hn : g a ≤ s.seats.length) :
    (forAll l (fun a => State.modSeat (g a) (k a)) s).seat (g a) = k a (s.seat (g a)) := by
  induction l generalizing s with
  | nil => cases ha
  | cons b l ih =>
    rw [List.map_cons, List.nodup_cons] at hd
    have hrest : ∀ c ∈ l, g c ≠ g b := fun c hc e => hd.1 (e ▸ List.mem_map_of_mem hc)
    rcases List.mem_cons.mp ha with rfl | ha
    · exact (seat_forAll_modSeat_of_unnamed g k hrest _).trans (State.seat_modSeat_same h1 hn _)
    · refine (ih hd.2 ha _ ?_).trans ?_
      · exact hn.trans_eq (State.modSeat_seats_length _ _ s).symm
      · exact congrArg (k a) (State.seat_modSeat_ne (hrest a ha) _ s)

end

/-! ## SEAT_MAP (01 R4, R5) -/

theorem nodup_of_not_hasRepeat {l : List Nat} (h : hasRepeat l = false) : l.Nodup := by
  induction l with
  | nil => exact List.nodup_nil
  | cons n l ih =>
    simp only [hasRepeat, Bool.or_eq_false_iff, List.contains_eq_mem, decide_eq_false_iff_not] at h
    exact List.nodup_cons.mpr ⟨h.1, ih h.2⟩

/-- An entry that has passed the RANGE check names a seat and a side. -/
theorem seat_and_side_of_good {e : SeatMapEntry} (h : mapEntryBad e = false) :
    (1 ≤ e.seat ∧ e.seat ≤ 48) ∧ some (mapSide e) = floorOfCode e.side := by
  simp only [mapEntryBad, badSeat, Bool.or_eq_false_iff, decide_eq_false_iff_not] at h
  obtain ⟨⟨⟨⟨h0, h48⟩, hside⟩, -⟩, -⟩ := h
  refine ⟨by omega, ?_⟩
  unfold mapSide
  cases hc : floorOfCode e.side with
  | none => simp [hc] at hside
  | some f => rfl

theorem clearStation_core (d : Binding) (s : State) : (clearStation d s).core = s.core := by
  unfold clearStation
  split
  · exact handOn_core _ s
  · rfl

/-- The named seats whose serial the entries change. -/
def movedSeats (es : List SeatMapEntry) (s : State) : List Nat :=
  (es.map (·.seat)).filter (fun n => (s.seat n).serial != ((writeMap es s).seat n).serial)

/-- The hub when the moved seats have bound and their stations are cleared, before the sides are taken. -/
def mapBound (es : List SeatMapEntry) (s : State) : State :=
  forAll ((movedSeats es s).filterMap (fun n => (s.seat n).binding)) clearStation
    (forAll (movedSeats es s) bindSeat (forAll es (fun e => State.modSeat e.seat (SeatRec.writeRest e)) s))

/-- An accepted SEAT_MAP ends when the sides are taken; only SEAT reports come after. -/
theorem applyMap_core (es : List SeatMapEntry) (s : State) :
    (applyMap es s).core = (forAll es (fun e => State.modSeat e.seat (SeatRec.writeSide e)) (mapBound es s)).core :=
  forAll_keeps State.core _ (fun _ t => report_core _ _ t) _ _

theorem mapBound_seat (es : List SeatMapEntry) (s : State) (n : Nat) :
    ((mapBound es s).seat n).settled =
      if n ∈ movedSeats es s
      then ((forAll es (fun e => State.modSeat e.seat (SeatRec.writeRest e)) s).seat n).boundIn s
      else ((forAll es (fun e => State.modSeat e.seat (SeatRec.writeRest e)) s).seat n).settled := by
  have hcore := forAll_keeps State.core clearStation clearStation_core
  refine (congrArg SeatRec.settled (seat_of_core (hcore _ _) n)).trans ((seat_forAll_bindSeat _ n _).trans ?_)
  rw [boundIn_congr (tables_forAll_modSeat _ _ es s) rfl]

theorem mapBound_tables (es : List SeatMapEntry) (s : State) : (mapBound es s).tables = s.tables := by
  have hcore := forAll_keeps State.core clearStation clearStation_core
  exact (KeepsSeats.of_core (hcore _ _)).tables.trans
    ((forAll_keeps State.tables bindSeat bindSeat_tables _ _).trans (tables_forAll_modSeat _ _ es s))

theorem mapBound_length (es : List SeatMapEntry) (s : State) : (mapBound es s).seats.length = s.seats.length := by
  have hcore := forAll_keeps State.core clearStation clearStation_core
  exact (KeepsSeats.of_core (hcore _ _)).length.trans
    ((forAll_keeps (·.seats.length) bindSeat bindSeat_length _ _).trans (length_forAll_modSeat _ _ es s))

theorem applyMap_tables (es : List SeatMapEntry) (s : State) : (applyMap es s).tables = s.tables :=
  (KeepsSeats.of_core (applyMap_core es s)).tables.trans ((tables_forAll_modSeat _ _ es _).trans (mapBound_tables es s))

/-- A seat that no entry names keeps its written fields and its binding. -/
theorem applyMap_seat_unnamed {es : List SeatMapEntry} {n : Nat} (h : ∀ e ∈ es, e.seat ≠ n) (s : State) :
    ((applyMap es s).seat n).settled = (s.seat n).settled := by
  have hstays : n ∉ movedSeats es s := fun hn => by
    obtain ⟨e, he, hen⟩ := List.mem_map.mp (List.mem_of_mem_filter hn)
    exact h e he hen
  rw [seat_of_core (applyMap_core es s), seat_forAll_modSeat_of_unnamed _ _ h, mapBound_seat, if_neg hstays,
    seat_forAll_modSeat_of_unnamed _ _ h]

/-- A seat's record once an accepted SEAT_MAP has taken its entry: it binds when its serial changes. -/
def SeatRec.mapped (s : State) (e : SeatMapEntry) (r : SeatRec) : SeatRec :=
  { (r.writeMap e).settled with
    binding := if r.serial = mapSerial e then r.binding else s.placeOf .seat (mapSerial e) }

theorem applyMap_seat_named {es : List SeatMapEntry} {e : SeatMapEntry} (hd : (es.map (·.seat)).Nodup) (he : e ∈ es)
    {s : State} (h1 : 1 ≤ e.seat) (hn : e.seat ≤ s.seats.length) :
    ((applyMap es s).seat e.seat).settled = (s.seat e.seat).mapped s e := by
  have written (k : SeatMapEntry → SeatRec → SeatRec) {t : State} (ht : t.seats.length = s.seats.length) :
      (forAll es (fun e => State.modSeat e.seat (k e)) t).seat e.seat = k e (t.seat e.seat) :=
    seat_forAll_modSeat_of_named (·.seat) k hd he t h1 (hn.trans_eq ht.symm)
  have hserial : ((writeMap es s).seat e.seat).serial = mapSerial e :=
    congrArg SeatRec.serial (written SeatRec.writeMap rfl)
  have hmoved : e.seat ∈ movedSeats es s ↔ ¬ (s.seat e.seat).serial = mapSerial e := by
    have hname : e.seat ∈ es.map (·.seat) := List.mem_map_of_mem he
    simp only [movedSeats, List.mem_filter, hname, hserial, bne_iff_ne, ne_eq, true_and]
  have hside (r : SeatRec) : (r.writeSide e).settled = { r.settled with side := mapSide e } := rfl
  rw [seat_of_core (applyMap_core es s), written SeatRec.writeSide (mapBound_length es s), hside, mapBound_seat,
    written SeatRec.writeRest rfl]
  unfold SeatRec.mapped
  by_cases h : (s.seat e.seat).serial = mapSerial e
  · rw [if_neg (fun hm => hmoved.mp hm h), if_pos h]
    rfl
  · rw [if_pos (hmoved.mpr h), if_neg h]
    rfl

/-- Settles O4: the seats that are named and those that are not are told apart once; the tables are in neither. -/
theorem seatMapWritesTheNamedSeats : Obligations.SeatMapWritesTheNamedSeats := by
  intro h es s hr hw
  show ∃ t, finish s (handle h (.seatMap h (.fields es)) (.fields es) seatMap s) = .next t ∧ _
  have away (c : Code) (hc : seatMap es s = refusal c s) := handle_refusal h (.seatMap h (.fields es)) es seatMap s c hr hc
  split
  · next hb => exact away .range (if_pos hb)
  · next hb =>
    split
    · next hl => exact away .locked ((if_neg hb).trans (if_pos hl))
    · next hl =>
      split
      · next hdup => exact away .duplicate ((if_neg hb).trans ((if_neg hl).trans (if_pos hdup)))
      · next hdup =>
        have hdone : seatMap es s = done (applyMap es s) := (if_neg hb).trans ((if_neg hl).trans (if_neg hdup))
        obtain ⟨u, hu, hans, huc⟩ := handle_done h (.seatMap h (.fields es)) es seatMap s _ hr hdone
          (congrArg (·.1) (applyMap_tables es s) :)
        have tables : u.tables = s.tables := (congrArg State.tables huc :).trans (applyMap_tables es s)
        simp only [State.mapDuplicate, Bool.or_eq_true, not_or, Bool.not_eq_true, List.any_eq_true, not_exists,
          not_and] at hb hdup
        have named (e : SeatMapEntry) (he : e ∈ es) :
            (u.seat e.seat).settled = (s.seat e.seat).mapped s e ∧ some (mapSide e) = floorOfCode e.side := by
          obtain ⟨⟨h1, h48⟩, hside⟩ := seat_and_side_of_good (hb.2 e he)
          exact ⟨(congrArg SeatRec.settled (seat_of_core huc e.seat)).trans
            (applyMap_seat_named (nodup_of_not_hasRepeat hdup.1) he h1 (h48.trans_eq hw.1.symm)), hside⟩
        have unnamed (n : Nat) (hn : ∀ e ∈ es, e.seat ≠ n) : (u.seat n).settled = (s.seat n).settled :=
          (congrArg SeatRec.settled (seat_of_core huc n)).trans (applyMap_seat_unnamed hn s)
        refine ⟨u, hu, hans, fun e he => ?_, fun n hn => ?_, fun n => ?_, ?_⟩
        · obtain ⟨hu, hside⟩ := named e he
          exact ⟨(congrArg SeatRec.serial hu :), (congrArg (some ·.side) hu :).trans hside, (congrArg SeatRec.trim hu :),
            (congrArg SeatRec.neighbours hu :), (congrArg SeatRec.binding hu :)⟩
        · have hu := unnamed n hn
          exact ⟨(congrArg SeatRec.serial hu :), (congrArg SeatRec.side hu :), (congrArg SeatRec.trim hu :),
            (congrArg SeatRec.neighbours hu :), (congrArg SeatRec.binding hu :)⟩
        · have kept : (u.seat n).unmapped = (s.seat n).unmapped := by
            by_cases hn : ∃ e ∈ es, e.seat = n
            · obtain ⟨e, he, rfl⟩ := hn
              exact (congrArg SeatRec.unmapped (named e he).1 :)
            · exact (congrArg SeatRec.unmapped (unnamed n fun e he hen => hn ⟨e, he, hen⟩) :)
          simpa only [SeatRec.unmapped, Prod.mk.injEq] using kept
        · simp only [State.tables, Prod.mk.injEq] at tables
          exact tables.2

end Sys2Proof.Machine

namespace Sys2Proof.Machine

/-! ## The ledger: what the laws about floors and settings read

The laws of 02 R17 to R19, 03 R46 to R55 and of the settings' ranges read of a seat its side, role and floor state, of a
floor its settings, its lists and its meeting state, and beside these the partition and the profiles. An operation that
leaves these as they were keeps every such law. -/

def SeatRec.ledger (r : SeatRec) : Floor × Role × FloorState := (r.side, r.role, r.floorState)

def FloorRec.ledger (r : FloorRec) : FloorRec := { r with meeting := { Reset.meeting with state := r.meeting.state } }

def State.ledger (s : State) : List (Floor × Role × FloorState) × FloorRec × FloorRec × Partition × List Profile :=
  (s.seats.map SeatRec.ledger, s.floorA.ledger, s.floorB.ledger, s.part.partition, s.profiles)

theorem ledger_of_core {s t : State} (h : t.core = s.core) : t.ledger = s.ledger := (congrArg State.ledger h :)

/-- The fields that the ledger is made of. -/
theorem ledger_of_fields {s t : State} (hs : t.seats = s.seats) (hA : t.floorA = s.floorA) (hB : t.floorB = s.floorB)
    (hp : t.part = s.part) (hf : t.profiles = s.profiles) : t.ledger = s.ledger := by
  simp only [State.ledger, hs, hA, hB, hp, hf]

theorem modSeat_ledger (n : Nat) {f : SeatRec → SeatRec} (h : ∀ r, (f r).ledger = r.ledger) (s : State) :
    (s.modSeat n f).ledger = s.ledger := by
  cases n with
  | zero => rfl
  | succ k => simp only [State.ledger, State.modSeat, map_modify_of_keeps _ f h]

/-- A change of a meeting record that keeps the meeting state. -/
theorem modMeeting_ledger (f : Floor) {g : Meeting → Meeting} (h : ∀ m, (g m).state = m.state) (s : State) :
    (s.modMeeting f g).ledger = s.ledger := by
  cases f <;> simp only [State.ledger, State.modMeeting, State.modFloor, FloorRec.ledger, h]

@[simp] theorem modBr_ledger (b : Branch) (f : BranchRec → BranchRec) (s : State) : (s.modBr b f).ledger = s.ledger := by
  simp [State.ledger]

@[simp] theorem modEntry_ledger (d : Binding) (f : NodeEntry → NodeEntry) (s : State) :
    (s.modEntry d f).ledger = s.ledger := modBr_ledger _ _ s

@[simp] theorem modLane_ledger (b : Branch) (f : Lane → Lane) (s : State) : (s.modLane b f).ledger = s.ledger := by
  simp [State.ledger]

@[simp] theorem modChan_ledger (c : Nat) (f : Chan → Chan) (s : State) : (s.modChan c f).ledger = s.ledger := by
  simp [State.ledger]

@[simp] theorem modDets_ledger (n : Nat) (f : SeatDets → SeatDets) (s : State) : (s.modDets n f).ledger = s.ledger := by
  simp [State.ledger]

@[simp] theorem modScreen_ledger (k : Nat) (f : ScreenRec → ScreenRec) (s : State) :
    (s.modScreen k f).ledger = s.ledger := by
  simp [State.ledger]

@[simp] theorem modCamera_ledger (k : Nat) (f : CameraRec → CameraRec) (s : State) :
    (s.modCamera k f).ledger = s.ledger := by
  simp [State.ledger]

@[simp] theorem modPlate_ledger (n : Nat) (f : Plate → Plate) (s : State) : (s.modPlate n f).ledger = s.ledger := by
  simp [State.ledger]

@[simp] theorem modBooking_ledger (id : Nat) (f : Booking → Booking) (s : State) :
    (s.modBooking id f).ledger = s.ledger := by
  simp [State.ledger]

@[simp] theorem modLine_ledger (l : Nat) (f : LineRec → LineRec) (s : State) : (s.modLine l f).ledger = s.ledger := by
  have hs : (s.modLine l f).seats = s.seats := by
    unfold State.modLine
    split
    · rfl
    · split <;> rfl
  exact ledger_of_fields hs (by simp) (by simp) (by simp) (by simp)

@[simp] theorem report_ledger (k : ReportKind) (body : List Octet) (s : State) :
    (report k body s).ledger = s.ledger := ledger_of_core (report_core k body s)

@[simp] theorem reportIf_ledger (c : Bool) (k : ReportKind) (body : List Octet) (s : State) :
    (reportIf c k body s).ledger = s.ledger := ledger_of_core (reportIf_core c k body s)

@[simp] theorem answer_ledger (h : Head) (c : Code) (data : List Octet) (s : State) :
    (answer h c data s).ledger = s.ledger := ledger_of_core (answer_core h c data s)

@[simp] theorem handOn_ledger (d : Directive) (s : State) : (handOn d s).ledger = s.ledger :=
  ledger_of_core (handOn_core d s)

@[simp] theorem refresh_ledger (s : State) : (refresh s).ledger = s.ledger := ledger_of_core (refresh_core s)

@[simp] theorem deliver_ledger (s : State) : (deliver s).ledger = s.ledger := ledger_of_core (deliver_core s)

/-! ## What states of one ledger share -/

section
variable {s t : State} (h : t.ledger = s.ledger)
include h

theorem floor_ledger (f : Floor) : (t.floor f).ledger = (s.floor f).ledger := by
  cases f
  · exact congrArg (fun x => x.2.1) h
  · exact congrArg (fun x => x.2.2.1) h

theorem seat_ledger (n : Nat) : (t.seat n).ledger = (s.seat n).ledger := by
  have hs : t.seats.map SeatRec.ledger = s.seats.map SeatRec.ledger := congrArg (·.1) h
  cases n with
  | zero => rfl
  | succ k =>
    have hk := congrArg (·.getD k (Reset.seat .A).ledger) hs
    rwa [List.getD_map, List.getD_map] at hk

theorem meetingState_of_ledger (f : Floor) : (t.meeting f).state = (s.meeting f).state :=
  (congrArg (fun r : FloorRec => r.meeting.state) (floor_ledger h f) :)

theorem live_of_ledger (f : Floor) : t.live f = s.live f := congrArg MeetingState.live (meetingState_of_ledger h f)

theorem runs_of_ledger (f : Floor) : t.runs f = s.runs f := congrArg MeetingState.runs (meetingState_of_ledger h f)

theorem anyRuns_of_ledger : t.anyRuns = s.anyRuns := by
  unfold State.anyRuns
  rw [runs_of_ledger h, runs_of_ledger h]

theorem partition_of_ledger : t.part.partition = s.part.partition := congrArg (fun x => x.2.2.2.1) h

theorem profiles_of_ledger : t.profiles = s.profiles := congrArg (fun x => x.2.2.2.2) h

theorem seatFloor_of_ledger (n : Nat) : t.seatFloor n = s.seatFloor n := by
  have hside : (t.seat n).side = (s.seat n).side := (congrArg (·.1) (seat_ledger h n) :)
  unfold State.seatFloor
  rw [partition_of_ledger h, hside]

theorem floorState_of_ledger (n : Nat) : (t.seat n).floorState = (s.seat n).floorState :=
  (congrArg (·.2.2) (seat_ledger h n) :)

theorem role_of_ledger (n : Nat) : (t.seat n).role = (s.seat n).role := (congrArg (·.2.1) (seat_ledger h n) :)

end

/-! ## Operations that keep the ledger -/

/-- `forAll` keeps a law that each of its steps keeps. -/
theorem forAll_preserves {α : Type} {P : State → Prop} {f : α → State → State} {l : List α}
    (hf : ∀ a ∈ l, ∀ s, P s → P (f a s)) {s : State} (hs : P s) : P (forAll l f s) := by
  induction l generalizing s with
  | nil => exact hs
  | cons a l ih =>
    exact ih (fun b hb => hf b (List.mem_cons_of_mem a hb)) (hf a List.mem_cons_self s hs)

/-- A change that is made on a condition keeps a law that both outcomes keep. -/
theorem ite_preserves (P : State → Prop) {c : Prop} [Decidable c] {t u : State} (ht : c → P t) (hu : ¬ c → P u) :
    P (if c then t else u) := by
  split
  · next hc => exact ht hc
  · next hc => exact hu hc

theorem forAll_ledger {α : Type} {f : α → State → State} (hf : ∀ a s, (f a s).ledger = s.ledger) (l : List α)
    (s : State) : (forAll l f s).ledger = s.ledger := forAll_keeps State.ledger f hf l s

/-- A change that is made on a condition. -/
theorem ite_ledger {c : Prop} [Decidable c] {s t u : State} (ht : t.ledger = s.ledger) (hu : u.ledger = s.ledger) :
    (if c then t else u).ledger = s.ledger := by
  split
  · exact ht
  · exact hu

@[simp] theorem endTest_ledger (w : TestEnd) (s : State) : (endTest w s).ledger = s.ledger := by
  unfold endTest
  split
  · rfl
  · exact report_ledger _ _ _

@[simp] theorem endTestOn_ledger (f : Floor) (s : State) : (endTestOn f s).ledger = s.ledger := by
  unfold endTestOn
  split
  · exact ite_ledger (endTest_ledger _ s) rfl
  · rfl

@[simp] theorem endTestOf_ledger (n : Nat) (s : State) : (endTestOf n s).ledger = s.ledger :=
  ite_ledger (endTest_ledger _ s) rfl

@[simp] theorem stopChan_ledger (c : Nat) (s : State) : (stopChan c s).ledger = s.ledger :=
  ite_ledger ((reportIf_ledger _ _ _ _).trans (modChan_ledger _ _ s)) (modChan_ledger _ _ s)

@[simp] theorem clearDets_ledger (n : Nat) (s : State) : (clearDets n s).ledger = s.ledger := modDets_ledger _ _ s

@[simp] theorem owePlate_ledger (n : Nat) (s : State) : (owePlate n s).ledger = s.ledger := rfl

@[simp] theorem countError_ledger (b : Branch) (k : ErrorKind) (s : State) : (countError b k s).ledger = s.ledger :=
  modBr_ledger _ _ s

@[simp] theorem setLineBinding_ledger (d : Option Binding) (l : Nat) (s : State) :
    (setLineBinding d l s).ledger = s.ledger :=
  ite_ledger ((stopChan_ledger _ _).trans (modLine_ledger _ _ s)) (modLine_ledger _ _ s)

@[simp] theorem bindLine_ledger (l : Nat) (s : State) : (bindLine l s).ledger = s.ledger := setLineBinding_ledger _ l s

@[simp] theorem bindScreen_ledger (k : Nat) (s : State) : (bindScreen k s).ledger = s.ledger := modScreen_ledger _ _ s

@[simp] theorem bindCamera_ledger (k : Nat) (s : State) : (bindCamera k s).ledger = s.ledger := modCamera_ledger _ _ s

@[simp] theorem stopLane_ledger (b : Branch) (s : State) : (stopLane b s).ledger = s.ledger := rfl

@[simp] theorem dropInsertion_ledger (b : Branch) (s : State) : (dropInsertion b s).ledger = s.ledger := by
  unfold dropInsertion
  split
  · rfl
  · exact (answer_ledger _ _ _ _).trans (modBr_ledger b _ s)

@[simp] theorem chooseWall_ledger (s : State) : (chooseWall s).ledger = s.ledger := rfl

@[simp] theorem hello_ledger (s : State) : (hello s).ledger = s.ledger := by
  unfold hello
  split
  · exact report_ledger _ _ _
  · rfl

@[simp] theorem chooseAddress_ledger (s : State) : (chooseAddress s).ledger = s.ledger :=
  ite_ledger rfl (hello_ledger _)

@[simp] theorem judgeAddress_ledger (b : Branch) (s : State) : (judgeAddress b s).ledger = s.ledger := by
  unfold judgeAddress
  split
  · exact ite_ledger (chooseAddress_ledger _) rfl
  · exact chooseAddress_ledger s

@[simp] theorem branchReport_ledger (b : Branch) (s : State) : (branchReport b s).ledger = s.ledger := report_ledger _ _ s

@[simp] theorem toBeacon_ledger (b : Branch) (s : State) : (toBeacon b s).ledger = s.ledger := by
  unfold toBeacon
  refine ite_ledger ?_ rfl
  dsimp only
  split
  · refine ite_ledger ?_ ?_ <;> simp
  · simp

@[simp] theorem recoverNode_ledger (d : Binding) (s : State) : (recoverNode d s).ledger = s.ledger := by
  unfold recoverNode
  split
  · rfl
  · refine ite_ledger ?_ rfl
    dsimp only
    split <;> simp [nodeReport]

@[simp] theorem powerReport_ledger (p : WakeProgress) (c : Option (PowerCause × Nat)) (x : Option Fate) (s : State) :
    (powerReport p c x s).ledger = s.ledger := report_ledger _ _ s

@[simp] theorem becomeActive_ledger (c : PowerCause) (n : Nat) (s : State) : (becomeActive c n s).ledger = s.ledger :=
  powerReport_ledger _ _ _ _

@[simp] theorem leaveActive_ledger (d : PowerState) (c : PowerCause) (s : State) :
    (leaveActive d c s).ledger = s.ledger :=
  (forAll_ledger stopChan_ledger _ _).trans (powerReport_ledger _ _ _ _)

@[simp] theorem reportLock_ledger (s : State) : (reportLock s).ledger = s.ledger := powerReport_ledger _ _ _ _

@[simp] theorem lockFirst_ledger (s : State) : (lockFirst s).ledger = s.ledger := ite_ledger (reportLock_ledger s) rfl

@[simp] theorem restPower_ledger (s : State) : (restPower s).ledger = s.ledger := rfl

@[simp] theorem cardReport_ledger (n : Nat) (card : CardId) (o : CardOutcome) (r : Option Nat) (c : CardCause) (x : Bool)
    (s : State) : (cardReport n card o r c x s).ledger = s.ledger := reportIf_ledger _ _ _ s

@[simp] theorem bookingReport_ledger (e : BookingEvent) (id : Nat) (f : Option Floor) (x : List Octet) (s : State) :
    (bookingReport e id f x s).ledger = s.ledger := report_ledger _ _ s

@[simp] theorem refreshDue_ledger (f : Floor) (s : State) : (refreshDue f s).ledger = s.ledger := by
  have due (x : Option Nat) : (s.modMeeting f (fun m => { m with due := x })).ledger = s.ledger :=
    modMeeting_ledger f (by intros; rfl) s
  unfold refreshDue
  refine ite_ledger rfl ?_
  dsimp only
  split
  · rw [bookingReport_ledger, due]
  · exact due _

@[simp] theorem refreshDues_ledger (s : State) : (refreshDues s).ledger = s.ledger :=
  (refreshDue_ledger .B _).trans (refreshDue_ledger .A s)

@[simp] theorem zeroAccounts_ledger (f : Floor) (s : State) : (zeroAccounts f s).ledger = s.ledger :=
  forAll_ledger (fun n t => modSeat_ledger n (by intros; rfl) t) _ s

@[simp] theorem releaseBooking_ledger (b : Booking) (o : Outcome) (s : State) :
    (releaseBooking b o s).ledger = s.ledger := (ledger_of_core (completedReport_core _ _ _ _ _ _ _ _)).trans rfl

@[simp] theorem returnBooking_ledger (b : Booking) (f : Option Floor) (s : State) :
    (returnBooking b f s).ledger = s.ledger := (bookingReport_ledger _ _ _ _ _).trans (modBooking_ledger _ _ s)

@[simp] theorem unholdBooking_ledger (b : Booking) (s : State) : (unholdBooking b s).ledger = s.ledger :=
  ite_ledger (returnBooking_ledger _ _ s) rfl

@[simp] theorem holdBooking_ledger (b : Booking) (s : State) : (holdBooking b s).ledger = s.ledger :=
  ite_ledger rfl ((bookingReport_ledger _ _ _ _ _).trans (modBooking_ledger _ _ s))

@[simp] theorem refuse_ledger (n : Nat) (c : KeyCause) (w : Refused) (s : State) : (refuse n c w s).ledger = s.ledger :=
  (report_ledger _ _ _).trans (modSeat_ledger n (by intros; rfl) s)

@[simp] theorem withPresence_ledger (n : Nat) (p : Presence) (s : State) :
    (s.modSeat n (SeatRec.withPresence p)).ledger = s.ledger := by
  refine modSeat_ledger n (fun r => ?_) s
  unfold SeatRec.withPresence
  split <;> rfl

@[simp] theorem noteCheckedIn_ledger (n : Nat) (f : Floor) (s : State) : (noteCheckedIn n f s).ledger = s.ledger := by
  refine modMeeting_ledger f (fun m => ?_) s
  split <;> rfl

/-! ## Laws that the trunk's operations keep

A law that stands while the ledger stands is kept by everything that the trunk and the power manager do, if it is kept by
the two things that they have the floor controllers do: the forced release of 02 R43 and the end of a momentary hold. -/

structure TrunkFrame (P : State → Prop) : Prop where
  quiet : ∀ {s t : State}, t.ledger = s.ledger → P s → P t
  forcedRelease : ∀ (n : Nat) (sub : SubCause) {s : State}, P s → P (forcedRelease n sub s)
  priorityRelease : ∀ (n : Nat) {s : State}, P s → P (priorityRelease n s)

namespace TrunkFrame

variable {P : State → Prop} (h : TrunkFrame P) {s : State}
include h

theorem loseSeat (n : Nat) (hs : P s) : P (loseSeat n s) := by
  refine h.quiet ?_ (h.forcedRelease n .linkLost hs)
  unfold Machine.loseSeat
  rw [endTestOf_ledger, modSeat_ledger n (by intros; rfl), clearDets_ledger]

theorem freshDets (n : Nat) (hs : P s) : P (freshDets n s) := by
  have cleared : P (clearDets n s) := h.quiet (clearDets_ledger n s) hs
  unfold Machine.freshDets
  dsimp only
  split
  · exact h.priorityRelease n cleared
  · exact cleared

theorem setSeatBinding (d : Option Binding) (n : Nat) (hs : P s) : P (setSeatBinding d n s) := by
  unfold Machine.setSeatBinding bindingReport
  refine ite_preserves P (fun _ => hs) (fun _ => ?_)
  have bound : P (s.modSeat n (fun r => { r with binding := d })) := h.quiet (modSeat_ledger n (by intros; rfl) s) hs
  have freed {t : State} (ht : P t) : P (if t.seatLink n == .lost then Machine.loseSeat n t
      else Machine.freshDets n (endTestOf n t)) :=
    ite_preserves P (fun _ => h.loseSeat n ht) (fun _ => h.freshDets n (h.quiet (endTestOf_ledger n t) ht))
  refine h.quiet ((report_ledger _ _ _).trans ?_) (freed bound)
  exact ite_ledger (stopChan_ledger _ _) rfl

theorem bindSeat (n : Nat) (hs : P s) : P (bindSeat n s) := h.setSeatBinding _ n hs

theorem bindAll (b : Branch) (hs : P s) : P (bindAll b s) := by
  have seats : P (forAll allSeats (bindSeatOf b) s) :=
    forAll_preserves (fun n _ t ht => ite_preserves P (fun _ => h.bindSeat n ht) (fun _ => ht)) hs
  unfold Machine.bindAll
  refine h.quiet ?_ seats
  rw [forAll_ledger bindCamera_ledger, forAll_ledger bindScreen_ledger, forAll_ledger bindLine_ledger]

theorem unbindBranch (b : Branch) (hs : P s) : P (unbindBranch b s) := by
  unfold Machine.unbindBranch
  have seats : P (forAll (allSeats.filter (fun n => onBranch b (s.seat n).binding)) (Machine.setSeatBinding none) s) :=
    forAll_preserves (fun n _ _ ht => h.setSeatBinding none n ht) hs
  refine h.quiet ?_ seats
  rw [forAll_ledger (fun k t => modCamera_ledger k _ t), forAll_ledger (fun k t => modScreen_ledger k _ t),
    forAll_ledger (setLineBinding_ledger none)]

theorem emptyTable (b : Branch) (d : BranchState) (r : Option Roll) (hs : P s) : P (emptyTable b d r s) := by
  unfold Machine.emptyTable
  exact h.quiet (chooseWall_ledger _) (h.unbindBranch b (h.quiet (by simp) hs))

theorem startEnumeration (b : Branch) (hs : P s) : P (startEnumeration b s) :=
  h.emptyTable b _ _ (h.quiet (stopLane_ledger b s) hs)

theorem finishEnumeration (b : Branch) (hs : P s) : P (finishEnumeration b s) := by
  unfold Machine.finishEnumeration
  exact h.quiet (chooseWall_ledger _) (h.bindAll b (h.quiet (by simp) hs))

theorem passLoss (d : Binding) (e : NodeEntry) (counted : Bool) (hs : P s) : P (passLoss d e counted s) := by
  have told : P (nodeReport d e .lost s) := h.quiet (reportIf_ledger _ _ _ s) hs
  have passed : P (match (nodeReport d e .lost s).seatAt? d with
      | some n => Machine.loseSeat n (nodeReport d e .lost s)
      | none => nodeReport d e .lost s) := by
    split
    · exact h.loseSeat _ told
    · exact told
  exact h.quiet (modLane_ledger _ _ _)
    (ite_preserves P (fun _ => h.quiet (countError_ledger _ _ _) passed) (fun _ => passed))

theorem loseNode (d : Binding) (counted : Bool) (hs : P s) : P (loseNode d counted s) := by
  unfold Machine.loseNode
  split
  · exact hs
  · exact ite_preserves P (fun _ => hs) (fun _ => h.passLoss d _ counted (h.quiet (modEntry_ledger _ _ s) hs))

theorem takeDown (b : Branch) (hs : P s) : P (takeDown b s) := by
  unfold Machine.takeDown
  exact forAll_preserves (fun e _ t ht => h.passLoss _ e false ht) (h.quiet (by simp) hs)

theorem wakeBranch (b : Branch) (hs : P s) : P (wakeBranch b s) :=
  ite_preserves P (fun _ => h.startEnumeration b hs) (fun _ => hs)

end TrunkFrame

/-! ## Wakes (11 R199 to R201) -/

/-- The hub at READY, before the pending event is applied. -/
def woken (s : State) : State :=
  let t := lockFirst s
  let t := powerReport .enumerated none none { t with pwr := { t.pwr with progress := .enumerated } }
  powerReport .ready s.pwr.cause (some s.fate)
    { t with pwr := { t.pwr with state := .active, progress := .none, start := none, pendingEvent := none,
                                 cause := none, idle := 0, idleRem := 0 } }

theorem ready_eq (s : State) : ready s = applyPending s.pwr.pendingEvent (woken s) := rfl

@[simp] theorem woken_ledger (s : State) : (woken s).ledger = s.ledger := by
  have pwr (t : State) (p : Power) : ({ t with pwr := p } : State).ledger = t.ledger := rfl
  unfold woken
  simp only [powerReport_ledger, pwr, lockFirst_ledger]

/-- A wake has begun: WAKING, with its cause and its pending event (11 R200, R201). -/
def wakeStarted (cause : PowerCause) (seat : Nat) (event : Option WakeEvent) (s : State) : State :=
  let carried := match event with
    | some (.key n k) => some (n, k)
    | some (.card _ _) | none => none
  let s := { s with pwr := { s.pwr with state := .waking, progress := .started, start := some s.now,
                                        pendingEvent := event, carried := carried, cause := some (cause, seat) } }
  let fresh (r : BranchRec) : BranchRec := { r with fullCount := 0, enumEnded := false }
  powerReport .started (some (cause, seat)) none { s with br0 := fresh s.br0, br1 := fresh s.br1 }

theorem beginWaking_eq (c : PowerCause) (n : Nat) (e : Option WakeEvent) (s : State) :
    beginWaking c n e s = wakeCheck (wakeBranch .b1 (wakeBranch .b0 (wakeStarted c n e s))) := rfl

@[simp] theorem wakeStarted_ledger (c : PowerCause) (n : Nat) (e : Option WakeEvent) (s : State) :
    (wakeStarted c n e s).ledger = s.ledger := powerReport_ledger _ _ _ _

/-! The power record is the power manager's own, and the clock, the bookings and the serials are nobody's in the trunk: its
operations write none of them. -/

/-- A reading of the hub that a release of seats and the writing of bindings, branches and the request unit leave. -/
structure TrunkReading {β : Type} (p : State → β) : Prop where
  keeps : ∀ {s t : State}, KeepsSeats s t → p t = p s
  binding : ∀ (n : Nat) (d : Option Binding) (s : State), p (s.modSeat n (fun r => { r with binding := d })) = p s
  line : ∀ (l : Nat) (g : LineRec → LineRec) (s : State), p (s.modLine l g) = p s
  screen : ∀ (k : Nat) (g : ScreenRec → ScreenRec) (s : State), p (s.modScreen k g) = p s
  camera : ∀ (k : Nat) (g : CameraRec → CameraRec) (s : State), p (s.modCamera k g) = p s
  branch : ∀ (b : Branch) (g : BranchRec → BranchRec) (s : State), p (s.modBr b g) = p s
  cru : ∀ (x : Cru) (s : State), p { s with cru := x } = p s
  source : ∀ (x : Option Binding) (s : State), p { s with part := { s.part with source := x } } = p s
  stop : ∀ (b : Branch) (s : State), p (stopLane b s) = p s

namespace TrunkReading

variable {β : Type} {p : State → β} (h : TrunkReading p)
include h

theorem report (k : ReportKind) (body : List Octet) (s : State) : p (report k body s) = p s :=
  h.keeps (.of_core (report_core k body s))

theorem setSeatBinding (d : Option Binding) (n : Nat) (s : State) : p (setSeatBinding d n s) = p s :=
  (h.keeps (setSeatBinding_keepsSeats d n s)).trans (h.binding n d s)

theorem setLineBinding (d : Option Binding) (l : Nat) (s : State) : p (setLineBinding d l s) = p s := by
  unfold Machine.setLineBinding
  dsimp only
  split
  · exact (h.keeps (stopChan_keepsSeats _ _)).trans (h.line l _ s)
  · exact h.line l _ s

theorem unbindBranch (b : Branch) (s : State) : p (unbindBranch b s) = p s := by
  unfold Machine.unbindBranch
  dsimp only
  rw [forAll_keeps p _ (fun k t => h.camera k _ t), forAll_keeps p _ (fun k t => h.screen k _ t),
    forAll_keeps p _ (h.setLineBinding none), forAll_keeps p _ (h.setSeatBinding none)]

theorem chooseAddress (s : State) : p (chooseAddress s) = p s := by
  unfold Machine.chooseAddress hello
  split
  · rfl
  · split
    · exact (h.report _ _ _).trans ((h.cru _ _).trans (h.cru _ s))
    · exact h.cru _ s

theorem dropInsertion (b : Branch) (s : State) : p (dropInsertion b s) = p s := by
  unfold Machine.dropInsertion
  split
  · rfl
  · exact (h.keeps (.of_core (answer_core _ _ _ _))).trans ((h.cru _ _).trans (h.branch b _ s))

theorem emptyTable (b : Branch) (d : BranchState) (r : Option Roll) (s : State) : p (emptyTable b d r s) = p s := by
  unfold Machine.emptyTable branchReport
  refine (h.source _ _).trans ?_
  rw [h.unbindBranch, h.chooseAddress, h.report, h.branch, h.dropInsertion]

theorem wakeBranch (b : Branch) (s : State) : p (wakeBranch b s) = p s := by
  unfold Machine.wakeBranch
  split
  · exact (h.emptyTable b _ _ (stopLane b s)).trans (h.stop b s)
  · rfl

end TrunkReading

theorem pwr_of_still {s t : State} (h : t.still = s.still) : t.pwr = s.pwr := by
  have hp : t.still.pwr = s.still.pwr := by rw [h]
  exact hp

theorem pwr_trunkReading : TrunkReading State.pwr where
  keeps h := congrArg (fun x => x.2.2.2.2.2.2.2.1) h.tables
  binding n _ s := State.modSeat_pwr n _ s
  line := State.modLine_pwr
  screen := State.modScreen_pwr
  camera := State.modCamera_pwr
  branch := State.modBr_pwr
  cru _ _ := rfl
  source _ _ := rfl
  stop _ _ := rfl

namespace TrunkFrame

variable {P : State → Prop} (h : TrunkFrame P) {s : State}
include h

/-- A wake that brings no event with it. -/
theorem beginWaking_of_none (c : PowerCause) (n : Nat) (hs : P s) : P (beginWaking c n none s) := by
  have branches : P (Machine.wakeBranch .b1 (Machine.wakeBranch .b0 (wakeStarted c n none s))) :=
    h.wakeBranch .b1 (h.wakeBranch .b0 (h.quiet (wakeStarted_ledger c n none s) hs))
  rw [beginWaking_eq]
  refine ite_preserves P (fun _ => ?_) (fun _ => branches)
  have none : (Machine.wakeBranch .b1 (Machine.wakeBranch .b0 (wakeStarted c n none s))).pwr.pendingEvent = none := by
    rw [pwr_trunkReading.wakeBranch, pwr_trunkReading.wakeBranch]
    exact congrArg Power.pendingEvent (report_pwr _ _ _)
  rw [ready_eq, none]
  exact h.quiet (woken_ledger _) branches

theorem calendarWake (hs : P s) : P (calendarWake s) := by
  unfold Machine.calendarWake
  split
  · exact h.quiet (restPower_ledger s) hs
  · exact h.quiet (becomeActive_ledger _ _ s) hs
  · exact h.beginWaking_of_none _ _ hs
  · exact hs

end TrunkFrame

/-! The clock, the bookings and the seats' serials are as they were after a wake. -/

def State.plan (s : State) : Option Clock × List Booking × (Nat → Option Serial) :=
  (s.clock, s.bookings, fun n => (s.seat n).serial)

theorem plan_of {s t : State} (hc : t.clock = s.clock) (hb : t.bookings = s.bookings)
    (hs : ∀ n, (t.seat n).serial = (s.seat n).serial) : t.plan = s.plan := by
  unfold State.plan
  rw [hc, hb, funext hs]

theorem plan_of_seats {s t : State} (hc : t.clock = s.clock) (hb : t.bookings = s.bookings) (hs : t.seats = s.seats) :
    t.plan = s.plan := plan_of hc hb (fun n => by rw [State.seat_of_seats hs])

theorem plan_trunkReading : TrunkReading State.plan where
  keeps {s t} h := plan_of (congrArg (fun x => x.2.2.2.2.1) h.tables) (congrArg (fun x => x.2.2.2.2.2.1) h.tables)
    (fun n => (congrArg SeatRec.serial (h.seat n) :))
  binding n _ s := plan_of (State.modSeat_clock n _ s) (State.modSeat_bookings n _ s)
    (fun m => seat_modSeat_keeps SeatRec.serial (by intros; rfl) n m s)
  line l g s := plan_of_seats (State.modLine_clock l g s) (State.modLine_bookings l g s) (State.modLine_seats l g s)
  screen k g s := plan_of_seats (State.modScreen_clock k g s) (State.modScreen_bookings k g s)
    (State.modScreen_seats k g s)
  camera k g s := plan_of_seats (State.modCamera_clock k g s) (State.modCamera_bookings k g s)
    (State.modCamera_seats k g s)
  branch b g s := plan_of_seats (State.modBr_clock b g s) (State.modBr_bookings b g s) (State.modBr_seats b g s)
  cru _ _ := rfl
  source _ _ := rfl
  stop _ _ := rfl

theorem plan_of_core {s t : State} (h : t.core = s.core) : t.plan = s.plan := plan_trunkReading.keeps (.of_core h)

theorem powerReport_plan (x : WakeProgress) (c : Option (PowerCause × Nat)) (y : Option Fate) (s : State) :
    (powerReport x c y s).plan = s.plan := plan_of_core (report_core _ _ s)

theorem woken_plan (s : State) : (woken s).plan = s.plan := by
  have locked : (lockFirst s).plan = s.plan := by
    unfold lockFirst
    split
    · exact powerReport_plan _ _ _ _
    · rfl
  exact (powerReport_plan _ _ _ _).trans ((powerReport_plan _ _ _ _).trans locked)

theorem calendarWake_plan (s : State) : (calendarWake s).plan = s.plan := by
  unfold calendarWake
  split
  · rfl
  · exact powerReport_plan _ _ _ _
  · rw [beginWaking_eq]
    have branches : (wakeBranch .b1 (wakeBranch .b0 (wakeStarted .calendar 0 none s))).plan = s.plan := by
      rw [plan_trunkReading.wakeBranch, plan_trunkReading.wakeBranch]
      exact powerReport_plan _ _ _ _
    have none : (wakeBranch .b1 (wakeBranch .b0 (wakeStarted .calendar 0 none s))).pwr.pendingEvent = none := by
      rw [pwr_trunkReading.wakeBranch, pwr_trunkReading.wakeBranch]
      exact congrArg Power.pendingEvent (report_pwr _ _ _)
    unfold wakeCheck
    split
    · rw [ready_eq, none]
      exact (woken_plan _).trans branches
    · exact branches
  · rfl

/-! ## What the trunk leaves as it was -/

/-- A reading of the hub that the floor controllers' own does not change. -/
theorem TrunkFrame.of_still {P : State → Prop} (quiet : ∀ {s t : State}, t.ledger = s.ledger → P s → P t)
    (still : ∀ {s t : State}, t.still = s.still → P s → P t) : TrunkFrame P where
  quiet := quiet
  forcedRelease n sub s := still (forcedRelease_still n sub s)
  priorityRelease n s := still (priorityRelease_still n s)

theorem meetingState_of_still {s t : State} (h : t.still = s.still) (f : Floor) :
    (t.meeting f).state = (s.meeting f).state :=
  (congrArg (fun r : FloorRec => r.meeting.state) (floor_still h f) :)

theorem meetingState_trunkFrame (f : Floor) (x : MeetingState) : TrunkFrame (fun t => (t.meeting f).state = x) :=
  .of_still (fun h hs => (meetingState_of_ledger h f).trans hs) (fun h hs => (meetingState_of_still h f).trans hs)

/-- The calendar's wake leaves the meeting states as they were. -/
theorem calendarWake_meetingState (f : Floor) (s : State) : ((calendarWake s).meeting f).state = (s.meeting f).state :=
  (meetingState_trunkFrame f _).calendarWake rfl

end Sys2Proof.Machine

namespace Sys2Proof.Machine

/-! ## The start of a meeting (07 R130, R135) -/

theorem floorSeats_of_ledger {s t : State} (h : t.ledger = s.ledger) (f : Floor) : t.floorSeats f = s.floorSeats f := by
  have hf : t.seatFloor = s.seatFloor := funext (seatFloor_of_ledger h)
  unfold State.floorSeats
  rw [hf]

/-- What both starts of a meeting make of a floor: its roster, its accounts, its settings and its meeting record. -/
def opened (f : Floor) (g : Nat → Role × Option Delegate) (k : Nat) (m : Meeting) (s : State) : State :=
  let t := writeRoles (s.floorSeats f) g s
  (loadProfile f (t.profile k) (zeroAccounts f t)).modMeeting f (fun _ => m)

/-- The roster of a walk-in (07 R135). -/
def walkinRole (s : State) (n : Nat) : Role × Option Delegate :=
  (if (s.seat n).serial.isSome then .guest else .none, none)

/-- The meeting record of a walk-in. -/
def walkinMeeting (s : State) : Meeting := { Reset.meeting with state := .walkIn, start := s.clock.map (·.minute) }

theorem writeRoles_keeps {β : Type} (p : State → β) (hseat : ∀ n f t, p (State.modSeat n f t) = p t)
    (hreport : ∀ k body t, p (report k body t) = p t) (l : List Nat) (g : Nat → Role × Option Delegate) (s : State) :
    p (writeRoles l g s) = p s := by
  unfold writeRoles
  dsimp only
  rw [forAll_keeps p rosterReport (fun n t => hreport _ _ t), forAll_keeps p _ (fun n t => hseat n _ t)]

theorem zeroAccounts_keeps {β : Type} (p : State → β) (hseat : ∀ n f t, p (State.modSeat n f t) = p t) (f : Floor)
    (s : State) : p (zeroAccounts f s) = p s := forAll_keeps p _ (fun n t => hseat n _ t) _ s

theorem clock_of_still {s t : State} (h : t.still = s.still) : t.clock = s.clock := by
  have hc : t.still.clock = s.still.clock := by rw [h]
  exact hc

theorem endTestOn_clock (f : Floor) (s : State) : (endTestOn f s).clock = s.clock := by
  have ended (w : TestEnd) : (endTest w s).clock = s.clock := by
    unfold endTest
    split
    · rfl
    · exact report_clock _ _ _
  unfold endTestOn
  split
  · split
    · exact ended _
    · rfl
  · rfl

theorem startWalkin_eq (f : Floor) (s : State) :
    startWalkin f s = refreshDue f (bookingReport .walkIn 0 (some f) []
      (opened f (walkinRole (endTestOn f (restPower s))) 0 (walkinMeeting s) (endTestOn f (restPower s)))) := by
  have clock : (loadProfile f ((writeRoles ((endTestOn f (restPower s)).floorSeats f)
      (walkinRole (endTestOn f (restPower s))) (endTestOn f (restPower s))).profile 0)
      (zeroAccounts f (writeRoles ((endTestOn f (restPower s)).floorSeats f)
      (walkinRole (endTestOn f (restPower s))) (endTestOn f (restPower s))))).clock = s.clock := by
    rw [loadProfile, State.modFloor_clock, zeroAccounts_keeps State.clock (fun n f t => State.modSeat_clock n f t),
      writeRoles_keeps State.clock (fun n f t => State.modSeat_clock n f t) report_clock, endTestOn_clock]
    rfl
  unfold opened walkinMeeting
  rw [← clock]
  rfl

/-- The hub before a booked meeting starts on a floor: the room is awake, the booking runs, no seat of the floor is under
test. -/
def readied (f : Floor) (b : Booking) (s : State) : State :=
  endTestOn f ((if (s.meeting f).state == .vacant then calendarWake s else s).modBooking b.id
    (fun x => { x with state := .active, runtime := some ⟨some s.minute, f⟩ }))

/-- The meeting record of a booked meeting. -/
def bookedMeeting (b : Booking) (now : Nat) : Meeting :=
  { Reset.meeting with state := if b.window = 0 then .inSession else .checkIn, served := some b.id, start := some now }

theorem startBooked_eq (f : Floor) (b : Booking) (s : State) : ∃ x,
    startBooked f b s = bookingReport .started b.id (some f) x
      (opened f (rosterRole b.roster) b.profile (bookedMeeting b s.minute) (readied f b s)) := by
  constructor
  unfold opened readied
  rw [floorSeats_of_ledger (endTestOn_ledger _ _)]
  rfl

theorem writeRoles_floor (l : List Nat) (g : Nat → Role × Option Delegate) (f : Floor) (s : State) :
    (writeRoles l g s).floor f = s.floor f :=
  writeRoles_keeps (·.floor f) (fun n k t => State.floor_modSeat n k f t)
    (fun k body t => floor_of_core (report_core k body t) f) l g s

theorem writeRoles_profile (l : List Nat) (g : Nat → Role × Option Delegate) (k : Nat) (s : State) :
    (writeRoles l g s).profile k = s.profile k :=
  congrArg (·.getD k Reset.profile)
    (writeRoles_keeps State.profiles (fun n f t => State.modSeat_profiles n f t) report_profiles l g s)

theorem zeroAccounts_profile (f : Floor) (k : Nat) (s : State) : (zeroAccounts f s).profile k = s.profile k :=
  congrArg (·.getD k Reset.profile) (profiles_of_ledger (zeroAccounts_ledger f s))

theorem live_of_floor {s t : State} {f : Floor} (h : t.floor f = s.floor f) : t.live f = s.live f :=
  congrArg (fun r : FloorRec => r.meeting.state.live) h

theorem loadProfile_meeting (f : Floor) (p : Profile) (s : State) (e : Floor) :
    (loadProfile f p s).meeting e = s.meeting e := by
  cases f <;> cases e <;> rfl

/-- A seat record less its roster and its account. -/
def SeatRec.unlisted (r : SeatRec) : SeatRec :=
  { r with role := .none, delegate := none, accSeconds := 0, accTurns := 0, accRem := 0 }

theorem seat_of_report (k : ReportKind) (body : List Octet) (s : State) (n : Nat) :
    (report k body s).seat n = s.seat n := seat_of_core (report_core k body s) n

theorem writeRoles_unlisted (l : List Nat) (g : Nat → Role × Option Delegate) (n : Nat) (s : State) :
    ((writeRoles l g s).seat n).unlisted = (s.seat n).unlisted := by
  unfold writeRoles
  dsimp only
  rw [seat_of_core (reports_core _ (f := rosterReport) (fun _ t => report_core _ _ t) _)]
  exact forAll_modSeat_keeps SeatRec.unlisted (by intros; rfl) l n s

theorem zeroAccounts_unlisted (f : Floor) (n : Nat) (s : State) :
    ((zeroAccounts f s).seat n).unlisted = (s.seat n).unlisted :=
  forAll_modSeat_keeps SeatRec.unlisted (by intros; rfl) _ n s

theorem opened_unlisted (f : Floor) (g : Nat → Role × Option Delegate) (k : Nat) (m : Meeting) (n : Nat) (s : State) :
    ((opened f g k m s).seat n).unlisted = (s.seat n).unlisted := by
  unfold opened loadProfile
  dsimp only
  rw [State.seat_modMeeting, State.seat_modFloor, zeroAccounts_unlisted, writeRoles_unlisted]

theorem endTestOn_seat (f : Floor) (n : Nat) (s : State) : (endTestOn f s).seat n = s.seat n := by
  have ended (w : TestEnd) : (endTest w s).seat n = s.seat n := by
    unfold endTest
    split
    · rfl
    · exact seat_of_report _ _ _ n
  unfold endTestOn
  split
  · split
    · exact ended _
    · rfl
  · rfl

theorem refreshDue_seat (f : Floor) (n : Nat) (s : State) : (refreshDue f s).seat n = s.seat n := by
  unfold refreshDue
  dsimp only
  split
  · rfl
  · split
    · exact (seat_of_report _ _ _ n).trans (State.seat_modMeeting _ _ n s)
    · exact State.seat_modMeeting _ _ n s

theorem startWalkin_unlisted (f : Floor) (n : Nat) (s : State) :
    ((startWalkin f s).seat n).unlisted = (s.seat n).unlisted := by
  rw [startWalkin_eq, refreshDue_seat]
  unfold bookingReport
  rw [seat_of_report, opened_unlisted, endTestOn_seat]
  exact congrArg SeatRec.unlisted (State.seat_of_seats rfl n)

theorem opened_meeting (f : Floor) (g : Nat → Role × Option Delegate) (k : Nat) (m : Meeting) (s : State) :
    (opened f g k m s).meeting f = m := State.meeting_modMeeting_same f _ _

theorem startWalkin_meetingState (f : Floor) (s : State) : ((startWalkin f s).meeting f).state = .walkIn := by
  rw [startWalkin_eq, meetingState_of_ledger (refreshDue_ledger _ _), meetingState_of_ledger (bookingReport_ledger _ _ _ _ _),
    opened_meeting]
  rfl

theorem eligible_of_unlisted {s t : State} {n : Nat} (h : (t.seat n).unlisted = (s.seat n).unlisted) :
    t.eligible n = s.eligible n := by
  have hs : (t.seat n).serial = (s.seat n).serial := (congrArg SeatRec.serial h :)
  have hb : (t.seat n).binding = (s.seat n).binding := (congrArg SeatRec.binding h :)
  unfold State.eligible
  rw [hs, hb]

theorem opened_partition (f : Floor) (g : Nat → Role × Option Delegate) (k : Nat) (m : Meeting) (s : State) :
    (opened f g k m s).part = s.part := by
  unfold opened State.modMeeting loadProfile
  dsimp only
  rw [State.modFloor_part, State.modFloor_part, zeroAccounts_keeps State.part (fun n f t => State.modSeat_part n f t),
    writeRoles_keeps State.part (fun n f t => State.modSeat_part n f t) report_part]

theorem startWalkin_seatFloor (f : Floor) (n : Nat) (s : State) : (startWalkin f s).seatFloor n = s.seatFloor n := by
  have hside : ((startWalkin f s).seat n).side = (s.seat n).side := (congrArg SeatRec.side (startWalkin_unlisted f n s) :)
  have hpart : (startWalkin f s).part.partition = s.part.partition := by
    rw [startWalkin_eq, partition_of_ledger (refreshDue_ledger _ _), partition_of_ledger (bookingReport_ledger _ _ _ _ _),
      opened_partition, partition_of_ledger (endTestOn_ledger _ _)]
    rfl
  unfold State.seatFloor
  rw [hside, hpart]

/-! ## Laws that the calendar's operations keep

Beside the trunk's acts these are the acts of the floor controllers on keys, each where the seat stands for it, and what a
meeting's start and end write: rosters, settings and the meeting state, none of them while the floor is LIVE. -/

structure MeetingFrame (P : State → Prop) : Prop extends TrunkFrame P where
  request : ∀ (n : Nat) {s : State}, s.eligible n = true → s.live (s.seatFloor n) = true →
    (s.seat n).floorState = .idle → P s → P (request n s)
  dequeue : ∀ (n : Nat) (c : KeyCause) (sub : Option SubCause) {s : State}, (s.seat n).floorState = .queued → P s →
    P (dequeue n c sub s)
  close : ∀ (n : Nat) (c : KeyCause) (sub : Option SubCause) {s : State}, (s.seat n).floorState = .speaking → P s →
    P (close n c sub s)
  endSuspended : ∀ (n : Nat) (c : KeyCause) (sub : Option SubCause) {s : State}, (s.seat n).floorState = .suspended →
    P s → P (endSuspended n c sub s)
  grantPass : ∀ (f : Floor) {s : State}, P s → P (grantPass f s)
  priorityPress : ∀ (n : Nat) {s : State}, s.eligible n = true → P s → P (priorityPress n s)
  nextPress : ∀ (n : Nat) {s : State}, P s → P (nextPress n s)
  roles : ∀ (f : Floor) (g : Nat → Role × Option Delegate) {s : State}, s.live f = false → P s →
    P (writeRoles (s.floorSeats f) g s)
  profile : ∀ (f : Floor) (k : Nat) {s : State}, s.live f = false → P s → P (loadProfile f (s.profile k) s)
  meeting : ∀ (f : Floor) (m : Meeting) {s : State}, s.live f = false ∨ m.state.live = true → P s →
    P (s.modMeeting f (fun _ => m))
  endMeeting : ∀ (f : Floor) (o : Outcome) {s : State}, P s → P (endMeeting f o s)

namespace MeetingFrame

variable {P : State → Prop} (h : MeetingFrame P) {s : State}
include h

/-- A meeting state is written that is LIVE, or on a floor that was not. -/
theorem modMeeting (f : Floor) (g : Meeting → Meeting) (hl : s.live f = false ∨ (g (s.meeting f)).state.live = true)
    (hs : P s) : P (s.modMeeting f g) := by
  rw [State.modMeeting_congr (g' := fun _ => g (s.meeting f)) rfl]
  exact h.meeting f _ hl hs

theorem opened {f : Floor} (hl : s.live f = false) (g : Nat → Role × Option Delegate) (k : Nat) (m : Meeting) (hs : P s) :
    P (opened f g k m s) := by
  have rostered : P (writeRoles (s.floorSeats f) g s) := h.roles f g hl hs
  have hl' : (zeroAccounts f (writeRoles (s.floorSeats f) g s)).live f = false := by
    rw [live_of_ledger (zeroAccounts_ledger _ _), live_of_floor (writeRoles_floor _ _ f s), hl]
  unfold Machine.opened
  dsimp only
  rw [← zeroAccounts_profile f]
  refine h.meeting f m (Or.inl ?_) (h.profile f k hl' (h.quiet (zeroAccounts_ledger _ _) rostered))
  unfold State.live
  rw [loadProfile_meeting]
  exact hl'

theorem startWalkin {f : Floor} (hl : s.live f = false) (hs : P s) : P (startWalkin f s) := by
  have tested : (endTestOn f (restPower s)).ledger = s.ledger := endTestOn_ledger f (restPower s)
  rw [startWalkin_eq]
  exact h.quiet ((refreshDue_ledger _ _).trans (bookingReport_ledger _ _ _ _ _))
    (h.opened ((live_of_ledger tested f).trans hl) _ 0 _ (h.quiet tested hs))

theorem startBooked {f : Floor} (b : Booking) (hl : s.live f = false) (hs : P s) : P (startBooked f b s) := by
  obtain ⟨x, heq⟩ := startBooked_eq f b s
  have awake : P (if (s.meeting f).state == .vacant then calendarWake s else s) ∧
      (if (s.meeting f).state == .vacant then calendarWake s else s).live f = false := by
    split
    · exact ⟨h.calendarWake hs, (congrArg MeetingState.live (calendarWake_meetingState f s)).trans hl⟩
    · exact ⟨hs, hl⟩
  have ready : (readied f b s).ledger = (if (s.meeting f).state == .vacant then calendarWake s else s).ledger :=
    (endTestOn_ledger f _).trans (modBooking_ledger _ _ _)
  rw [heq]
  exact h.quiet (bookingReport_ledger _ _ _ _ _)
    (h.opened ((live_of_ledger ready f).trans awake.2) _ _ _ (h.quiet ready awake.1))

theorem prepare {f : Floor} (b : Booking) (hl : s.live f = false) (hs : P s) : P (prepare f b s) := by
  unfold Machine.prepare
  refine h.quiet (bookingReport_ledger _ _ _ _ _) (h.meeting f _ (Or.inl ?_)
    (h.quiet (modBooking_ledger _ _ _) (h.calendarWake hs)))
  rw [live_of_ledger (modBooking_ledger _ _ _)]
  exact (congrArg MeetingState.live (calendarWake_meetingState f s)).trans hl

/-! ### Keys and cards -/

theorem micPress (n : Nat) (he : s.eligible n = true) (hs : P s) : P (micPress n s) := by
  unfold Machine.micPress
  dsimp only
  split
  · next hst =>
    split
    · next hl => exact h.request n he hl hst hs
    · next hl =>
      have hl : s.live (s.seatFloor n) = false := by simpa using hl
      split
      · have hu := startWalkin_unlisted (s.seatFloor n) n s
        refine h.request n ((eligible_of_unlisted hu).trans he) ?_ ((congrArg SeatRec.floorState hu :).trans hst)
          (h.startWalkin hl hs)
        rw [startWalkin_seatFloor]
        exact congrArg MeetingState.live (startWalkin_meetingState _ s)
      · exact h.quiet (refuse_ledger _ _ _ s) hs
  · next hst => exact h.dequeue n _ _ hst hs
  · next hst => exact h.grantPass _ (h.close n _ _ hst hs)
  · next hst => exact h.grantPass _ (h.endSuspended n _ _ hst hs)
  · exact hs
  · exact hs

theorem micLong (n : Nat) (hs : P s) : P (micLong n s) :=
  ite_preserves P (fun hst => h.dequeue n _ _ (beq_iff_eq.mp hst) hs) (fun _ => hs)

/-- A RELEASE acts on a momentary hold alone. -/
theorem floorKey_release (n : Nat) (k : Key) (hs : P s) : P (floorKey n k .release s) := by
  cases k
  · exact hs
  · exact h.priorityRelease n hs
  · exact hs

theorem floorKey (n : Nat) (k : Key) (e : KeyEvent) (he : s.eligible n = true) (hs : P s) : P (floorKey n k e s) := by
  unfold Machine.floorKey
  split
  · exact h.micPress n he hs
  · exact h.micLong n hs
  · exact hs
  · exact h.priorityPress n he hs
  · exact h.priorityRelease n hs
  · exact hs
  · exact h.nextPress n hs
  · exact hs
  · exact hs

theorem becomePresent (n : Nat) (p : Presence) (hs : P s) : P (becomePresent n p s) := by
  have present : P (s.modSeat n (SeatRec.withPresence p)) := h.quiet (withPresence_ledger n p s) hs
  have checkedIn (f : Floor) {t : State} (ht : P t) : P (firstCheckIn f t) :=
    ite_preserves P
      (fun _ => h.quiet (bookingReport_ledger _ _ _ _ _) (h.modMeeting f _ (Or.inr rfl) ht)) (fun _ => ht)
  exact ite_preserves P (fun _ => checkedIn _ (h.quiet (noteCheckedIn_ledger n _ _) present)) (fun _ => present)

theorem becomeAbsent (n : Nat) (hs : P s) : P (becomeAbsent n s) :=
  have absent : P (s.modSeat n (SeatRec.withPresence .absent)) := h.quiet (withPresence_ledger n _ s) hs
  ite_preserves P (fun _ => h.forcedRelease n .absent absent) (fun _ => absent)

theorem cardInSeat (n : Nat) (c : CardId) (hs : P s) : P (cardInSeat n c s) := by
  have told (o : CardOutcome) (m : Option Nat) (x : Bool) {t : State} (ht : P t) : P (cardReport n c o m .cardIn x t) :=
    h.quiet (cardReport_ledger _ _ _ _ _ _ t) ht
  unfold Machine.cardInSeat
  refine ite_preserves P (fun _ => told _ _ _ hs) (fun _ =>
    ite_preserves P (fun _ => told _ _ _ (h.becomePresent n .card hs)) (fun _ => ?_))
  split
  · exact told _ _ _ (h.quiet (modPlate_ledger n _ s) hs)
  · exact told _ _ _ hs

theorem cardIn (d : Binding) (c : CardId) (hs : P s) : P (cardIn d c s) := by
  unfold Machine.cardIn
  split
  · exact h.cardInSeat _ c hs
  · exact h.quiet (cardReport_ledger _ _ _ _ _ _ s) hs

theorem cardOut (d : Binding) (c : CardId) (hs : P s) : P (cardOut d c s) := by
  have told (n : Nat) (o : CardOutcome) (x : Bool) {t : State} (ht : P t) : P (cardReport n c o none .cardOut x t) :=
    h.quiet (cardReport_ledger _ _ _ _ _ _ t) ht
  unfold Machine.cardOut
  split
  · exact told _ _ _ hs
  · refine ite_preserves P (fun _ => told _ _ _ hs) (fun _ => ite_preserves P (fun _ => ?_) (fun _ => told _ _ _ hs))
    exact ite_preserves P (fun _ => told _ _ _ hs) (fun _ => told _ _ _ (h.becomeAbsent _ hs))

theorem cardFlagLoss (n : Nat) (hs : P s) : P (cardFlagLoss n s) :=
  h.quiet (cardReport_ledger _ _ _ _ _ _ _) (h.becomeAbsent n hs)

/-! ### Wakes -/

theorem applyPending (e : Option WakeEvent) (hs : P s) : P (applyPending e s) := by
  unfold Machine.applyPending
  split
  · exact hs
  · next n k =>
    refine ite_preserves P (fun he => ?_) (fun _ => hs)
    have pressed : P (Machine.floorKey n k .press s) := h.floorKey n k .press he hs
    exact ite_preserves P (fun _ => pressed) (fun _ => h.floorKey_release n k pressed)
  · exact ite_preserves P (fun _ => h.cardInSeat _ _ hs) (fun _ => h.quiet (cardReport_ledger _ _ _ _ _ _ s) hs)

theorem ready (hs : P s) : P (ready s) := by
  rw [ready_eq]
  exact h.applyPending _ (h.quiet (woken_ledger s) hs)

theorem wakeCheck (hs : P s) : P (wakeCheck s) := ite_preserves P (fun _ => h.ready hs) (fun _ => hs)

theorem beginWaking (c : PowerCause) (n : Nat) (e : Option WakeEvent) (hs : P s) : P (beginWaking c n e s) := by
  rw [beginWaking_eq]
  exact h.wakeCheck (h.wakeBranch .b1 (h.wakeBranch .b0 (h.quiet (wakeStarted_ledger c n e s) hs)))

theorem endEnumeration (b : Branch) (hs : P s) : P (endEnumeration b s) := h.wakeCheck (h.finishEnumeration b hs)

theorem keyToPower (n : Nat) (k : Key) (e : KeyEvent) (he : s.eligible n = true) (hs : P s) :
    P (keyToPower n k e s) := by
  have active : (becomeActive .key n s).eligible n = s.eligible n :=
    eligible_of_unlisted (congrArg SeatRec.unlisted ((seat_of_report _ _ _ n).trans (State.seat_of_seats rfl n)))
  unfold Machine.keyToPower
  refine ite_preserves P (fun _ => hs) (fun _ => ?_)
  split
  · exact hs
  · exact h.floorKey n k e (active.trans he) (h.quiet (becomeActive_ledger _ _ s) hs)
  · exact h.beginWaking _ _ _ hs
  · exact ite_preserves P (fun _ => h.quiet (s := s) rfl hs) (fun _ => hs)

theorem cardToPower (n : Nat) (c : CardId) (hs : P s) : P (cardToPower n c s) := by
  unfold Machine.cardToPower
  refine ite_preserves P (fun _ => hs) (fun _ => ?_)
  split
  · exact hs
  · exact h.cardInSeat n c (h.quiet (becomeActive_ledger _ _ s) hs)
  · exact h.beginWaking _ _ _ hs
  · exact ite_preserves P (fun _ => h.quiet (s := s) rfl hs) (fun _ => hs)

theorem deliverKey (n : Nat) (k : Key) (e : KeyEvent) (he : s.eligible n = true) (hs : P s) :
    P (deliverKey n k e s) := by
  refine ite_preserves P (fun _ => ?_) (fun _ => h.keyToPower n k e he hs)
  split
  · exact h.floorKey n k e he (h.quiet (restPower_ledger s) hs)
  · exact h.floorKey n k e he hs

theorem deliverCard (d : Binding) (c : CardId) (hs : P s) : P (deliverCard d c s) := by
  unfold Machine.deliverCard
  refine ite_preserves P (fun _ => h.cardIn d c (h.quiet (restPower_ledger s) hs)) (fun _ => ?_)
  split
  · exact h.cardToPower _ c hs
  · exact h.cardIn d c hs

theorem wallEvent (hs : P s) : P (wallEvent s) := by
  have wakes (t : State) (ht : P t) : P (if s.pwr.maskWall then t else s) :=
    ite_preserves P (fun _ => ht) (fun _ => hs)
  unfold Machine.wallEvent
  split
  · exact h.quiet (restPower_ledger s) hs
  · exact wakes _ (h.quiet (becomeActive_ledger _ _ s) hs)
  · exact wakes _ (h.beginWaking _ _ _ hs)
  · exact hs

end MeetingFrame

/-! ## The evaluation pass (07 R128) -/

/-- Those to whom a pass passes on what it does keep a law: the screen director leaves the ledger as it is, and the
partition monitor does something only by a change of the partition. -/
structure PassedOn.Respects (p : PassedOn) (P : State → Prop) : Prop where
  shown : ∀ (f : Floor) (s : State), (p.shown f s).ledger = s.ledger
  ended : ∀ {s : State}, P s → P (p.ended s)
  idle : ∀ s : State, (p.ended s).part.partition = s.part.partition → p.ended s = s

theorem insideChange_respects (P : State → Prop) : insideChange.Respects P where
  shown _ _ := rfl
  ended hs := hs
  idle _ _ := rfl

theorem part_of_core {s t : State} (h : t.core = s.core) : t.part = s.part := (congrArg State.part h :)

theorem endMeeting_part (f : Floor) (o : Outcome) (s : State) : (endMeeting f o s).part = s.part := by
  have unseated_part (l : List Nat) (w : State) : (unseated l w).part = w.part := by
    unfold unseated
    rw [forAll_keeps (·.part) _ (fun n t => State.modSeat_part n _ t),
      forAll_keeps (·.part) _ (fun n t => State.modPlate_part n _ t),
      forAll_keeps (·.part) _ (fun n t => State.modSeat_part n _ t)]
  obtain ⟨w, hw, hd⟩ := disbanded_core f o s
  have disbanded : (disbanded f o s).part = s.part := by
    rw [part_of_core hd, unseated_part, part_of_core hw, releaseFloor_part]
  rw [part_of_core (endMeeting_core f o s), State.modMeeting, State.modFloor_part]
  split <;> exact disbanded

theorem endMeeting_meeting (f : Floor) (o : Outcome) (s : State) : (endMeeting f o s).meeting f = Reset.meeting :=
  (endMeeting_frees f o s).1

/-- A floor that prepares a booking is not LIVE. -/
theorem preparingFloor_live {s : State} {id : Nat} {f : Floor} (h : s.preparingFloor id = some f) :
    s.live f = false := by
  have hp := List.find?_some h
  simp only [Bool.and_eq_true, beq_iff_eq] at hp
  exact congrArg MeetingState.live hp.1

namespace MeetingFrame

variable {P : State → Prop} (h : MeetingFrame P) {p : PassedOn} (hp : p.Respects P) {s : State}
include h hp

theorem endInPass (f : Floor) (o : Outcome) (hs : P s) : P (endInPass p f o s) :=
  hp.ended (h.quiet (hp.shown f _) (h.endMeeting f o hs))

theorem judgeOverrun (f : Floor) (b : Booking) (hs : P s) : P (judgeOverrun p f b s) :=
  have noted (d : Nat) : P (s.modMeeting f (fun m => { m with deadline := some d })) :=
    h.quiet (modMeeting_ledger f (by intros; rfl) s) hs
  ite_preserves P (fun _ => h.endInPass hp f .ended (noted _)) (fun _ => noted _)

theorem judgeFloor (f : Floor) (hs : P s) : P (judgeFloor p f s) := by
  have warned (b : Booking) : P (giveWarning f b s) :=
    ite_preserves P (fun _ => h.quiet (modMeeting_ledger f (by intros; rfl) s) hs) (fun _ => hs)
  have overrun (b : Booking) {t : State} (ht : P t) : P (enterOverrun p f b t) :=
    h.judgeOverrun hp f b (h.quiet ((hp.shown f _).trans (bookingReport_ledger _ _ _ _ _))
      (h.modMeeting f _ (Or.inr rfl) ht))
  unfold Machine.judgeFloor
  dsimp only
  split
  · exact hs
  · split
    · exact hs
    · exact hs
    · exact hs
    · exact ite_preserves P (fun _ => h.endInPass hp f .released hs) (fun _ => warned _)
    · exact ite_preserves P (fun _ => overrun _ (warned _)) (fun _ => warned _)
    · exact h.judgeOverrun hp f _ hs

theorem judgePreparing (b : Booking) (hs : P s) : P (judgePreparing p b s) := by
  unfold Machine.judgePreparing
  split
  · exact hs
  · next f hf =>
    have hl : s.live f = false := preparingFloor_live hf
    refine ite_preserves P (fun _ => h.endInPass hp f .missed hs) (fun _ => ite_preserves P (fun _ => ?_) (fun _ =>
      ite_preserves P (fun _ => h.quiet (hp.shown f _) (h.startBooked b hl hs)) (fun _ => hs)))
    exact h.quiet ((hp.shown f _).trans (returnBooking_ledger _ _ _)) (h.meeting f _ (Or.inl hl) hs)

theorem preempt (f : Floor) (b : Booking) (hs : P s) : P (preempt p f b s) := by
  have ended : P (Machine.endInPass p f .preempted s) := h.endInPass hp f .preempted hs
  have shown := hp.shown f (Machine.endMeeting f .preempted s)
  unfold Machine.preempt
  refine ite_preserves P (fun hpart => ?_) (fun _ => ended)
  have same : Machine.endInPass p f .preempted s = p.shown f (Machine.endMeeting f .preempted s) := by
    refine hp.idle _ ((beq_iff_eq.mp hpart).trans ?_)
    rw [partition_of_ledger shown, endMeeting_part]
  have hl : (Machine.endInPass p f .preempted s).live f = false := by
    rw [same, live_of_ledger shown]
    exact congrArg (fun m : Meeting => m.state.live) (endMeeting_meeting f _ s)
  exact h.quiet (hp.shown f _) (h.startBooked b hl ended)

theorem judgeWaiting (b : Booking) (hs : P s) : P (judgeWaiting p b s) := by
  have unheld : P (unholdBooking b s) := h.quiet (unholdBooking_ledger b s) hs
  have held : P (holdBooking b s) := h.quiet (holdBooking_ledger b s) hs
  have released (o : Outcome) : P (releaseBooking b o s) := h.quiet (releaseBooking_ledger b o s) hs
  unfold Machine.judgeWaiting
  refine ite_preserves P (fun _ => released _) (fun _ => ite_preserves P (fun _ => released _) (fun _ =>
    ite_preserves P (fun _ => unheld) (fun _ => ?_)))
  split
  · exact held
  · next f _ =>
    split
    · next hst =>
      have hl : s.live f = false := congrArg MeetingState.live hst
      refine h.quiet (hp.shown f _) (ite_preserves P (fun _ => h.prepare b hl hs) (fun _ => h.startBooked b hl hs))
    · exact ite_preserves P (fun _ => h.quiet (refreshDue_ledger f _) unheld) (fun _ => h.preempt hp f b hs)
    all_goals exact held

theorem judgeBooking (id : Nat) (hs : P s) : P (judgeBooking p id s) := by
  unfold Machine.judgeBooking
  split
  · exact hs
  · split
    · exact h.judgePreparing hp _ hs
    · exact h.judgeWaiting hp _ hs
    · exact h.judgeWaiting hp _ hs

theorem evaluate (hs : P s) : P (evaluate p s) := by
  refine ite_preserves P (fun _ => ?_) (fun _ => h.quiet (refreshDues_ledger s) hs)
  exact h.quiet (refreshDues_ledger _) (forAll_preserves (fun id _ _ ht => h.judgeBooking hp id ht)
    (h.judgeFloor hp .B (h.judgeFloor hp .A hs)))

end MeetingFrame

/-! ### The pass inside a partition change leaves the partition as it is -/

theorem writeRoles_part (l : List Nat) (g : Nat → Role × Option Delegate) (s : State) :
    (writeRoles l g s).part = s.part :=
  writeRoles_keeps State.part (fun n f t => State.modSeat_part n f t) report_part l g s

theorem partition_meetingFrame (x : Partition) : MeetingFrame (fun t => t.part.partition = x) where
  toTrunkFrame := .of_still (fun h hs => (partition_of_ledger h).trans hs)
    (fun h hs => (congrArg PartRec.partition (part_of_still h)).trans hs)
  request n {s} _ _ _ hs := (congrArg PartRec.partition (part_of_still (request_still n s))).trans hs
  dequeue n c sub {s} _ hs := (congrArg PartRec.partition (part_of_still (dequeue_still n c sub s))).trans hs
  close n c sub {s} _ hs := (congrArg PartRec.partition (part_of_still (close_still n c sub s))).trans hs
  endSuspended n c sub {s} _ hs := (congrArg PartRec.partition (part_of_still (endSuspended_still n c sub s))).trans hs
  grantPass f {s} hs := (congrArg PartRec.partition (part_of_still (grantPass_still f s))).trans hs
  priorityPress n {s} _ hs := (congrArg PartRec.partition (part_of_still (priorityPress_still n s))).trans hs
  nextPress n {s} hs := (congrArg PartRec.partition (part_of_still (nextPress_still n s))).trans hs
  roles _ g {s} _ hs := (congrArg PartRec.partition (writeRoles_part _ g s)).trans hs
  profile f _ {s} _ hs := (congrArg PartRec.partition (State.modFloor_part f _ s)).trans hs
  meeting f _ {s} _ hs := (congrArg PartRec.partition (State.modMeeting_part f _ s)).trans hs
  endMeeting f o {s} hs := (congrArg PartRec.partition (endMeeting_part f o s)).trans hs

/-- A PREPARING booking that loses its floor: the floor's meeting record is that of a reset. -/
theorem MeetingFrame.rejudgePreparing {P : State → Prop} (h : MeetingFrame P) (id : Nat) {s : State} (hs : P s) :
    P (rejudgePreparing id s) := by
  unfold Machine.rejudgePreparing
  split
  · next f _ hf =>
    exact ite_preserves P (fun _ => hs) (fun _ => h.quiet (returnBooking_ledger _ _ _)
      (h.meeting f _ (Or.inl (preparingFloor_live hf)) hs))
  · exact hs

theorem changePartition_partition (s : State) : (changePartition s).part.partition = s.part.target := by
  have frame := partition_meetingFrame s.part.target
  unfold changePartition
  dsimp only
  rw [partition_of_ledger (ledger_of_core (showScreens_core _))]
  refine frame.evaluate (insideChange_respects _) ?_
  refine forAll_preserves (P := fun t => t.part.partition = s.part.target) (f := rejudgePreparing)
    (fun id _ _ ht => frame.rejudgePreparing id ht) ?_
  exact partition_of_ledger (report_ledger _ _ _)

end Sys2Proof.Machine

namespace Sys2Proof.Machine

/-! ## More operations that keep the ledger

The lanes, the frames, the screens and cameras, the counters and the clocks. -/

@[simp] theorem pushOut_ledger (b : Branch) (m : OutMsg) (s : State) : (pushOut b m s).ledger = s.ledger :=
  modLane_ledger b _ s

@[simp] theorem placeAnswer_ledger (b : Branch) (m : OutMsg) (s : State) : (placeAnswer b m s).ledger = s.ledger :=
  ledger_of_core (placeAnswer_core b m s)

@[simp] theorem shown_ledger (t : Target) (s : State) : (shown t s).ledger = s.ledger := ledger_of_core (shown_core t s)

@[simp] theorem placeFrom_ledger (b : Branch) (src : Source) (s : State) : (placeFrom b src s).ledger = s.ledger := by
  unfold placeFrom
  split
  · split
    · exact pushOut_ledger b _ s
    · rfl
  · split
    · exact pushOut_ledger b _ _
    · rfl
  · split
    · split
      · exact (shown_ledger _ _).trans (pushOut_ledger b _ _)
      · rfl
    · rfl
  · split
    · exact pushOut_ledger b _ s
    · rfl

@[simp] theorem serve_ledger (b : Branch) (src : Source) (s : State) : (serve b src s).ledger = s.ledger :=
  (modLane_ledger _ _ _).trans (placeFrom_ledger b src s)

@[simp] theorem offerPlace_ledger (b : Branch) (s : State) : (offerPlace b s).ledger = s.ledger := by
  refine ite_ledger ?_ rfl
  split
  · exact serve_ledger b _ s
  · rfl

@[simp] theorem placeWaiting_ledger (b : Branch) (src : Source) (s : State) : (placeWaiting b src s).ledger = s.ledger :=
  ite_ledger (serve_ledger b src s) rfl

@[simp] theorem offerTurn_ledger (b : Branch) (s : State) : (offerTurn b s).ledger = s.ledger := by
  refine ite_ledger ?_ rfl
  split
  · exact modLane_ledger b _ s
  · rfl

@[simp] theorem keepPlace_ledger (d : Binding) (os : List Octet) (u : PlaceUse) (s : State) :
    (keepPlace d os u s).ledger = s.ledger := modLane_ledger d.branch _ s

@[simp] theorem keepRequest_ledger (h : Head) (i : Instr) (s : State) : (keepRequest h i s).ledger = s.ledger :=
  ite_ledger (keepPlace_ledger _ _ _ s) rfl

@[simp] theorem relay_ledger (d : Binding) (os : List Octet) (asked : Option Instr) (s : State) :
    (relay d os asked s).ledger = s.ledger := by
  have keep {t : State} (ht : t.ledger = s.ledger) : (match asked with
      | some i => keepPlace d os (.request i) t
      | none => t).ledger = s.ledger := by
    split
    · exact (keepPlace_ledger _ _ _ t).trans ht
    · exact ht
  unfold relay
  dsimp only
  split
  · exact keep (modLane_ledger _ _ s)
  · exact ite_ledger (keep (pushOut_ledger _ _ s)) (keepPlace_ledger _ _ _ s)

@[simp] theorem countKind_ledger (b : Branch) (s : State) : (countKind b s).ledger = s.ledger := modLane_ledger b _ s

@[simp] theorem messageSent_ledger (b : Branch) (s : State) : (messageSent b s).ledger = s.ledger := by
  unfold messageSent
  split
  · rfl
  · dsimp only
    rw [offerPlace_ledger]
    exact ite_ledger (modLane_ledger b _ s) (modLane_ledger b _ s)

@[simp] theorem sendElement_ledger (b : Branch) (s : State) : (sendElement b s).ledger = s.ledger := by
  unfold sendElement
  split
  · rfl
  · exact ite_ledger (messageSent_ledger b s) (modLane_ledger b _ s)

@[simp] theorem countClip_ledger (c : Nat) (s : State) : (countClip c s).ledger = s.ledger := ite_ledger rfl rfl

@[simp] theorem compute_ledger (b : Branch) (s : State) : (compute b s).ledger = s.ledger :=
  forAll_ledger countClip_ledger _ _

@[simp] theorem sendFrame_ledger (b : Branch) (f : DownFrame) (s : State) : (sendFrame b f s).ledger = s.ledger :=
  modBr_ledger b _ s

@[simp] theorem answerInsertion_ledger (b : Branch) (s : State) : (answerInsertion b s).ledger = s.ledger := by
  unfold answerInsertion
  split
  · rfl
  · exact (answer_ledger _ _ _ _).trans (modBr_ledger b _ s)

@[simp] theorem advanceTest_ledger (b : Branch) (s : State) : (advanceTest b s).ledger = s.ledger := rfl

@[simp] theorem sendRoll_ledger (b : Branch) (s : State) : (sendRoll b s).ledger = s.ledger := modBr_ledger b _ s

@[simp] theorem sendRunning_ledger (b : Branch) (s : State) : (sendRunning b s).ledger = s.ledger := by
  simp [sendRunning]

@[simp] theorem sendBeacon_ledger (b : Branch) (s : State) : (sendBeacon b s).ledger = s.ledger := by
  simp [sendBeacon]

@[simp] theorem sendDown_ledger (b : Branch) (s : State) : (sendDown b s).ledger = s.ledger := by
  unfold sendDown
  split <;> simp

@[simp] theorem takeUsers_ledger (b : Branch) (running : Bool) (f : UpFrame) (e : NodeEntry) (s : State) :
    (takeUsers b running f e s).ledger = s.ledger := by
  have peak (c : Nat) : (if running && s.chanRunning c then
      s.modChan c (fun r => { r with msPeak := max r.msPeak (magnitude e.current) }) else s).ledger = s.ledger :=
    ite_ledger (modChan_ledger _ _ s) rfl
  unfold takeUsers
  split
  · rfl
  · dsimp only
    split
    · exact ite_ledger ((modSeat_ledger _ (by intros; rfl) _).trans (peak _)) (peak _)
    · exact peak _

@[simp] theorem countFull_ledger (b : Branch) (s : State) : (countFull b s).ledger = s.ledger := modBr_ledger b _ s

@[simp] theorem missFrame_ledger (b : Branch) (s : State) : (missFrame b s).ledger = s.ledger := modBr_ledger b _ s

@[simp] theorem nodeReport_ledger (d : Binding) (e : NodeEntry) (l : Link) (s : State) :
    (nodeReport d e l s).ledger = s.ledger := reportIf_ledger _ _ _ s

@[simp] theorem endEntryWindow_ledger (running : Bool) (d : Binding) (s : State) :
    (endEntryWindow running d s).ledger = s.ledger := by
  unfold endEntryWindow
  split
  · rfl
  · exact ite_ledger (modEntry_ledger d _ s) ((nodeReport_ledger _ _ _ _).trans (modEntry_ledger d _ s))

@[simp] theorem endBranchWindow_ledger (b : Branch) (s : State) : (endBranchWindow b s).ledger = s.ledger :=
  forAll_ledger (fun _ t => endEntryWindow_ledger _ _ t) _ s

@[simp] theorem gateReport_ledger (c : Nat) (x : GateCause) (s : State) : (gateReport c x s).ledger = s.ledger :=
  reportIf_ledger _ _ _ s

@[simp] theorem evaluateChan_ledger (c : Nat) (s : State) : (evaluateChan c s).ledger = s.ledger := by
  refine ite_ledger ?_ rfl
  dsimp only
  split <;> simp

@[simp] theorem judgeCamera_ledger (k : Nat) (s : State) : (judgeCamera k s).ledger = s.ledger :=
  ite_ledger (ite_ledger (modCamera_ledger _ _ s) (modCamera_ledger _ _ s)) rfl

@[simp] theorem aim_ledger (k p : Nat) (s : State) : (aim k p s).ledger = s.ledger := handOn_ledger _ s

@[simp] theorem takeShot_ledger (k : Nat) (x : Option Nat) (s : State) : (takeShot k x s).ledger = s.ledger :=
  (aim_ledger _ _ _).trans (modCamera_ledger _ _ s)

@[simp] theorem moveShot_ledger (k : Nat) (s : State) : (moveShot k s).ledger = s.ledger :=
  ite_ledger (takeShot_ledger _ _ s) (ite_ledger (takeShot_ledger _ _ s) (ite_ledger (takeShot_ledger _ _ s) rfl))

@[simp] theorem turnReport_ledger (n : Nat) (o : TurnOutcome) (t : Turn) (s : State) :
    (turnReport n o t s).ledger = s.ledger := report_ledger _ _ s

@[simp] theorem warnTurn_ledger (n : Nat) (s : State) : (warnTurn n s).ledger = s.ledger := by
  unfold warnTurn
  dsimp only
  split
  · rfl
  · exact ite_ledger ((turnReport_ledger _ _ _ _).trans (modSeat_ledger n (by intros; rfl) s)) rfl

@[simp] theorem autoCounter_ledger (b : Branch) (s : State) : (autoCounter b s).ledger = s.ledger :=
  ite_ledger ((modBr_ledger b _ _).trans (report_ledger _ _ s)) rfl

@[simp] theorem showFloor_ledger (f : Floor) (s : State) : (showFloor f s).ledger = s.ledger :=
  ledger_of_core (showFloor_core f s)

@[simp] theorem showScreens_ledger (s : State) : (showScreens s).ledger = s.ledger :=
  ledger_of_core (showScreens_core s)

@[simp] theorem restScreen_ledger (k : Nat) (p : ScreenPower) (s : State) : (restScreen k p s).ledger = s.ledger :=
  ledger_of_core (restScreen_core k p s)

@[simp] theorem restCamera_ledger (k : Nat) (s : State) : (restCamera k s).ledger = s.ledger :=
  ledger_of_core (restCamera_core k s)

@[simp] theorem takeFault_ledger (k : Nat) (x : Bool) (s : State) : (takeFault k x s).ledger = s.ledger := by
  unfold takeFault
  split
  · rfl
  · have fault (d : Binding) := modEntry_ledger d
      (fun e => if e.faultTaken == x then e else { e with fault := x, faultTaken := x }) s
    exact ite_ledger (ite_ledger (fault _) ((restScreen_ledger _ _ _).trans (fault _)))
      (ite_ledger ((modScreen_ledger _ _ _).trans (fault _)) (fault _))

@[simp] theorem wallReport_ledger (o : WallOutcome) (s : State) : (wallReport o s).ledger = s.ledger :=
  report_ledger _ _ s

@[simp] theorem applyLineSet_ledger (a : LineSetArg) (s : State) : (applyLineSet a s).ledger = s.ledger :=
  ite_ledger (modLine_ledger _ _ s) ((bindLine_ledger _ _).trans (modLine_ledger _ _ s))

@[simp] theorem applyScreenSet_ledger (a : ScreenSetArg) (s : State) : (applyScreenSet a s).ledger = s.ledger := by
  have rebind (k : Nat) (t : State) : (rebindScreen k t).ledger = t.ledger :=
    (bindScreen_ledger _ _).trans (restScreen_ledger k .off t)
  exact ite_ledger (modScreen_ledger _ _ s) ((rebind _ _).trans (modScreen_ledger _ _ s))

@[simp] theorem cameraEffects_ledger (k : Nat) (old : CameraRec) (s : State) : (cameraEffects k old s).ledger = s.ledger := by
  have rested : (if s.followed (s.camera k).floor == s.followed old.floor then s else restCamera k s).ledger = s.ledger :=
    ite_ledger rfl (restCamera_ledger k s)
  exact ite_ledger rfl (ite_ledger ((aim_ledger _ _ _).trans rested) rested)

@[simp] theorem applyCameraSet_ledger (a : CameraSetArg) (s : State) : (applyCameraSet a s).ledger = s.ledger := by
  have rebind (k : Nat) (t : State) : (rebindCamera k t).ledger = t.ledger :=
    (bindCamera_ledger _ _).trans (modCamera_ledger k _ t)
  exact ite_ledger ((cameraEffects_ledger _ _ _).trans (modCamera_ledger _ _ s))
    ((rebind _ _).trans (modCamera_ledger _ _ s))

@[simp] theorem writePresets_ledger (k : Nat) (es : List (Nat × Nat)) (s : State) :
    (writePresets k es s).ledger = s.ledger := by
  unfold writePresets
  exact forAll_ledger (fun (e : Nat × Nat) t => modSeat_ledger e.1 (by intros; rfl) t) es s

@[simp] theorem presetEffects_ledger (k : Nat) (old s : State) : (presetEffects k old s).ledger = s.ledger := by
  unfold presetEffects
  dsimp only
  split
  · rfl
  · exact ite_ledger rfl (ite_ledger ((aim_ledger _ _ _).trans (modCamera_ledger _ _ s)) (aim_ledger _ _ s))

@[simp] theorem enterSleep_ledger (s : State) : (enterSleep s).ledger = s.ledger := by
  simp [enterSleep]

@[simp] theorem clearStation_ledger (d : Binding) (s : State) : (clearStation d s).ledger = s.ledger :=
  ite_ledger (handOn_ledger _ s) rfl

/-- What counts milliseconds moves no seat and no floor's lists. -/
@[simp] theorem moveOn_ledger (s : State) : (moveOn s).ledger = s.ledger := by
  have seat (lost : Bool) (r : SeatRec) : (r.tick lost).ledger = r.ledger := by
    have account : r.account.ledger = r.ledger := by
      unfold SeatRec.account
      split
      · rfl
      · split <;> rfl
    exact account
  have floor (r : FloorRec) : r.tick.ledger = r.ledger := by
    have state (n : Nat) (b : Bool) (m : Meeting) : (m.tick n b).state = m.state := by
      unfold Meeting.tick
      split
      · split
        · rfl
        · split <;> rfl
      · rfl
    simp only [FloorRec.ledger, FloorRec.tick, state]
  have part (r : WallReading) (p : PartRec) : (p.tick r).partition = p.partition := by
    unfold PartRec.tick
    split <;> rfl
  simp only [State.ledger, moveOn, List.map_map, Function.comp_def, seat, floor, part]

end Sys2Proof.Machine

namespace Sys2Proof.Machine

/-! ## What a grant pass leaves of a floor state -/

theorem seat_modSeat_or (m : Nat) (k : SeatRec → SeatRec) (n : Nat) (s : State) :
    (s.modSeat m k).seat n = s.seat n ∨ (s.modSeat m k).seat n = k (s.seat n) := by
  by_cases h : n = m
  · subst h
    rcases State.seat_modSeat_cases (n := n) (s := s) k with h | ⟨h, h'⟩
    · exact Or.inr h
    · exact Or.inl (h.trans h'.symm)
  · exact Or.inl (State.seat_modSeat_ne h k s)

/-- A grant makes nobody stop speaking. -/
theorem grant_speaking {n : Nat} (m : Nat) (c : KeyCause) {s : State} (h : (s.seat n).floorState = .speaking) :
    ((grant m c s).seat n).floorState = .speaking := by
  unfold grant becomeSpeaking leaveQueue
  dsimp only
  rw [show ∀ t, keyReport m c none none t = report .key _ t from fun _ => rfl, seat_of_report]
  rcases seat_modSeat_or m _ n _ with hr | hr
  · rw [hr, State.seat_modFloor, State.seat_modFloor, h]
  · exact (congrArg SeatRec.floorState hr :)

theorem grantQueue_speaking {n : Nat} (f : Floor) (c : KeyCause) (k : Nat) {s : State}
    (h : (s.seat n).floorState = .speaking) : ((grantQueue f c k s).seat n).floorState = .speaking := by
  induction k generalizing s with
  | zero => exact h
  | succ k ih =>
    unfold grantQueue
    split
    · split
      · exact ih (grant_speaking _ c h)
      · exact h
    · exact h

theorem grantVoices_speaking {n : Nat} (f : Floor) (k : Nat) {s : State}
    (h : (s.seat n).floorState = .speaking) : ((grantVoices f k s).seat n).floorState = .speaking := by
  induction k generalizing s with
  | zero => exact h
  | succ k ih =>
    unfold grantVoices
    split
    · split
      · exact ih (grant_speaking _ .voice h)
      · exact h
    · exact h

/-- A grant pass makes nobody stop speaking. -/
theorem grantPass_speaking {n : Nat} (f : Floor) {s : State} (h : (s.seat n).floorState = .speaking) :
    ((grantPass f s).seat n).floorState = .speaking := by
  unfold grantPass
  split
  · split
    · split
      · exact grantQueue_speaking f .auto 8 h
      · exact h
    · exact grantVoices_speaking f 8 h
    · exact h
    · exact h
  · exact h

theorem close_seat_ne {n m : Nat} (h : n ≠ m) (c : KeyCause) (sub : Option SubCause) (s : State) :
    (close m c sub s).seat n = s.seat n := by
  unfold close keyReport
  rw [seat_of_report, State.seat_modSeat_ne h, State.seat_modFloor]

/-- The close of another seat and the grant pass make nobody stop speaking. -/
theorem closeTurn_speaking {n m : Nat} (h : n ≠ m) (c : KeyCause) (o : TurnOutcome) {s : State}
    (hs : (s.seat n).floorState = .speaking) : ((closeTurn m c o s).seat n).floorState = .speaking := by
  unfold closeTurn
  refine grantPass_speaking _ ?_
  rw [show ∀ x t, turnReport m o x t = report .turn _ t from fun _ _ => rfl, seat_of_report, close_seat_ne h, hs]

theorem allSeats_nodup : allSeats.Nodup := List.nodup_range'

/-! ## Laws that every step keeps -/

structure StepFrame (P : State → Prop) : Prop extends MeetingFrame P where
  partition : ∀ (x : Partition) {s : State}, s.anyRuns = false → P s →
    P { s with part := { s.part with partition := x } }
  side : ∀ (n : Nat) (x : Floor) {s : State}, (s.meeting (s.seatFloor n)).state = .vacant →
    (s.meeting (s.part.partition.floorOf x)).state = .vacant → P s → P (s.modSeat n (fun r => { r with side := x }))
  floorSet : ∀ (f : Floor) (a : FloorSettingsArg) {s : State}, P s → P (applyFloorSet f a s)
  gateSet : ∀ (f : Floor) (a : GateSettingsArg) {s : State}, P s →
    P (s.modFloor f (fun r => { r with gate := a.write r.gate }))
  mixSet : ∀ (f : Floor) (a : MixSettingsArg) {s : State}, P s →
    P (s.modFloor f (fun r => { r with mix := a.write r.mix }))
  profileSet : ∀ (a : ProfileSetArg) {s : State}, P s →
    P { s with profiles := s.profiles.modify a.profile (Profile.write a) }
  grant : ∀ (f : Floor) (n : Nat) (c : KeyCause) {s : State}, n ∈ (s.floor f).queue → s.slotFree f = true → P s →
    P (grant n c s)
  emptyQueue : ∀ (f : Floor) (c : KeyCause) {s : State}, P s → P (emptyQueue f c s)
  endAllEntries : ∀ (why : EndReason) (f : Floor) {s : State}, P s → P (endAllEntries why f s)
  edit : ∀ (n : Nat) (role : Role) (d : Option Delegate) {s : State}, P s →
    P (editConsequences n (s.seat n) role (s.modSeat n (fun r => { r with role := role, delegate := d })))
  warm : ∀ {s : State}, P s → P (warmState s)
  reset : P State.reset

theorem atOnce_shown : atOnce.shown = showFloor := by
  simp only [atOnce]

theorem atOnce_ended : atOnce.ended = applyTarget := by
  simp only [atOnce]

/-- The partition monitor changes the partition, or does nothing. -/
theorem applyTarget_idle {s : State} (hp : (applyTarget s).part.partition = s.part.partition) : applyTarget s = s := by
  by_cases hc : (!s.anyRuns && s.part.target != s.part.partition) = true
  · have changed : applyTarget s = changePartition s := if_pos hc
    rw [changed, changePartition_partition] at hp
    simp [hp] at hc
  · exact if_neg hc

namespace StepFrame

variable {P : State → Prop} (h : StepFrame P) {s : State}
include h

/-! ### The partition (06 R107 to R110) -/

theorem changePartition (hr : s.anyRuns = false) (hs : P s) : P (changePartition s) := by
  have moved : P (wallReport .changed { s with part := { s.part with partition := s.part.target } }) :=
    h.quiet (wallReport_ledger _ _) (h.partition _ hr hs)
  have rejudged (l : List Nat) : P (forAll l Machine.rejudgePreparing
      (wallReport .changed { s with part := { s.part with partition := s.part.target } })) :=
    forAll_preserves (fun id _ _ ht => h.rejudgePreparing id ht) moved
  exact h.quiet (showScreens_ledger _) (h.evaluate (insideChange_respects P) (rejudged _))

theorem applyTarget (hs : P s) : P (applyTarget s) := by
  refine ite_preserves P (fun hc => h.changePartition ?_ hs) (fun _ => hs)
  simp only [Bool.and_eq_true, Bool.not_eq_true'] at hc
  exact hc.1

theorem setTarget (x : Partition) (c : TargetCause) (hs : P s) : P (setTarget x c s) := by
  have noted : P { s with part := { s.part with target := x, cause := some c } } := h.quiet (s := s) rfl hs
  unfold Machine.setTarget
  refine ite_preserves P (fun _ => hs) (fun _ => ite_preserves P (fun hr => ?_) (fun _ => ?_))
  · exact ite_preserves P (fun _ => noted) (fun _ => h.changePartition (by simpa using hr) noted)
  · exact ite_preserves P (fun _ => h.quiet (wallReport_ledger _ _) noted)
      (fun _ => h.quiet (wallReport_ledger _ _) noted)

theorem atOnce_respects : atOnce.Respects P := by
  refine ⟨fun f s => ?_, fun {s} hs => ?_, fun s hp => ?_⟩
  · rw [atOnce_shown, showFloor_ledger]
  · rw [atOnce_ended]
    exact h.applyTarget hs
  · rw [atOnce_ended] at hp ⊢
    exact applyTarget_idle hp

theorem evaluationPass (hs : P s) : P (evaluationPass s) := h.evaluate h.atOnce_respects hs

theorem endMeetingNow (f : Floor) (o : Outcome) (hs : P s) : P (endMeetingNow f o s) :=
  h.applyTarget (h.quiet (showFloor_ledger f _) (h.evaluationPass (h.endMeeting f o hs)))

/-! ### Voices and turns -/

/-- Speakers are closed, each once. -/
theorem closes (c : KeyCause) {l : List Nat} (hl : l.Nodup) (hst : ∀ n ∈ l, (s.seat n).floorState = .speaking)
    (hs : P s) : P (forAll l (fun n => Machine.close n c none) s) := by
  induction l generalizing s with
  | nil => exact hs
  | cons n l ih =>
    obtain ⟨hn, hl⟩ := List.nodup_cons.mp hl
    refine ih hl (fun m hm => ?_) (h.close n c none (hst n List.mem_cons_self) hs)
    rw [close_seat_ne (ne_of_mem_of_not_mem hm hn)]
    exact hst m (List.mem_cons_of_mem n hm)

theorem releaseVoices (f : Floor) (hs : P s) : P (releaseVoices f s) := by
  refine h.closes .voiceRelease ((allSeats_nodup.filter _).filter _) (fun n hn => ?_) hs
  have hn := (List.mem_filter.mp hn).2
  simp only [Bool.and_eq_true, beq_iff_eq] at hn
  exact hn.1

theorem gateUpdate (f : Floor) (hs : P s) : P (gateUpdate f s) := by
  refine ite_preserves P (fun _ => h.grantPass f (h.releaseVoices f (h.quiet ?_ hs))) (fun _ => hs)
  exact forAll_ledger (fun n t => modSeat_ledger n (by intros; rfl) t) _ s

theorem evaluateVoices (hs : P s) : P (evaluateVoices s) := by
  have evaluated : P (forAll allChans evaluateChan s) := h.quiet (forAll_ledger evaluateChan_ledger _ s) hs
  refine h.quiet (forAll_ledger (fun k t => ?_) _ _) (h.gateUpdate .B (h.gateUpdate .A evaluated))
  rw [moveShot_ledger, judgeCamera_ledger]

theorem closeTurn (n : Nat) (c : KeyCause) (o : TurnOutcome) (hst : (s.seat n).floorState = .speaking) (hs : P s) :
    P (closeTurn n c o s) :=
  h.grantPass _ (h.quiet (turnReport_ledger _ _ _ _) (h.close n c none hst hs))

theorem expireTurn (n : Nat) (hs : P s) : P (expireTurn n s) := by
  have turned (x : Turn) : (s.modSeat n (fun r => { r with turn := some x })).ledger = s.ledger :=
    modSeat_ledger n (by intros; rfl) s
  unfold Machine.expireTurn
  split
  · exact hs
  · next t ht =>
    have hst : (s.seat n).floorState = .speaking := by
      unfold State.runningTurn at ht
      split at ht
      · next hst => exact beq_iff_eq.mp hst
      · cases ht
    refine ite_preserves P (fun _ => hs) (fun _ => ?_)
    split
    · exact h.closeTurn n _ _ ((floorState_of_ledger (turned _) n).trans hst) (h.quiet (turned _) hs)
    · exact ite_preserves P (fun _ => hs) (fun _ => h.quiet ((turnReport_ledger _ _ _ _).trans (turned _)) hs)

theorem judgeTurn (n : Nat) (hs : P s) : P (judgeTurn n s) := by
  have warned : P (if s.warnDue n then warnTurn n s else s) :=
    ite_preserves P (fun _ => h.quiet (warnTurn_ledger n s) hs) (fun _ => hs)
  exact ite_preserves P (fun _ => h.expireTurn n warned) (fun _ => warned)

theorem closeTurns (c : KeyCause) (o : TurnOutcome) {l : List Nat} (hl : l.Nodup)
    (hst : ∀ n ∈ l, (s.seat n).floorState = .speaking) (hs : P s) :
    P (forAll l (fun n => Machine.closeTurn n c o) s) := by
  induction l generalizing s with
  | nil => exact hs
  | cons n l ih =>
    obtain ⟨hn, hl⟩ := List.nodup_cons.mp hl
    refine ih hl (fun m hm => ?_) (h.closeTurn n c o (hst n List.mem_cons_self) hs)
    exact closeTurn_speaking (ne_of_mem_of_not_mem hm hn) c o (hst m (List.mem_cons_of_mem n hm))

theorem tick (hs : P s) : P (tick s) := by
  have moved : P (moveOn s) := h.quiet (moveOn_ledger s) hs
  have spent : P (forAll (allSeats.filter (allowanceReached s (moveOn s)))
      (fun n => Machine.closeTurn n .allowance .allowance) (moveOn s)) := by
    refine h.closeTurns _ _ (allSeats_nodup.filter _) (fun n hn => ?_) moved
    have hn := (List.mem_filter.mp hn).2
    simp only [allowanceReached, Bool.and_eq_true, beq_iff_eq] at hn
    exact (floorState_of_ledger (moveOn_ledger s) n).trans hn.1.1
  have judged : P (judgeTurns s (moveOn s)) := forAll_preserves (fun n _ _ ht => h.judgeTurn n ht) spent
  exact h.quiet (refresh_ledger _) (h.evaluateVoices judged)

theorem accountSecond (n : Nat) (hs : P s) : P (accountSecond n s) := by
  have counted : (s.modSeat n SeatRec.addSecond).ledger = s.ledger := modSeat_ledger n (by intros; rfl) s
  unfold Machine.accountSecond
  split
  · next hst =>
    exact ite_preserves P
      (fun _ => h.closeTurn n _ _ ((floorState_of_ledger counted n).trans hst) (h.quiet counted hs))
      (fun _ => h.quiet counted hs)
  · exact h.quiet counted hs
  all_goals exact hs

/-! ### The seat map (01 R4, R5) -/

theorem sides (es : List SeatMapEntry) (hl : ∀ e ∈ es, s.mapLocked e = false) (hs : P s) :
    P (forAll es (fun e => State.modSeat e.seat (SeatRec.writeSide e)) s) := by
  induction es generalizing s with
  | nil => exact hs
  | cons e es ih =>
    have vacant (x : SeatMapEntry) (hx : x ∈ e :: es) : (s.meeting (s.seatFloor x.seat)).state = .vacant ∧
        (s.meeting (s.part.partition.floorOf (mapSide x))).state = .vacant := by
      have := hl x hx
      simp only [State.mapLocked, Bool.or_eq_false_iff, bne_eq_false_iff_eq] at this
      exact this
    refine ih (fun x hx => ?_) (h.side e.seat (mapSide e) (vacant e List.mem_cons_self).1
      (vacant e List.mem_cons_self).2 hs)
    obtain ⟨hfloor, hside⟩ := vacant x (List.mem_cons_of_mem e hx)
    have own : ((s.modSeat e.seat (SeatRec.writeSide e)).meeting
        ((s.modSeat e.seat (SeatRec.writeSide e)).seatFloor x.seat)).state = .vacant := by
      rw [State.meeting_modSeat]
      unfold State.seatFloor
      rw [State.modSeat_part]
      rcases seat_modSeat_or e.seat (SeatRec.writeSide e) x.seat s with hr | hr
      · rw [hr]
        exact hfloor
      · rw [hr]
        exact (vacant e List.mem_cons_self).2
    simp only [State.mapLocked, Bool.or_eq_false_iff, bne_eq_false_iff_eq]
    exact ⟨own, by rw [State.meeting_modSeat, State.modSeat_part]; exact hside⟩

end StepFrame
end Sys2Proof.Machine

namespace Sys2Proof.Machine

/-- A block's answer to a request that is made on a condition. -/
theorem ite_reply (P : State → Prop) {c : Prop} [Decidable c] {x y : State × Reply} (hx : c → P x.1) (hy : ¬ c → P y.1) :
    P (if c then x else y).1 := by
  split
  · next hc => exact hx hc
  · next hc => exact hy hc

theorem done_reply (P : State → Prop) {t : State} (ht : P t) : P (done t).1 := ht

@[simp] theorem checkPath_ledger (b : Branch) (f : UpFrame) (s : State) : (checkPath b f s).ledger = s.ledger := rfl

/-- A query that reads the state as it stands. -/
theorem readPart_fst (k : Nat) (ps : List Piece) (s : State) : (readPart k ps s).1 = s := by
  unfold readPart
  split <;> rfl

theorem querySeat_fst (a : SeatQueryArg) (s : State) : (querySeat a s).1 = s := by
  unfold querySeat
  split
  · rfl
  · exact readPart_fst _ _ s

/-- A binding moves no seat to another floor, and starts and ends no meeting. -/
theorem mapLocked_trunkFrame (e : SeatMapEntry) (x : Bool) : TrunkFrame (fun t => t.mapLocked e = x) := by
  have read {s t : State} (hf : ∀ f, (t.meeting f).state = (s.meeting f).state)
      (hn : t.seatFloor e.seat = s.seatFloor e.seat) (hp : t.part.partition = s.part.partition) :
      t.mapLocked e = s.mapLocked e := by
    unfold State.mapLocked
    rw [hf, hf, hn, hp]
  exact .of_still
    (fun h hs => (read (meetingState_of_ledger h) (seatFloor_of_ledger h _) (partition_of_ledger h)).trans hs)
    (fun h hs => (read (meetingState_of_still h) (seatFloor_of_still h _)
      (congrArg PartRec.partition (part_of_still h))).trans hs)

namespace StepFrame

variable {P : State → Prop} (h : StepFrame P) {s : State}
include h

/-! ### The lanes (10) -/

theorem stationCardIn (d : Binding) (c : CardId) (hs : P s) : P (stationCardIn d c s) :=
  ite_preserves P (fun _ => h.deliverCard d c hs) (fun _ => h.quiet (countKind_ledger _ s) hs)

theorem stationCardOut (d : Binding) (c : CardId) (hs : P s) : P (stationCardOut d c s) :=
  ite_preserves P (fun _ => h.cardOut d c hs) (fun _ => h.quiet (countKind_ledger _ s) hs)

theorem stationMessage (d : Binding) (out : Bool) (os : List Octet) (hs : P s) : P (stationMessage d out os s) := by
  unfold Machine.stationMessage
  split
  · exact ite_preserves P (fun _ => h.stationCardOut d _ hs) (fun _ => h.stationCardIn d _ hs)
  · exact ite_preserves P (fun _ => hs) (fun _ => h.quiet (countKind_ledger _ s) hs)

theorem filterMessage (d : Binding) (os : List Octet) (hs : P s) : P (filterMessage d os s) := by
  have heard (out : Bool) : P (Machine.stationMessage d out os s) := h.stationMessage d out os hs
  unfold Machine.filterMessage
  dsimp only
  refine ite_preserves P (fun _ => ite_preserves P (fun _ => ?_) (fun _ => ?_)) (fun _ => h.quiet (relay_ledger _ _ _ s) hs)
  · exact ite_preserves P (fun _ => h.quiet (relay_ledger _ _ _ _) (heard _)) (fun _ => heard _)
  · exact ite_preserves P (fun _ => h.quiet (relay_ledger _ _ _ s) hs) (fun _ => h.quiet (keepPlace_ledger _ _ _ s) hs)

theorem judgeMessage (d : Binding) (os : List Octet) (hs : P s) : P (judgeMessage d os s) :=
  ite_preserves P (fun _ => h.quiet ((countError_ledger _ _ _).trans (modLane_ledger _ _ s)) hs) (fun _ =>
    ite_preserves P (fun _ => h.quiet (modLane_ledger _ _ s) hs) (fun _ => h.filterMessage d os hs))

theorem completeReception (d : Binding) (os : List Octet) (hs : P s) : P (completeReception d os s) :=
  h.judgeMessage d os (h.quiet (modLane_ledger _ _ s) hs)

theorem takeElement (b : Branch) (e : Option (Octet × Bool)) (hs : P s) : P (takeElement b e s) := by
  have lane (f : Lane → Lane) : P (s.modLane b f) := h.quiet (modLane_ledger b f s) hs
  unfold Machine.takeElement
  dsimp only
  split
  · exact lane _
  · exact hs
  · split
    · exact ite_preserves P (fun _ => lane _) (fun _ => lane _)
    · exact ite_preserves P (fun _ => lane _) (fun _ => lane _)
  · exact ite_preserves P (fun _ => lane _) (fun _ => lane _)
  · exact lane _
  · exact ite_preserves P (fun _ => h.completeReception _ _ hs) (fun _ =>
      ite_preserves P (fun _ => lane _) (fun _ => lane _))

theorem completeMessage (d : Binding) (os : List Octet) (hs : P s) : P (completeMessage d os s) := by
  unfold Machine.completeMessage
  dsimp only
  split
  · exact ite_preserves P (fun _ => h.completeReception d os hs) (fun _ =>
      ite_preserves P (fun _ => h.judgeMessage d os hs) (fun _ => hs))
  · exact ite_preserves P (fun _ => hs) (fun _ =>
      ite_preserves P (fun _ => h.completeReception d os hs) (fun _ => h.judgeMessage d os hs))
  · exact ite_preserves P (fun _ => h.completeReception d os hs) (fun _ => hs)

/-! ### The frames and the links (09) -/

theorem judgeLink (running : Bool) (d : Binding) (hs : P s) : P (judgeLink running d s) := by
  unfold Machine.judgeLink
  split
  · exact hs
  · exact ite_preserves P (fun _ => h.loseNode d true hs) (fun _ =>
      ite_preserves P (fun _ => h.quiet (recoverNode_ledger d s) hs) (fun _ => hs))

theorem takeStations (b : Branch) (running : Bool) (f : UpFrame) (hs : P s) : P (takeStations b running f s) := by
  have judged (l : List NodeEntry) (ps : List Nat) {t : State} (ht : P t) :
      P (forAll ps (fun p => Machine.judgeLink running ⟨b, p⟩) (forAll l (takeUsers b running f) t)) :=
    forAll_preserves (fun p _ _ hu => h.judgeLink running ⟨b, p⟩ hu)
      (h.quiet (forAll_ledger (fun e u => takeUsers_ledger b running f e u) l t) ht)
  have counted : P (s.modBr b (fun r =>
      { r with counter := r.counter.count .slotCheck (slotErrors running f (s.br b).table),
               table := r.table.map (NodeEntry.takeSlot running f) })) := h.quiet (modBr_ledger b _ s) hs
  exact ite_preserves P (fun _ => h.quiet (checkPath_ledger b f _) (judged _ _ counted)) (fun _ => judged _ _ counted)

theorem takeSlots (b : Branch) (running : Bool) (f : UpFrame) (hs : P s) : P (takeSlots b running f s) :=
  h.takeElement b _ (h.takeStations b running f hs)

theorem bringUp (b : Branch) (hs : P s) : P (bringUp b s) :=
  ite_preserves P (fun _ => h.emptyTable b _ _ hs) (fun _ => h.startEnumeration b hs)

theorem receiveFrame (b : Branch) (f : UpFrame) (hs : P s) : P (receiveFrame b f s) := by
  have counted : P (countFull b (s.modBr b (fun r => { r with upCount := r.upCount + 1 }))) :=
    h.quiet ((countFull_ledger b _).trans (modBr_ledger b _ s)) hs
  unfold Machine.receiveFrame
  split
  · exact ite_preserves P (fun _ => h.bringUp b counted) (fun _ => counted)
  · exact h.quiet (countFull_ledger b s) hs
  · exact h.takeSlots b true f (h.quiet (countFull_ledger b s) hs)
  · exact h.takeSlots b false f (h.quiet (modBr_ledger b _ s) hs)

theorem takeReply (b : Branch) (r : RollReply) (hs : P s) : P (takeReply b r s) := by
  have found (g : BranchRec → BranchRec) : P (s.modBr b g) := h.quiet (modBr_ledger b g s) hs
  unfold Machine.takeReply
  split
  · refine ite_preserves P (fun _ => h.endEnumeration b (h.quiet (report_ledger _ _ s) hs)) (fun _ =>
      ite_preserves P (fun _ => ?_) (fun _ => ?_))
    · exact ite_preserves P (fun _ => h.endEnumeration b (found _)) (fun _ => found _)
    · exact ite_preserves P
        (fun _ => h.wakeCheck (h.quiet (report_ledger _ _ _) (h.finishEnumeration b hs))) (fun _ => found _)
  · exact hs

/-! ### The requests -/

/-- A request is answered after its block has handled it (10 R187). -/
theorem handle {α : Type} (hd : Head) (i : Instr) (body : Body α) {run : α → State → State × Reply}
    (hrun : ∀ a, P (run a s).1) (hs : P s) : P (handle hd i body run s) := by
  have told (c : Code) : P (answer hd c [] s) := h.quiet (answer_ledger _ _ _ s) hs
  unfold Machine.handle
  refine ite_preserves P (fun _ => ite_preserves P (fun _ => ?_) (fun _ => told _))
    (fun _ => h.quiet (keepRequest_ledger _ _ s) hs)
  split
  · exact told _
  · exact told _
  · next a =>
    have ran := hrun a
    split
    · next t c data heq =>
      rw [heq] at ran
      exact h.quiet ((answer_ledger _ _ _ _).trans (refresh_ledger t)) ran
    · next t heq =>
      rw [heq] at ran
      exact h.quiet (refresh_ledger t) ran

theorem applyMap (es : List SeatMapEntry) (hl : ∀ e ∈ es, s.mapLocked e = false) (hs : P s) : P (applyMap es s) := by
  have written : (forAll es (fun e => State.modSeat e.seat (SeatRec.writeRest e)) s).ledger = s.ledger :=
    forAll_ledger (fun (e : SeatMapEntry) t => modSeat_ledger e.seat (by intros; rfl) t) es s
  have bound {Q : State → Prop} (hq : TrunkFrame Q) (moved : List Nat) (freed : List Binding) (hQ : Q s) :
      Q (forAll freed Machine.clearStation (forAll moved Machine.bindSeat
        (forAll es (fun e => State.modSeat e.seat (SeatRec.writeRest e)) s))) :=
    hq.quiet (forAll_ledger clearStation_ledger _ _)
      (forAll_preserves (f := Machine.bindSeat) (fun n _ _ ht => hq.bindSeat n ht) (hq.quiet written hQ))
  unfold Machine.applyMap
  dsimp only
  refine h.quiet (forAll_ledger (fun n t => report_ledger _ _ t) _ _) (h.sides es (fun e he => ?_) ?_)
  · exact bound (mapLocked_trunkFrame e _) _ _ (hl e he)
  · exact bound h.toTrunkFrame _ _ hs

theorem seatMap (es : List SeatMapEntry) (hs : P s) : P (seatMap es s).1 := by
  refine ite_reply P (fun _ => hs) (fun _ => ite_reply P (fun _ => hs) (fun hl => ite_reply P (fun _ => hs) (fun _ => ?_)))
  refine h.applyMap es (fun e he => ?_) hs
  simpa using fun hx => hl (List.any_eq_true.mpr ⟨e, he, hx⟩)

theorem checkIn (n : Nat) (hs : P s) : P (checkIn n s).1 :=
  ite_reply P (fun _ => hs) (fun _ => ite_reply P (fun _ => hs) (fun _ => ite_reply P (fun _ => hs) (fun _ =>
    ite_reply P (fun _ => hs) (fun _ => h.quiet (cardReport_ledger _ _ _ _ _ _ _) (h.becomePresent n _ hs)))))

theorem applyEdit (n : Nat) (role : Role) (d : Option Delegate) (hs : P s) : P (applyEdit n role d s) :=
  have edited := h.edit n role d hs
  ite_preserves P (fun _ => edited) (fun _ => h.quiet (report_ledger _ _ _) edited)

theorem rosterEdit (a : RosterArg) (hs : P s) : P (rosterEdit a s).1 := by
  unfold Machine.rosterEdit
  split
  · exact hs
  · exact ite_reply P (fun _ => hs) (fun _ => ite_reply P (fun _ => hs) (fun _ => ite_reply P (fun _ => hs) (fun _ =>
      ite_reply P (fun _ => hs) (fun _ => h.applyEdit _ _ _ hs))))

theorem floorSetRequest (a : FloorSetArg) (hs : P s) : P (Machine.floorSet a s).1 := by
  unfold Machine.floorSet
  split
  · exact hs
  · exact ite_reply P (fun _ => hs) (fun _ => ite_reply P (fun _ => hs) (fun _ => h.floorSet _ _ hs))

theorem grantRequest (a : GrantArg) (hs : P s) : P (grantRequest a s).1 := by
  unfold Machine.grantRequest
  split
  · exact hs
  · next f _ =>
    refine ite_reply P (fun _ => hs) (fun _ => ite_reply P (fun _ => hs) (fun _ => ?_))
    split
    · exact hs
    · next n hn =>
      refine ite_reply P (fun _ => hs) (fun hf => h.grantPass f (h.grant f n .console ?_ (by simpa using hf) hs))
      unfold State.grantTarget at hn
      split at hn
      · exact List.mem_of_mem_head? hn
      · split at hn
        · next hc =>
          cases hn
          simpa using hc
        · cases hn

theorem closeSeat (n : Nat) (hs : P s) : P (closeSeat n s).1 := by
  unfold Machine.closeSeat
  refine ite_reply P (fun _ => hs) (fun _ => ite_reply P (fun _ => hs) (fun _ => ?_))
  split
  · exact hs
  · exact hs
  · exact hs
  · next hst => exact h.grantPass _ (h.close n _ _ hst hs)
  · next hst => exact h.grantPass _ (h.dequeue n _ _ hst hs)
  · next hst => exact h.grantPass _ (h.endSuspended n _ _ hst hs)

theorem clearQueue (k : Nat) (hs : P s) : P (clearQueue k s).1 := by
  unfold Machine.clearQueue
  split
  · exact hs
  · exact ite_reply P (fun _ => hs) (fun _ => h.emptyQueue _ _ hs)

theorem priorityEnd (k : Nat) (hs : P s) : P (priorityEnd k s).1 := by
  unfold Machine.priorityEnd
  split
  · exact hs
  · exact ite_reply P (fun _ => hs) (fun _ => ite_reply P (fun _ => hs) (fun _ => h.endAllEntries _ _ hs))

theorem gateSetRequest (a : GateSetArg) (hs : P s) : P (Machine.gateSet a s).1 := by
  unfold Machine.gateSet
  split
  · exact hs
  · exact ite_reply P (fun _ => hs) (fun _ => ite_reply P (fun _ => hs) (fun _ => h.gateSet _ _ hs))

theorem mixSetRequest (a : MixSetArg) (hs : P s) : P (Machine.mixSet a s).1 := by
  unfold Machine.mixSet
  split
  · exact hs
  · exact ite_reply P (fun _ => hs) (fun _ => ite_reply P (fun _ => hs) (fun _ => h.mixSet _ _ hs))

theorem lineSet (a : LineSetArg) (hs : P s) : P (lineSet a s).1 :=
  ite_reply P (fun _ => hs) (fun _ => ite_reply P (fun _ => hs) (fun _ => h.quiet (applyLineSet_ledger a s) hs))

theorem wallMode (k : Nat) (hs : P s) : P (wallMode k s).1 := by
  unfold Machine.wallMode
  split
  · exact hs
  · refine ite_reply P (fun _ => hs) (fun _ => ?_)
    show P (applyWallMode _ s)
    unfold applyWallMode
    split
    · exact h.setTarget _ _ (h.quiet (s := s) rfl hs)
    · exact h.quiet (s := s) rfl hs

theorem clockSet (a : ClockSetArg) (hs : P s) : P (clockSet a s).1 :=
  ite_reply P (fun _ => hs) (fun _ => done_reply P (h.evaluationPass (h.quiet (s := s) rfl hs)))

theorem profileSetRequest (a : ProfileSetArg) (hs : P s) : P (Machine.profileSet a s).1 :=
  ite_reply P (fun _ => hs) (fun _ => h.profileSet a hs)

theorem commit (hd : Head) (b : Booking) (hs : P s) : P (commit hd b s).1 := by
  refine ite_reply P (fun _ => h.quiet (s := s) rfl hs) (fun _ => ite_reply P (fun _ => h.quiet (s := s) rfl hs) (fun _ => ?_))
  exact h.evaluationPass (h.quiet ((bookingReport_ledger _ _ _ _ _).trans (answer_ledger _ _ _ _)) (h.quiet (s := s) rfl hs))

theorem beginStaging (hd : Head) (a : BookBeginArg) (hs : P s) : P (beginStaging hd a s).1 :=
  ite_reply P (fun _ => hs) (fun _ => ite_reply P (fun _ => hs) (fun _ => ite_reply P (fun _ => hs) (fun _ =>
    ite_reply P (fun _ => hs) (fun _ => ite_reply P (fun _ => hs) (fun _ => ite_reply P (fun _ => hs) (fun _ =>
      ite_reply P (fun _ => hs) (fun _ => ite_reply P (fun _ => h.commit hd _ hs)
        (fun _ => h.quiet (s := s) rfl hs))))))))

theorem bookBegin (hd : Head) (a : BookBeginArg) (hs : P s) : P (bookBegin hd a s).1 := by
  unfold Machine.bookBegin
  split
  · exact ite_reply P (fun _ => h.beginStaging hd a (h.quiet (s := s) rfl hs)) (fun _ => hs)
  · exact h.beginStaging hd a hs

theorem takePart (hd : Head) (es : List RosterArg) (b : Booking) (n timer : Nat) (hs : P s) :
    P (takePart hd es b n timer s).1 :=
  ite_reply P (fun _ => h.quiet (s := s) rfl hs) (fun _ =>
    ite_reply P (fun _ => h.quiet (s := s) rfl hs) (fun _ => h.commit hd _ hs))

theorem rosterPart (hd : Head) (es : List RosterArg) (hs : P s) : P (rosterPart hd es s).1 := by
  unfold Machine.rosterPart
  split
  · exact hs
  · exact ite_reply P (fun _ => h.takePart hd es _ _ _ hs) (fun _ => hs)
  · exact ite_reply P (fun _ => h.quiet (s := s) rfl hs) (fun _ => hs)

theorem bookAbort (hd : Head) (u : Unit) (hs : P s) : P (bookAbort hd u s).1 := by
  unfold Machine.bookAbort
  split
  · exact hs
  · exact ite_reply P (fun _ => h.quiet (s := s) rfl hs) (fun _ => hs)

theorem cancel (id : Nat) (hs : P s) : P (cancel id s).1 := by
  unfold Machine.cancel
  refine ite_reply P (fun _ => hs) (fun _ => ?_)
  split
  · exact hs
  · split
    · exact done_reply P (h.endMeetingNow _ _ hs)
    · exact done_reply P (h.evaluationPass (h.quiet (releaseBooking_ledger _ _ s) hs))

theorem extend (a : ExtendArg) (hs : P s) : P (extend a s).1 := by
  unfold Machine.extend
  split
  · exact hs
  · next f _ =>
    refine ite_reply P (fun _ => hs) (fun _ => ?_)
    split
    · exact hs
    · next b _ =>
      have extended (stop : Nat) : P (applyExtend f b stop s) :=
        h.quiet (bookingReport_ledger _ _ _ _ _)
          (h.modMeeting f _ (Or.inr rfl) (h.quiet (modBooking_ledger _ _ s) hs))
      exact ite_reply P (fun _ => hs) (fun _ => ite_reply P (fun _ => hs) (fun _ => ite_reply P (fun _ => hs) (fun _ =>
        ite_reply P (fun _ => hs) (fun _ => ite_reply P (fun _ => hs) (fun _ => extended _)))))

theorem walkinStart (k : Nat) (hs : P s) : P (walkinStart k s).1 := by
  unfold Machine.walkinStart
  split
  · exact hs
  · next f _ =>
    refine ite_reply P (fun _ => hs) (fun hv => h.startWalkin ?_ (h.calendarWake hs))
    simp only [Bool.or_eq_true, bne_iff_ne, ne_eq, not_or, not_not] at hv
    exact congrArg MeetingState.live ((calendarWake_meetingState f s).trans hv.2)

theorem sessionEnd (k : Nat) (hs : P s) : P (sessionEnd k s).1 := by
  unfold Machine.sessionEnd
  split
  · exact hs
  · exact ite_reply P (fun _ => hs) (fun _ => done_reply P (h.endMeetingNow _ _ hs))

theorem screenSet (a : ScreenSetArg) (hs : P s) : P (screenSet a s).1 :=
  ite_reply P (fun _ => hs) (fun _ => ite_reply P (fun _ => hs) (fun _ => h.quiet (applyScreenSet_ledger a s) hs))

theorem layoutSet (a : LayoutSetArg) (hs : P s) : P (layoutSet a s).1 := by
  unfold Machine.layoutSet
  refine ite_reply P (fun _ => hs) (fun _ => ?_)
  split
  · exact hs
  · exact h.quiet (s := s) rfl hs

theorem cameraSetCamera (a : CameraSetArg) (hs : P s) : P (cameraSetCamera a s).1 :=
  ite_reply P (fun _ => hs) (fun _ => ite_reply P (fun _ => hs) (fun _ => h.quiet (applyCameraSet_ledger a s) hs))

theorem cameraSetPreset (a : PresetSetArg) (hs : P s) : P (cameraSetPreset a s).1 :=
  ite_reply P (fun _ => hs)
    (fun _ => h.quiet ((presetEffects_ledger _ _ _).trans (writePresets_ledger _ _ s)) hs)

theorem pathTest (a : PathTestArg) (hs : P s) : P (pathTest a s).1 := by
  unfold Machine.pathTest
  refine ite_reply P (fun _ => hs) (fun _ => ite_reply P (fun _ => hs) (fun _ => ?_))
  split
  · exact hs
  · exact ite_reply P (fun _ => hs) (fun _ => h.quiet (s := s) rfl hs)

theorem testInsert (hd : Head) (a : TestInsertArg) (hs : P s) : P (testInsert hd a s).1 := by
  unfold Machine.testInsert
  split
  · exact hs
  · exact ite_reply P (fun _ => hs) (fun _ => ite_reply P (fun _ => hs) (fun _ => ite_reply P (fun _ => hs) (fun _ =>
      h.quiet (s := s) (modBr_ledger _ _ s) hs)))

theorem counterSet (a : CounterSetArg) (hs : P s) : P (counterSet a s).1 := by
  unfold Machine.counterSet
  split
  · exact hs
  · exact ite_reply P (fun _ => hs) (fun _ => h.quiet (modBr_ledger _ _ s) hs)

theorem filterSet (a : FilterSetArg) (hs : P s) : P (filterSet a s).1 :=
  ite_reply P (fun _ => hs) (fun _ => h.quiet (s := s) rfl hs)

theorem reportTo (a : Octet) (hs : P s) : P (reportTo a s).1 := by
  unfold Machine.reportTo
  refine ite_reply P (fun _ => h.quiet (s := s) rfl hs) (fun _ => ?_)
  split
  · exact hs
  · exact ite_reply P (fun _ => h.quiet (s := s) rfl hs) (fun _ => hs)

theorem reportSet (is : List ReportItem) (hs : P s) : P (reportSet is s).1 :=
  ite_reply P (fun _ => hs) (fun _ => h.quiet (s := s) rfl hs)

theorem powerSet (a : PowerSetArg) (hs : P s) : P (powerSet a s).1 :=
  ite_reply P (fun _ => hs) (fun _ => h.quiet (s := s) rfl hs)

theorem sleep (u : Unit) (hs : P s) : P (sleep u s).1 := by
  have slept : P (if s.bothVacant then done (enterSleep s) else refusal .state s).1 :=
    ite_reply P (fun _ => done_reply P (h.quiet (enterSleep_ledger s) hs)) (fun _ => hs)
  unfold Machine.sleep
  split
  · exact hs
  · exact hs
  · exact slept
  · exact slept

theorem wake (u : Unit) (hs : P s) : P (wake u s).1 := by
  unfold Machine.wake
  split
  · exact h.quiet (restPower_ledger s) hs
  · exact hs
  · exact ite_reply P (fun _ => done_reply P (h.quiet (becomeActive_ledger _ _ s) hs)) (fun _ => hs)
  · exact ite_reply P (fun _ => done_reply P (h.beginWaking _ _ _ hs)) (fun _ => hs)

theorem queryBookings (src : Octet) (place : Nat) (hs : P s) : P (queryBookings src place s).1 :=
  ite_reply P (fun _ => hs) (fun _ => ite_reply P (fun _ => hs) (fun _ => h.quiet (s := s) rfl hs))

theorem queryLevels (k : Nat) (hs : P s) : P (queryLevels k s).1 :=
  ite_reply P (fun _ => hs) (fun _ => ite_reply P (fun _ => h.quiet (s := s) rfl hs) (fun _ => hs))

theorem queryMix (k : Nat) (hs : P s) : P (queryMix k s).1 :=
  ite_reply P (fun _ => hs) (fun _ => ite_reply P (fun _ => h.quiet (s := s) rfl hs) (fun _ => hs))

theorem queryLink (k : Nat) (hs : P s) : P (queryLink k s).1 :=
  ite_reply P (fun _ => hs) (fun _ => ite_reply P (fun _ => h.quiet (s := s) rfl hs) (fun _ => hs))

/-! ### Keys, timers and the wall -/

theorem giveKey (n : Nat) (k : Key) (e : KeyEvent) (hs : P s) : P (giveKey n k e s) := by
  refine ite_preserves P (fun hg => h.quiet (refresh_ledger _) (h.deliverKey n k e ?_ (h.quiet (modDets_ledger _ _ s) hs)))
    (fun _ => hs)
  simp only [State.givesKeys, Bool.and_eq_true] at hg
  exact (eligible_of_unlisted (congrArg SeatRec.unlisted (State.seat_of_seats (State.modDets_seats _ _ s) n))).trans hg.1

theorem minuteBoundary (hs : P s) : P (minuteBoundary s) := by
  unfold Machine.minuteBoundary
  split
  · exact hs
  · exact ite_preserves P (fun _ => h.evaluationPass
      (h.quiet ((autoCounter_ledger _ _).trans (autoCounter_ledger _ _)) (h.quiet (s := s) rfl hs))) (fun _ => hs)

theorem takeReading (r : WallReading) (hs : P s) : P (takeReading r s) := by
  have read (p : PartRec) (hp : p.partition = s.part.partition) : P (wallReport .reading { s with part := p }) := by
    refine h.quiet ((wallReport_ledger _ _).trans ?_) hs
    simp only [State.ledger, hp]
  exact ite_preserves P (fun _ => hs) (fun _ =>
    ite_preserves P (fun _ => h.wallEvent (read _ rfl)) (fun _ => read _ rfl))

theorem completeSettle (hs : P s) : P (completeSettle s) := by
  unfold Machine.completeSettle
  split
  · exact hs
  · exact ite_preserves P (fun _ => hs) (fun _ => h.setTarget _ _ (h.quiet (s := s) rfl hs))

end StepFrame
end Sys2Proof.Machine

namespace Sys2Proof.Machine

namespace StepFrame

variable {P : State → Prop} (h : StepFrame P) {s : State}
include h

/-- A request's command ends in a state of the law. -/
theorem handled {α : Type} (hd : Head) (i : Instr) (body : Body α) (run : α → State → State × Reply)
    (hrun : ∀ a, P (run a s).1) (hs : P s) : ∃ t, finish s (Machine.handle hd i body run s) = finish s t ∧ P t :=
  ⟨_, rfl, h.handle hd i body hrun hs⟩

/-- A change that is refreshed, made on a condition. -/
theorem refreshed {c : Bool} {t : State} (ht : c = true → P t) (hs : P s) : P (if c then refresh t else s) :=
  ite_preserves P (fun hc => h.quiet (refresh_ledger t) (ht hc)) (fun _ => hs)

/-- Every command ends in a state of the law. -/
theorem exec_finishes (i : Instr) (hs : P s) : ∃ t, exec i s = finish s t ∧ P t := by
  have ends {t : State} (ht : P t) : ∃ u, finish s t = finish s u ∧ P u := ⟨t, rfl, ht⟩
  have refr {t : State} (ht : P t) : P (refresh t) := h.quiet (refresh_ledger t) ht
  cases i with
  | powerOnReset => exact ends h.reset
  | warmReset => exact ends (h.warm hs)
  | resetAfterAnswer => exact ends (ite_preserves P (fun _ => h.warm hs) (fun _ => hs))
  | upFrame b f =>
    exact ends (ite_preserves P (fun _ => refr (h.receiveFrame b f hs)) (fun _ => h.quiet (missFrame_ledger b s) hs))
  | downFrame b => exact ends (h.quiet (sendDown_ledger b s) hs)
  | branchUp b => exact ends (h.refreshed (fun _ => h.bringUp b hs) hs)
  | branchDown b =>
    exact ends (ite_preserves P (fun _ => hs) (fun _ => refr (h.wakeCheck (h.takeDown b hs))))
  | rollReply b r => exact ends (refr (h.takeReply b r hs))
  | rollSilence b => exact ends (h.refreshed (fun _ => h.endEnumeration b hs) hs)
  | nodeLinkLost b p =>
    exact ends (h.refreshed (fun _ => h.loseNode _ true (h.quiet (modEntry_ledger _ _ s) hs)) hs)
  | nodeLinkRecovered b p => exact ends (h.refreshed (fun _ => h.quiet (recoverNode_ledger _ s) hs) hs)
  | linkWindowEnd =>
    refine ends (h.quiet ?_ hs)
    rw [deliver_ledger, endBranchWindow_ledger, endBranchWindow_ledger]
    rfl
  | laneMessageComplete b p os => exact ends (h.refreshed (fun _ => h.completeMessage _ os hs) hs)
  | cardIn b p c => exact ends (h.refreshed (fun _ => h.stationCardIn _ c hs) hs)
  | cardOut b p c => exact ends (h.refreshed (fun _ => h.stationCardOut _ c hs) hs)
  | relayPlaced b => exact ends (h.quiet (placeWaiting_ledger b _ s) hs)
  | turnOffer b => exact ends (h.quiet (offerTurn_ledger b s) hs)
  | turnOfferLapse b => exact ends (h.quiet (modLane_ledger b _ s) hs)
  | receptionGapTimeout b => exact ends (h.quiet (modLane_ledger b _ s) hs)
  | outboundMessageSent b => exact ends (h.quiet (messageSent_ledger b s) hs)
  | answerPlaced =>
    refine ends ?_
    split
    · exact h.quiet (placeWaiting_ledger _ _ s) hs
    · exact hs
  | reportPlaced =>
    refine ends ?_
    split
    · exact h.quiet (placeWaiting_ledger _ _ s) hs
    · exact hs
  | directiveHandedOn =>
    exact ends (ite_preserves P (fun _ => h.quiet (placeWaiting_ledger _ _ s) hs)
      (fun _ => h.quiet (placeWaiting_ledger _ _ s) hs))
  | requestUnknownKind hd k =>
    exact ends (ite_preserves P (fun _ => h.quiet (answer_ledger _ _ _ s) hs)
      (fun _ => h.quiet (keepRequest_ledger _ _ s) hs))
  | seatMap hd x => exact h.handled hd _ x Machine.seatMap (fun a => h.seatMap a hs) hs
  | checkIn hd x => exact h.handled hd _ x Machine.checkIn (fun a => h.checkIn a hs) hs
  | rosterEdit hd x => exact h.handled hd _ x Machine.rosterEdit (fun a => h.rosterEdit a hs) hs
  | floorSet hd x => exact h.handled hd _ x Machine.floorSet (fun a => h.floorSetRequest a hs) hs
  | grant hd x => exact h.handled hd _ x Machine.grantRequest (fun a => h.grantRequest a hs) hs
  | closeSeat hd x => exact h.handled hd _ x Machine.closeSeat (fun a => h.closeSeat a hs) hs
  | clearQueue hd x => exact h.handled hd _ x Machine.clearQueue (fun a => h.clearQueue a hs) hs
  | priorityEnd hd x => exact h.handled hd _ x Machine.priorityEnd (fun a => h.priorityEnd a hs) hs
  | gateSet hd x => exact h.handled hd _ x Machine.gateSet (fun a => h.gateSetRequest a hs) hs
  | mixSet hd x => exact h.handled hd _ x Machine.mixSet (fun a => h.mixSetRequest a hs) hs
  | lineSet hd x => exact h.handled hd _ x Machine.lineSet (fun a => h.lineSet a hs) hs
  | wallMode hd x => exact h.handled hd _ x Machine.wallMode (fun a => h.wallMode a hs) hs
  | clockSet hd x => exact h.handled hd _ x Machine.clockSet (fun a => h.clockSet a hs) hs
  | profileSet hd x => exact h.handled hd _ x Machine.profileSet (fun a => h.profileSetRequest a hs) hs
  | bookBegin hd x => exact h.handled hd _ x (Machine.bookBegin hd) (fun a => h.bookBegin hd a hs) hs
  | rosterPart hd x => exact h.handled hd _ x (Machine.rosterPart hd) (fun a => h.rosterPart hd a hs) hs
  | bookAbort hd x => exact h.handled hd _ x (Machine.bookAbort hd) (fun a => h.bookAbort hd a hs) hs
  | stagingPartTimeout => exact ends (h.quiet (s := s) rfl hs)
  | cancel hd x => exact h.handled hd _ x Machine.cancel (fun a => h.cancel a hs) hs
  | extend hd x => exact h.handled hd _ x Machine.extend (fun a => h.extend a hs) hs
  | walkinStart hd x => exact h.handled hd _ x Machine.walkinStart (fun a => h.walkinStart a hs) hs
  | sessionEnd hd x => exact h.handled hd _ x Machine.sessionEnd (fun a => h.sessionEnd a hs) hs
  | screenSet hd x => exact h.handled hd _ x Machine.screenSet (fun a => h.screenSet a hs) hs
  | layoutSet hd x => exact h.handled hd _ x Machine.layoutSet (fun a => h.layoutSet a hs) hs
  | cameraSetCamera hd x => exact h.handled hd _ x Machine.cameraSetCamera (fun a => h.cameraSetCamera a hs) hs
  | cameraSetPreset hd x => exact h.handled hd _ x Machine.cameraSetPreset (fun a => h.cameraSetPreset a hs) hs
  | pathTest hd x => exact h.handled hd _ x Machine.pathTest (fun a => h.pathTest a hs) hs
  | testInsert hd x => exact h.handled hd _ x (Machine.testInsert hd) (fun a => h.testInsert hd a hs) hs
  | counterSet hd x => exact h.handled hd _ x Machine.counterSet (fun a => h.counterSet a hs) hs
  | filterSet hd x => exact h.handled hd _ x Machine.filterSet (fun a => h.filterSet a hs) hs
  | reportTo hd x => exact h.handled hd _ x Machine.reportTo (fun a => h.reportTo a hs) hs
  | reportSet hd x => exact h.handled hd _ x Machine.reportSet (fun a => h.reportSet a hs) hs
  | statusQuerySeat hd x =>
    exact h.handled hd _ x Machine.querySeat (fun a => by rw [querySeat_fst]; exact hs) hs
  | statusQueryFloor hd x =>
    exact h.handled hd _ x Machine.queryFloor (fun k => by rw [queryFloor, readPart_fst]; exact hs) hs
  | statusQueryBookings hd x =>
    exact h.handled hd _ x (Machine.queryBookings hd.source) (fun a => h.queryBookings _ a hs) hs
  | statusQueryLevels hd x => exact h.handled hd _ x Machine.queryLevels (fun a => h.queryLevels a hs) hs
  | statusQueryMix hd x => exact h.handled hd _ x Machine.queryMix (fun a => h.queryMix a hs) hs
  | statusQueryLink hd x => exact h.handled hd _ x Machine.queryLink (fun a => h.queryLink a hs) hs
  | statusQueryPower hd x =>
    exact h.handled hd _ x Machine.queryPower (fun k => by rw [queryPower, readPart_fst]; exact hs) hs
  | reset hd x =>
    exact h.handled hd _ x (Machine.resetRequest hd)
      (fun _ => h.quiet (s := s) (placeAnswer_ledger _ _ _) hs) hs
  | powerSet hd x => exact h.handled hd _ x Machine.powerSet (fun a => h.powerSet a hs) hs
  | sleep hd x => exact h.handled hd _ x Machine.sleep (fun a => h.sleep a hs) hs
  | wake hd x => exact h.handled hd _ x Machine.wake (fun a => h.wake a hs) hs
  | micPress n => exact ends (h.giveKey n _ _ hs)
  | keyLong n k => exact ends (h.giveKey n k _ hs)
  | priorityPress n => exact ends (h.giveKey n _ _ hs)
  | priorityRelease n => exact ends (h.giveKey n _ _ hs)
  | nextPress n => exact ends (h.giveKey n _ _ hs)
  | keyRelease n k => exact ends (h.giveKey n k _ hs)
  | keyToPower n k e =>
    refine ends (h.refreshed (fun hg => h.keyToPower n k e ?_ (h.quiet (modDets_ledger _ _ s) hs)) hs)
    simp only [State.givesKeys, Bool.and_eq_true] at hg
    exact (eligible_of_unlisted (congrArg SeatRec.unlisted
      (State.seat_of_seats (State.modDets_seats _ _ s) n))).trans hg.1.1
  | cardToPower b p c =>
    refine ends (ite_preserves P (fun _ => hs) (fun _ => ?_))
    split
    · exact refr (h.cardToPower _ c hs)
    · exact hs
  | refusalDisplayEnd n => exact ends (h.quiet (modSeat_ledger n (by intros; rfl) s) hs)
  | turnWarning n => exact ends (refr (h.quiet (warnTurn_ledger n s) hs))
  | turnExpiry n => exact ends (refr (h.expireTurn n hs))
  | accountSecond n => exact ends (refr (h.accountSecond n hs))
  | overtimeSecond n =>
    refine ends ?_
    split
    · exact h.quiet (modSeat_ledger n (by intros; rfl) s) hs
    · exact hs
  | seeSeatDisplayEnd n =>
    exact ends (h.refreshed (fun _ => h.quiet (modPlate_ledger n _ s) hs) hs)
  | cardFlagLoss n => exact ends (h.refreshed (fun _ => h.cardFlagLoss n hs) hs)
  | voiceEvaluation => exact ends (refr (h.evaluateVoices hs))
  | hangExpiry c =>
    refine ends (ite_preserves P (fun _ => h.quiet ?_ hs) (fun _ => hs))
    rw [deliver_ledger, gateReport_ledger, modChan_ledger]
  | voiceRelease n =>
    refine ends (h.refreshed (fun hg => h.grantPass _ (h.close n _ _ ?_ hs)) hs)
    simp only [Bool.and_eq_true, beq_iff_eq] at hg
    exact hg.1
  | minuteBoundary => exact ends (refr (h.minuteBoundary hs))
  | walkinIdleEnd f => exact ends (h.refreshed (fun _ => h.endMeetingNow f _ hs) hs)
  | wallReadingChange r => exact ends (refr (h.takeReading r hs))
  | settleComplete => exact ends (refr (h.completeSettle hs))
  | warmupDone k =>
    refine ends (h.refreshed (fun _ => h.quiet ?_ hs) hs)
    exact (ledger_of_core (refreshScreen_core true k _)).trans (modScreen_ledger _ _ s)
  | screenFaultChange k x => exact ends (h.refreshed (fun _ => h.quiet (takeFault_ledger k x s) hs) hs)
  | showIntervalEnd k =>
    exact ends (ite_preserves P (fun _ => h.quiet (ledger_of_core (sendShow_core k s)) hs) (fun _ => hs))
  | cameraCut k =>
    refine ends ?_
    split
    · exact ite_preserves P (fun _ => h.quiet (takeShot_ledger _ _ s) hs) (fun _ => hs)
    · exact hs
  | cameraReturnOverview k =>
    exact ends (ite_preserves P (fun _ => h.quiet (takeShot_ledger _ _ s) hs) (fun _ => hs))
  | cameraPriorityCut k =>
    exact ends (ite_preserves P (fun _ => h.quiet (takeShot_ledger _ _ s) hs) (fun _ => hs))
  | pathTestEnd =>
    refine ends (h.quiet ?_ hs)
    rw [deliver_ledger, endTest_ledger]
    rfl
  | dimEntry => exact ends (h.refreshed (fun _ => h.quiet (leaveActive_ledger _ _ s) hs) hs)
  | trunkLock =>
    exact ends (ite_preserves P
      (fun _ => h.quiet ((deliver_ledger _).trans (reportLock_ledger s)) hs) (fun _ => hs))
  | wakeTimeout => exact ends (h.refreshed (fun _ => h.ready hs) hs)

theorem exec_preserves (i : Instr) {t : State} (hs : P s) (ht : exec i s = .next t) : P t := by
  obtain ⟨u, hu, hP⟩ := h.exec_finishes i hs
  rw [hu] at ht
  cases ht
  exact h.quiet (s := u) rfl hP

/-- The command that the hub runs of its own runs on a state of the same ledger. -/
theorem ownCommand_preserves {i : Instr} {t : State} (ho : s.ownCommand = some (i, t)) (hs : P s) : P t := by
  unfold State.ownCommand at ho
  split at ho
  · cases ho
    exact hs
  · unfold State.nextRequest at ho
    split at ho
    · split at ho
      · obtain ⟨j, -, hj⟩ := Option.map_eq_some_iff.mp ho
        cases hj
        exact h.quiet (s := s) rfl hs
      · cases ho
    · cases ho

/-- Every step keeps the law. -/
theorem step_preserves {t : State} (hs : P s) (ht : step s = .next t) : P t := by
  unfold step at ht
  split at ht
  · refine h.exec_preserves _ ?_ ht
    exact h.quiet (s := s) rfl hs
  · split at ht
    · next ho => exact h.exec_preserves _ (h.ownCommand_preserves ho hs) ht
    · rw [← Host.Outcome.next.inj ht]
      exact h.tick hs

end StepFrame
end Sys2Proof.Machine

namespace Sys2Proof.Machine

/-! ## FLOOR_SET and its effects own what the floor controllers own (02 R41, R42) -/

theorem forAll_still {α : Type} {f : α → State → State} (hf : ∀ a s, (f a s).still = s.still) (l : List α) (s : State) :
    (forAll l f s).still = s.still := forAll_keeps State.still f hf l s

theorem closes_still (c : KeyCause) (l : List Nat) (s : State) :
    (forAll l (fun n => close n c none) s).still = s.still := forAll_still (fun n t => close_still n c none t) l s

theorem emptyQueue_still (f : Floor) (c : KeyCause) (s : State) : (emptyQueue f c s).still = s.still :=
  forAll_still (fun n t => dequeue_still n c none t) _ s

theorem setReleases_still (f : Floor) (x : Option Nat) (s : State) : (setReleases f x s).still = s.still :=
  forAll_still (fun n t => modSeat_still n _ (by intros; rfl) t) _ s

theorem changeMode_still (f : Floor) (old new : Mode) (s : State) : (changeMode f old new s).still = s.still := by
  have freed : (if old == .voice then setReleases f none s else s).still = s.still := by
    split
    · exact setReleases_still f none s
    · rfl
  unfold changeMode
  split
  · rfl
  · dsimp only
    rw [grantPass_still]
    split
    · exact ((setReleases_still _ _ _).trans (emptyQueue_still _ _ _)).trans freed
    · exact ((forAll_still (fun n t => endSuspended_still n .mode none t) _ _).trans (closes_still _ _ _)).trans freed
    · exact ((emptyQueue_still _ _ _).trans (grantQueue_still _ _ _ _)).trans freed
    · exact freed

theorem applyFloorSet_still (f : Floor) (a : FloorSettingsArg) (s : State) :
    (applyFloorSet f a s).still =
      (s.modFloor f (fun r => { r with settings := a.write (s.floor f).settings })).still := by
  have judged (old new : FloorSettings) (t : State) : (judgeReleases f old new t).still = t.still := by
    unfold judgeReleases
    split
    · exact closes_still _ _ t
    · rfl
  unfold applyFloorSet
  dsimp only
  rw [grantPass_still, judged, closeOverLimit, closes_still, changeMode_still]

/-! ## What a meeting's end does to the floors and the seats -/

theorem endMeeting_floor_same (f : Floor) (o : Outcome) (s : State) :
    (endMeeting f o s).floor f =
      { s.floor f with queue := [], grantOrder := [], stack := [], susp := [], meeting := Reset.meeting } := by
  obtain ⟨w, hw, hd⟩ := disbanded_core f o s
  rw [endMeeting_floor, floor_of_core hd, unseated_floor, floor_of_core hw, floor_of_core (releaseFloor_core f s),
    clearedFloor, State.floor_modFloor_same, floor_forAll_modSeat]

theorem endMeeting_floor_ne {f e : Floor} (h : e ≠ f) (o : Outcome) (s : State) :
    (endMeeting f o s).floor e = s.floor e := by
  obtain ⟨w, hw, hd⟩ := disbanded_core f o s
  have disbanded : (disbanded f o s).floor e = s.floor e := by
    rw [floor_of_core hd, unseated_floor, floor_of_core hw, floor_of_core (releaseFloor_core f s), clearedFloor,
      State.floor_modFloor_ne h, floor_forAll_modSeat]
  rw [floor_of_core (endMeeting_core f o s), State.modMeeting, State.floor_modFloor_ne h]
  split <;> exact disbanded

/-! ## The settings stay within their ranges -/

theorem clampNat_mem {lo hi : Nat} (h : lo ≤ hi) (n : Nat) : lo ≤ clampNat lo hi n ∧ clampNat lo hi n ≤ hi := by
  unfold clampNat
  omega

theorem clampInt_mem {lo hi : Int} (h : lo ≤ hi) (n : Int) : lo ≤ clampInt lo hi n ∧ clampInt lo hi n ≤ hi := by
  unfold clampInt
  omega

/-- A setting that is written through a function with values in a range stays in it. -/
theorem write_mem {α β : Type} {p : β → Prop} (m : Mark α) {f : α → β} (hf : ∀ a, p (f a)) {old : β} (h : p old) :
    p (m.write f old) := by
  cases m with
  | given a => exact hf a
  | absent => exact h
  | bad => exact h

theorem clampGain_within (g : Gain) : Gain.within (-60) 0 (clampGain (-60) 0 g) := by
  cases g with
  | mute => trivial
  | db x => exact clampInt_mem (by decide) x

theorem clampTurnLimit_mem (n : Nat) :
    clampTurnLimit n = 0 ∨ 10 ≤ clampTurnLimit n ∧ clampTurnLimit n ≤ 3600 := by
  unfold clampTurnLimit
  split
  · exact Or.inl rfl
  · exact Or.inr (clampNat_mem (by decide) n)

theorem floorSettings_write_inRange (a : FloorSettingsArg) {o : FloorSettings} (h : o.inRange) :
    (a.write o).inRange := by
  obtain ⟨hopen, hturn, hwarn, hvoice, hidle⟩ := h
  exact ⟨write_mem (p := fun n => 1 ≤ n ∧ n ≤ 8) _ (clampNat_mem (by decide)) hopen,
    write_mem (p := fun n => n = 0 ∨ 10 ≤ n ∧ n ≤ 3600) _ clampTurnLimit_mem hturn,
    write_mem (p := fun n => n ≤ 120) _ (fun n => (clampNat_mem (by decide) n).2) hwarn,
    write_mem (p := fun n => 1 ≤ n ∧ n ≤ 30) _ (clampNat_mem (by decide)) hvoice,
    write_mem (p := fun n => 10 ≤ n ∧ n ≤ 60) _ (clampNat_mem (by decide)) hidle⟩

theorem gateSettings_write_inRange (a : GateSettingsArg) {o : GateSettings} (h : o.inRange) : (a.write o).inRange := by
  obtain ⟨hopen, -, hclose, hlo, hhi⟩ := h
  have opened : a.openBand.write (clampNat 0 22) o.openBand ≤ 22 :=
    write_mem (p := fun n => n ≤ 22) _ (fun n => (clampNat_mem (by decide) n).2) hopen
  have closed : a.closeBand.write (clampNat 1 23) o.closeBand ≤ 23 :=
    write_mem (p := fun n => n ≤ 23) _ (fun n => (clampNat_mem (by decide) n).2) hclose
  have hang := write_mem (p := fun n => 100 ≤ n ∧ n ≤ 2000) a.hangTime (clampNat_mem (by decide)) ⟨hlo, hhi⟩
  unfold GateSettings.inRange GateSettingsArg.write
  dsimp only
  refine ⟨opened, ?_, ?_, hang⟩ <;> split <;> omega

theorem mixSettings_write_inRange (a : MixSettingsArg) {o : MixSettings} (h : o.inRange) : (a.write o).inRange := by
  obtain ⟨hgate, hprio, hprox, htalk, hlo, hhi⟩ := h
  exact ⟨write_mem _ clampGain_within hgate, write_mem _ clampGain_within hprio, write_mem _ clampGain_within hprox,
    write_mem _ clampGain_within htalk,
    write_mem (p := fun x : Int => -80 ≤ x ∧ x ≤ 0) _ (clampInt_mem (by decide)) ⟨hlo, hhi⟩⟩

theorem profile_write_inRange (a : ProfileSetArg) {p : Profile} (h : p.inRange) : (p.write a).inRange :=
  ⟨floorSettings_write_inRange a.floor h.1, gateSettings_write_inRange a.gate h.2.1,
    mixSettings_write_inRange a.mix h.2.2.1,
    write_mem (p := fun n => n ≤ 30) _ (fun n => (clampNat_mem (by decide) n).2) h.2.2.2⟩

theorem settingsInRange_iff (s : State) :
    SettingsInRange s ↔ (∀ f, (s.floor f).inRange) ∧ ∀ p ∈ s.profiles, p.inRange := by
  refine ⟨fun ⟨hA, hB, hp⟩ => ⟨fun f => ?_, hp⟩, fun ⟨hf, hp⟩ => ⟨hf .A, hf .B, hp⟩⟩
  cases f
  · exact hA
  · exact hB

/-- A profile that is read is in range, as is the value that a missing one reads as. -/
theorem profile_inRange {s : State} (h : SettingsInRange s) (k : Nat) : (s.profile k).inRange := by
  unfold State.profile
  rw [List.getD_eq_getElem?_getD]
  cases hk : s.profiles[k]? with
  | none => exact reset_profile_inRange
  | some p => exact h.2.2 p (List.mem_of_getElem? hk)

/-- States whose floors have settings in range where they have, and the profiles. -/
theorem settingsInRange_of {s t : State} (hf : ∀ f, (s.floor f).inRange → (t.floor f).inRange)
    (hp : t.profiles = s.profiles) (h : SettingsInRange s) : SettingsInRange t := by
  rw [settingsInRange_iff] at h ⊢
  rw [hp]
  exact ⟨fun f => hf f (h.1 f), h.2⟩

theorem settingsInRange_of_still {s t : State} (h : t.still = s.still) (hs : SettingsInRange s) : SettingsInRange t := by
  have profiles : t.profiles = s.profiles := (congrArg State.profiles h :)
  refine settingsInRange_of (fun f hf => ?_) profiles hs
  have range : (t.floor f).inRange = (s.floor f).inRange := (congrArg FloorRec.inRange (floor_still h f) :)
  rwa [range]

/-- One floor's record changes, in range. -/
theorem settingsInRange_modFloor (f : Floor) {g : FloorRec → FloorRec} (hg : ∀ r : FloorRec, r.inRange → (g r).inRange)
    {s : State} (h : SettingsInRange s) : SettingsInRange (s.modFloor f g) := by
  refine settingsInRange_of (fun e he => ?_) (State.modFloor_profiles f g s) h
  by_cases hef : e = f
  · subst hef
    rw [State.floor_modFloor_same]
    exact hg _ he
  · rwa [State.floor_modFloor_ne hef]

theorem endMeeting_profiles (f : Floor) (o : Outcome) (s : State) : (endMeeting f o s).profiles = s.profiles := by
  have unseated_profiles (l : List Nat) (w : State) : (unseated l w).profiles = w.profiles := by
    unfold unseated
    rw [forAll_keeps (·.profiles) _ (fun n t => State.modSeat_profiles n _ t),
      forAll_keeps (·.profiles) _ (fun n t => State.modPlate_profiles n _ t),
      forAll_keeps (·.profiles) _ (fun n t => State.modSeat_profiles n _ t)]
  have of_core {s t : State} (h : t.core = s.core) : t.profiles = s.profiles := (congrArg State.profiles h :)
  obtain ⟨w, hw, hd⟩ := disbanded_core f o s
  have disbanded : (disbanded f o s).profiles = s.profiles := by
    rw [of_core hd, unseated_profiles, of_core hw, of_core (releaseFloor_core f s), clearedFloor,
      State.modFloor_profiles]
    exact forAll_keeps (·.profiles) _ (fun n t => State.modSeat_profiles n _ t) _ s
  rw [of_core (endMeeting_core f o s), State.modMeeting, State.modFloor_profiles]
  split <;> exact disbanded

theorem settingsInRange_of_ledger {s t : State} (h : t.ledger = s.ledger) (hs : SettingsInRange s) :
    SettingsInRange t := by
  refine settingsInRange_of (fun f hf => ?_) (profiles_of_ledger h) hs
  have range : (t.floor f).inRange = (s.floor f).inRange := (congrArg FloorRec.inRange (floor_ledger h f) :)
  rwa [range]

theorem settingsInRange_trunkFrame : TrunkFrame SettingsInRange :=
  .of_still settingsInRange_of_ledger settingsInRange_of_still

theorem settingsInRange_meetingFrame : MeetingFrame SettingsInRange where
  toTrunkFrame := settingsInRange_trunkFrame
  request n {s} _ _ _ := settingsInRange_of_still (request_still n s)
  dequeue n c sub {s} _ := settingsInRange_of_still (dequeue_still n c sub s)
  close n c sub {s} _ := settingsInRange_of_still (close_still n c sub s)
  endSuspended n c sub {s} _ := settingsInRange_of_still (endSuspended_still n c sub s)
  grantPass f {s} := settingsInRange_of_still (grantPass_still f s)
  priorityPress n {s} _ := settingsInRange_of_still (priorityPress_still n s)
  nextPress n {s} := settingsInRange_of_still (nextPress_still n s)
  roles f g {s} _ := settingsInRange_of (fun e he => by rwa [writeRoles_floor])
    (writeRoles_keeps State.profiles (fun n f t => State.modSeat_profiles n f t) report_profiles _ g s)
  profile f k {s} _ hs := settingsInRange_modFloor f
    (fun _ _ => ⟨(profile_inRange hs k).1, (profile_inRange hs k).2.1, (profile_inRange hs k).2.2.1⟩) hs
  meeting f m {s} _ hs := by
    refine settingsInRange_modFloor f (fun r hr => ?_) hs
    exact hr
  endMeeting f o {s} := settingsInRange_of (fun e he => by
    by_cases hef : e = f
    · subst hef
      rw [endMeeting_floor_same]
      exact he
    · rwa [endMeeting_floor_ne hef]) (endMeeting_profiles f o s)

theorem settingsInRange_warm {s : State} (h : SettingsInRange s) : SettingsInRange (warmState s) :=
  ⟨floorReset_inRange _ (profile_inRange h 0), floorReset_inRange _ (profile_inRange h 0), h.2.2⟩

theorem settingsInRange_stepFrame : StepFrame SettingsInRange where
  toMeetingFrame := settingsInRange_meetingFrame
  partition x {s} _ := settingsInRange_of (s := s) (fun _ hf => hf) rfl
  side n x {s} _ _ := settingsInRange_of (fun f hf => by rwa [State.floor_modSeat]) (State.modSeat_profiles n _ s)
  floorSet f a {s} hs := by
    refine settingsInRange_of_still (applyFloorSet_still f a s) (settingsInRange_modFloor f (fun r hr => ?_) hs)
    exact ⟨floorSettings_write_inRange a (((settingsInRange_iff s).mp hs).1 f).1, hr.2⟩
  gateSet f a {s} hs := by
    refine settingsInRange_modFloor f (fun r hr => ?_) hs
    exact ⟨hr.1, gateSettings_write_inRange a hr.2.1, hr.2.2⟩
  mixSet f a {s} hs := by
    refine settingsInRange_modFloor f (fun r hr => ?_) hs
    exact ⟨hr.1, hr.2.1, mixSettings_write_inRange a hr.2.2⟩
  profileSet a {s} hs := by
    refine ⟨hs.1, hs.2.1, fun p hp => ?_⟩
    obtain ⟨k, hk, rfl⟩ := List.mem_iff_getElem.mp hp
    rw [List.getElem_modify]
    have old := hs.2.2 _ (List.getElem_mem (by simpa using hk))
    split
    · exact profile_write_inRange a old
    · exact old
  grant f n c {s} _ _ := settingsInRange_of_still (grant_still n c s)
  emptyQueue f c {s} := settingsInRange_of_still (emptyQueue_still f c s)
  endAllEntries why f {s} := settingsInRange_of_still (endAllEntries_still why f s)
  edit n role d {s} hs := settingsInRange_of_still (editConsequences_still n _ role _)
    (settingsInRange_of (fun f hf => by rwa [State.floor_modSeat]) (State.modSeat_profiles n _ s) hs)
  warm := settingsInRange_warm
  reset := reset_settingsInRange

/-- Settles O55: the floor controllers write no setting, and what writes one clamps it or takes it from a profile. -/
theorem everyStepKeepsTheSettingsInRange : Obligations.EveryStepKeepsTheSettingsInRange :=
  fun _ _ hs ht => settingsInRange_stepFrame.step_preserves hs ht

end Sys2Proof.Machine

namespace Sys2Proof.Machine

/-! ## The place of a seat in its floor's lists (02 R18, R19; 03 R47, R55) -/

/-- How often a floor's four lists name a seat. -/
def FloorRec.placesOf (r : FloorRec) (n : Nat) : Nat × Nat × Nat × Nat :=
  (r.queue.count n, r.grantOrder.count n, (r.susp.map (·.seat)).count n, (r.stack.map (·.holder)).count n)

/-- How often they name a seat of a floor state. -/
def FloorState.places : FloorState → Nat × Nat × Nat × Nat
  | .idle => (0, 0, 0, 0)
  | .queued => (1, 0, 0, 0)
  | .speaking => (0, 1, 0, 0)
  | .suspended => (0, 0, 1, 0)
  | .priority | .priorityWait => (0, 0, 0, 1)

theorem standsOnce_iff (s : State) (n : Nat) :
    s.standsOnce n ↔ (s.floor (s.seatFloor n)).placesOf n = (s.seat n).floorState.places := by
  unfold State.standsOnce FloorRec.placesOf
  cases (s.seat n).floorState <;> simp [FloorState.places]

/-- A list without a seat names the others as often as before. -/
theorem count_without (l : List Nat) (n m : Nat) : (l.filter (· != n)).count m = if m = n then 0 else l.count m := by
  split
  · next h => simp [h, List.count_eq_zero]
  · next h => rw [List.count_filter (by simpa using h)]

theorem map_seat_without (l : List SuspEntry) (n : Nat) :
    (l.filter (·.seat != n)).map (·.seat) = (l.map (·.seat)).filter (· != n) := by
  rw [List.filter_map]
  rfl

/-- Seat `n` is of floor `f`. -/
def State.owns (s : State) (f : Floor) (n : Nat) : Prop := n ∈ allSeats ∧ s.seatFloor n = f

def State.standing (s : State) (n : Nat) : FloorState := (s.seat n).floorState

def State.chairSeat (s : State) (n : Nat) : Bool := (s.seat n).role.isChair

/-- What the laws of 02 R17 to R19 and 03 R46 to R55 say of one floor's record, given the seats of the floor, their floor
states and which of them are chair seats. `b` tells whether the laws about the seats' places are claimed with those about
the lists alone, `lim` whether the open-mic limit is, `owed` whether a settlement is still to come. -/
structure FloorFits (b : Bool) (lim owed : Prop) (own : Nat → Prop) (st : Nat → FloorState) (chair : Nat → Bool)
    (r : FloorRec) : Prop where
  owned : ∀ n ∈ r.named, own n
  closed : r.meeting.state.live = false → r.named = []
  stack : r.stack.length ≤ 2
  limit : lim → r.grantOrder.length ≤ r.settings.openMicLimit
  once : b = true → ∀ n, own n → r.placesOf n = (st n).places
  settled : b = true → ¬ owed → r.stack = [] → r.susp = []
  silent : b = true → r.stack ≠ [] → r.grantOrder = []
  top : b = true → ∀ e rest, r.stack = e :: rest →
    st e.holder = .priority ∧ ∀ x ∈ rest, st x.holder = .priorityWait
  queue : b = true → ∀ n ∈ r.queue, chair n = false

theorem not_mem_named_iff (r : FloorRec) (n : Nat) : n ∉ r.named ↔ r.placesOf n = (0, 0, 0, 0) := by
  simp only [FloorRec.mem_named, FloorRec.placesOf, Prod.mk.injEq, List.count_eq_zero, not_or]

theorem mem_named_of_queue {r : FloorRec} {n : Nat} (h : n ∈ r.queue) : n ∈ r.named :=
  (FloorRec.mem_named r n).mpr (Or.inl h)

theorem mem_named_of_grantOrder {r : FloorRec} {n : Nat} (h : n ∈ r.grantOrder) : n ∈ r.named :=
  (FloorRec.mem_named r n).mpr (Or.inr (Or.inl h))

theorem mem_named_of_susp {r : FloorRec} {e : SuspEntry} (h : e ∈ r.susp) : e.seat ∈ r.named :=
  (FloorRec.mem_named r _).mpr (Or.inr (Or.inr (Or.inl (List.mem_map_of_mem h))))

theorem mem_named_of_stack {r : FloorRec} {e : HoldEntry} (h : e ∈ r.stack) : e.holder ∈ r.named :=
  (FloorRec.mem_named r _).mpr (Or.inr (Or.inr (Or.inr (List.mem_map_of_mem h))))

/-- One more change of a seat's floor state. -/
def setState (st : Nat → FloorState) (n : Nat) (x : FloorState) : Nat → FloorState := fun m => if m = n then x else st m

theorem setState_same (st : Nat → FloorState) (n : Nat) (x : FloorState) : setState st n x n = x := if_pos rfl

theorem setState_ne {st : Nat → FloorState} {n m : Nat} (x : FloorState) (h : m ≠ n) : setState st n x m = st m := if_neg h

namespace FloorFits

variable {b : Bool} {lim owed : Prop} {own : Nat → Prop} {st : Nat → FloorState} {chair : Nat → Bool} {r : FloorRec}

section
variable (h : FloorFits b lim owed own st chair r)
include h

/-- The list that a seat of the floor stands in (02 R18, R19; 03 R47, R55). -/
theorem lists (hb : b = true) {n : Nat} (hn : own n) :
    (n ∈ r.queue ↔ st n = .queued) ∧ (n ∈ r.grantOrder ↔ st n = .speaking) ∧
    (n ∈ r.susp.map (·.seat) ↔ st n = .suspended) ∧
    (n ∈ r.stack.map (·.holder) ↔ st n = .priority ∨ st n = .priorityWait) := by
  have hp := h.once hb n hn
  simp only [FloorRec.placesOf] at hp
  simp only [← List.count_pos_iff]
  cases hst : st n <;> simp [hst, FloorState.places] at hp <;> simp [hp]

theorem queued_of_mem (hb : b = true) {n : Nat} (hn : n ∈ r.queue) : st n = .queued :=
  (h.lists hb (h.owned n (mem_named_of_queue hn))).1.mp hn

theorem speaking_of_mem (hb : b = true) {n : Nat} (hn : n ∈ r.grantOrder) : st n = .speaking :=
  (h.lists hb (h.owned n (mem_named_of_grantOrder hn))).2.1.mp hn

theorem suspended_of_mem (hb : b = true) {e : SuspEntry} (he : e ∈ r.susp) : st e.seat = .suspended :=
  (h.lists hb (h.owned _ (mem_named_of_susp he))).2.2.1.mp (List.mem_map_of_mem he)

theorem nodup_queue (hb : b = true) : r.queue.Nodup := by
  refine List.nodup_iff_count_le_one.mpr (fun n => ?_)
  by_cases hn : n ∈ r.queue
  · have hp := h.once hb n (h.owned n (mem_named_of_queue hn))
    rw [h.queued_of_mem hb hn] at hp
    exact ((Prod.ext_iff.mp hp).1).le
  · simp [List.count_eq_zero_of_not_mem hn]

theorem nodup_grantOrder (hb : b = true) : r.grantOrder.Nodup := by
  refine List.nodup_iff_count_le_one.mpr (fun n => ?_)
  by_cases hn : n ∈ r.grantOrder
  · have hp := h.once hb n (h.owned n (mem_named_of_grantOrder hn))
    rw [h.speaking_of_mem hb hn] at hp
    exact ((Prod.ext_iff.mp (Prod.ext_iff.mp hp).2).1).le
  · simp [List.count_eq_zero_of_not_mem hn]

theorem nodup_susp (hb : b = true) : (r.susp.map (·.seat)).Nodup := by
  refine List.nodup_iff_count_le_one.mpr (fun n => ?_)
  by_cases hn : n ∈ r.susp.map (·.seat)
  · obtain ⟨e, he, rfl⟩ := List.mem_map.mp hn
    have hp := h.once hb _ (h.owned _ (mem_named_of_susp he))
    rw [h.suspended_of_mem hb he] at hp
    simp only [FloorRec.placesOf, FloorState.places, Prod.mk.injEq] at hp
    exact hp.2.2.1.le
  · simp [List.count_eq_zero_of_not_mem hn]

/-- A seat that is off the lists stands nowhere. -/
theorem places_zero (hb : b = true) {n : Nat} (hn : own n) (hst : st n = .idle) : r.placesOf n = (0, 0, 0, 0) := by
  rw [h.once hb n hn, hst]
  rfl

/-- A floor that is not LIVE has its seats IDLE. -/
theorem idle_of_closed (hb : b = true) (hl : r.meeting.state.live = false) {n : Nat} (hn : own n) : st n = .idle := by
  have hp : r.placesOf n = (0, 0, 0, 0) := (not_mem_named_iff r n).mp (by rw [h.closed hl]; exact List.not_mem_nil)
  rw [h.once hb n hn] at hp
  cases hst : st n <;> simp [hst, FloorState.places] at hp ⊢

/-- A floor that names a seat is LIVE. -/
theorem live_of_mem {n : Nat} (hn : n ∈ r.named) : r.meeting.state.live = true := by
  by_contra hl
  rw [h.closed (by simpa using hl)] at hn
  cases hn

/-- Only the floor's own seats are read, and of the roles those of queued seats. -/
theorem congr {own' : Nat → Prop} {st' : Nat → FloorState} {chair' : Nat → Bool} (ho : ∀ n, own' n ↔ own n)
    (hst : b = true → ∀ n, own n → st' n = st n) (hc : b = true → ∀ n ∈ r.queue, chair' n = chair n) :
    FloorFits b lim owed own' st' chair' r where
  owned n hn := (ho n).mpr (h.owned n hn)
  closed := h.closed
  stack := h.stack
  limit := h.limit
  once hb n hn := by
    rw [hst hb n ((ho n).mp hn)]
    exact h.once hb n ((ho n).mp hn)
  settled := h.settled
  silent := h.silent
  top hb e rest hr := by
    obtain ⟨he, hx⟩ := h.top hb e rest hr
    refine ⟨?_, fun x hm => ?_⟩
    · rw [hst hb _ (h.owned _ (mem_named_of_stack (by rw [hr]; exact List.mem_cons_self))), he]
    · rw [hst hb _ (h.owned _ (mem_named_of_stack (by rw [hr]; exact List.mem_cons_of_mem e hm))), hx x hm]
  queue hb n hn := by
    rw [hc hb n hn]
    exact h.queue hb n hn

/-- Less is claimed. -/
theorem weaken {lim' owed' : Prop} (hl : lim' → lim) (ho : owed → owed') : FloorFits b lim' owed' own st chair r :=
  { h with limit := fun hl' => h.limit (hl hl'), settled := fun hb hn => h.settled hb (fun hw => hn (ho hw)) }

/-- A record of the same settings, lists and meeting state. -/
theorem of_ledger {r' : FloorRec} (hr : r'.ledger = r.ledger) : FloorFits b lim owed own st chair r' := by
  have read (p : FloorRec) : FloorFits b lim owed own st chair p ↔ FloorFits b lim owed own st chair p.ledger :=
    ⟨fun h => ⟨h.owned, h.closed, h.stack, h.limit, h.once, h.settled, h.silent, h.top, h.queue⟩,
      fun h => ⟨h.owned, h.closed, h.stack, h.limit, h.once, h.settled, h.silent, h.top, h.queue⟩⟩
  rw [read, hr, ← read]
  exact h

/-- A seat that holds no entry leaves a list of the floor, or takes another state of the same place. -/
theorem leave {r' : FloorRec} {n : Nat} {x : FloorState} (hset : r'.settings = r.settings)
    (hm : r'.meeting = r.meeting) (hstack : r'.stack = r.stack) (hq : r'.queue ⊆ r.queue)
    (hg : r'.grantOrder.Sublist r.grantOrder) (hs : r'.susp ⊆ r.susp)
    (hother : ∀ m, m ≠ n → r'.placesOf m = r.placesOf m)
    (hn : b = true → own n → r'.placesOf n = x.places)
    (hhold : b = true → n ∉ r.stack.map (·.holder)) : FloorFits b lim owed own (setState st n x) chair r' where
  owned m hmem := by
    refine h.owned m ?_
    rw [FloorRec.mem_named] at hmem ⊢
    refine hmem.imp (fun hm => hq hm) (Or.imp (fun hm => hg.subset hm) (Or.imp (fun hm => ?_) (fun hm => hstack ▸ hm)))
    obtain ⟨e, he, rfl⟩ := List.mem_map.mp hm
    exact List.mem_map_of_mem (hs he)
  closed hl := by
    rw [hm] at hl
    obtain ⟨⟨⟨h1, h2⟩, h3⟩, h4⟩ : ((r.queue = [] ∧ r.grantOrder = []) ∧ r.susp.map (·.seat) = []) ∧
        r.stack.map (·.holder) = [] := by
      simpa [FloorRec.named, List.append_eq_nil_iff, and_assoc] using h.closed hl
    have h3 : r.susp = [] := List.map_eq_nil_iff.mp h3
    have q : r'.queue = [] := List.subset_nil.mp (h1 ▸ hq)
    have g : r'.grantOrder = [] := List.sublist_nil.mp (h2 ▸ hg)
    have s : r'.susp = [] := List.subset_nil.mp (h3 ▸ hs)
    simp [FloorRec.named, q, g, s, hstack, h4]
  stack := hstack ▸ h.stack
  limit hlim := hset ▸ hg.length_le.trans (h.limit hlim)
  once hb m hm := by
    by_cases hmn : m = n
    · subst hmn
      rw [setState_same, hn hb hm]
    · rw [setState_ne x hmn, hother m hmn]
      exact h.once hb m hm
  settled hb ho hr := List.subset_nil.mp (h.settled hb ho (hstack ▸ hr) ▸ hs)
  silent hb hr := List.sublist_nil.mp (h.silent hb (hstack ▸ hr) ▸ hg)
  top hb e rest hr := by
    rw [hstack] at hr
    have other (y : HoldEntry) (hy : y ∈ r.stack) : y.holder ≠ n := fun hyn =>
      hhold hb (hyn ▸ List.mem_map_of_mem hy)
    obtain ⟨he, hx⟩ := h.top hb e rest hr
    refine ⟨?_, fun y hy => ?_⟩
    · rw [setState_ne x (other e (hr ▸ List.mem_cons_self)), he]
    · rw [setState_ne x (other y (hr ▸ List.mem_cons_of_mem e hy)), hx y hy]
  queue hb m hmem := h.queue hb m (hq hmem)

end

end FloorFits

end Sys2Proof.Machine

namespace Sys2Proof.Machine

theorem places_inj_idle {x : FloorState} (h : x.places = (0, 0, 0, 0)) : x = .idle := by
  cases x <;> simp [FloorState.places] at h ⊢

namespace FloorFits

variable {b : Bool} {lim owed : Prop} {own : Nat → Prop} {st : Nat → FloorState} {chair : Nat → Bool} {r : FloorRec}

section
variable (h : FloorFits b lim owed own st chair r)
include h

/-- A QUEUED seat leaves the queue. -/
theorem leaveQueue {n : Nat} (hn : b = true → own n ∧ st n = .queued) :
    FloorFits b lim owed own (setState st n .idle) chair { r with queue := r.queue.filter (· != n) } := by
  have standing (hb : b = true) : r.placesOf n = (1, 0, 0, 0) := by
    rw [h.once hb n (hn hb).1, (hn hb).2]
    rfl
  refine h.leave rfl rfl rfl List.filter_sublist.subset (List.Sublist.refl _) (List.Subset.refl _) (fun m hm => ?_)
    (fun hb _ => ?_) (fun hb => ?_)
  · simp only [FloorRec.placesOf, count_without, if_neg hm]
  · have hp := standing hb
    simp only [FloorRec.placesOf, Prod.mk.injEq] at hp
    simp only [FloorRec.placesOf, count_without, if_pos, hp.2, FloorState.places]
  · rw [(h.lists hb (hn hb).1).2.2.2, (hn hb).2]
    simp

/-- A SPEAKING seat leaves the grant order. -/
theorem leaveOrder {n : Nat} (hn : b = true → own n ∧ st n = .speaking) :
    FloorFits b lim owed own (setState st n .idle) chair { r with grantOrder := r.grantOrder.filter (· != n) } := by
  have standing (hb : b = true) : r.placesOf n = (0, 1, 0, 0) := by
    rw [h.once hb n (hn hb).1, (hn hb).2]
    rfl
  refine h.leave rfl rfl rfl (List.Subset.refl _) List.filter_sublist (List.Subset.refl _) (fun m hm => ?_)
    (fun hb _ => ?_) (fun hb => ?_)
  · simp only [FloorRec.placesOf, count_without, if_neg hm]
  · have hp := standing hb
    simp only [FloorRec.placesOf, Prod.mk.injEq] at hp
    simp only [FloorRec.placesOf, count_without, if_pos, hp.1, hp.2.2, FloorState.places]
  · rw [(h.lists hb (hn hb).1).2.2.2, (hn hb).2]
    simp

/-- A SUSPENDED seat leaves the suspension list. -/
theorem leaveSusp {n : Nat} (hn : b = true → own n ∧ st n = .suspended) :
    FloorFits b lim owed own (setState st n .idle) chair { r with susp := r.susp.filter (·.seat != n) } := by
  have standing (hb : b = true) : r.placesOf n = (0, 0, 1, 0) := by
    rw [h.once hb n (hn hb).1, (hn hb).2]
    rfl
  refine h.leave rfl rfl rfl (List.Subset.refl _) (List.Sublist.refl _) List.filter_sublist.subset (fun m hm => ?_)
    (fun hb _ => ?_) (fun hb => ?_)
  · simp only [FloorRec.placesOf, map_seat_without, count_without, if_neg hm]
  · have hp := standing hb
    simp only [FloorRec.placesOf, Prod.mk.injEq] at hp
    simp only [FloorRec.placesOf, map_seat_without, count_without, if_pos, hp.1, hp.2.1, hp.2.2.2, FloorState.places]
  · rw [(h.lists hb (hn hb).1).2.2.2, (hn hb).2]
    simp

/-- A seat that is off the lists takes another state of no place. -/
theorem stayOff {n : Nat} (hn : b = true → own n ∧ st n = .idle) :
    FloorFits b lim owed own (setState st n .idle) chair r := by
  refine h.congr (fun _ => Iff.rfl) (fun hb m _ => ?_) (fun _ _ _ => rfl)
  by_cases hm : m = n
  · rw [hm, setState_same, (hn hb).2]
  · exact setState_ne _ hm

/-- A seat joins the grant order of a floor with an empty stack and a place free (02 R19, R32; 03 R54). -/
theorem speak {r' : FloorRec} {n : Nat} (hn : own n) (hl : r.meeting.state.live = true) (hset : r'.settings = r.settings)
    (hm : r'.meeting.state = r.meeting.state) (hstack : r.stack = []) (hstack' : r'.stack = [])
    (hq : r'.queue ⊆ r.queue) (hg : r'.grantOrder = r.grantOrder ++ [n]) (hs : r'.susp ⊆ r.susp)
    (hlen : r.grantOrder.length < r.settings.openMicLimit)
    (hother : ∀ m, m ≠ n → r'.placesOf m = r.placesOf m)
    (hp : b = true → r'.placesOf n = FloorState.speaking.places) :
    FloorFits b lim owed own (setState st n .speaking) chair r' where
  owned m hmem := by
    rw [FloorRec.mem_named, hg, hstack', List.mem_append, List.mem_singleton] at hmem
    rcases hmem with hmem | (hmem | rfl) | hmem | hmem
    · exact h.owned m (mem_named_of_queue (hq hmem))
    · exact h.owned m (mem_named_of_grantOrder hmem)
    · exact hn
    · obtain ⟨e, he, rfl⟩ := List.mem_map.mp hmem
      exact h.owned _ (mem_named_of_susp (hs he))
    · cases hmem
  closed hl' := by rw [hm, hl] at hl'; cases hl'
  stack := by rw [hstack']; exact Nat.zero_le 2
  limit _ := by
    rw [hg, hset, List.length_append]
    exact hlen
  once hb m hmem := by
    by_cases hmn : m = n
    · subst hmn
      rw [setState_same, hp hb]
    · rw [setState_ne _ hmn, hother m hmn]
      exact h.once hb m hmem
  settled hb ho _ := List.subset_nil.mp (h.settled hb ho hstack ▸ hs)
  silent _ hr := absurd hstack' hr
  top _ e rest hr := by rw [hstack'] at hr; cases hr
  queue hb m hmem := h.queue hb m (hq hmem)

/-- An IDLE or a QUEUED seat is granted (02 R32). -/
theorem grant {n : Nat} (hn : own n) (hl : r.meeting.state.live = true) (hstack : r.stack = [])
    (hlen : r.grantOrder.length < r.settings.openMicLimit) (hst : b = true → st n = .idle ∨ st n = .queued) :
    FloorFits b lim owed own (setState st n .speaking) chair
      { r with queue := r.queue.filter (· != n), grantOrder := r.grantOrder ++ [n], meeting := r.meeting.restIdle } := by
  refine h.speak hn hl rfl rfl hstack hstack List.filter_sublist.subset rfl (List.Subset.refl _) hlen (fun m hm => ?_)
    (fun hb => ?_)
  · simp only [FloorRec.placesOf, count_without, if_neg hm, List.count_append, List.count_singleton]
    simp [Ne.symm hm]
  · have off : r.grantOrder.count n = 0 ∧ (r.susp.map (·.seat)).count n = 0 ∧ (r.stack.map (·.holder)).count n = 0 := by
      have hp := h.once hb n hn
      rcases hst hb with hst | hst <;>
        simpa [hst, FloorRec.placesOf, FloorState.places] using (Prod.ext_iff.mp hp).2
    simp only [FloorRec.placesOf, count_without, if_pos, List.count_append, List.count_singleton_self, off,
      FloorState.places, Nat.zero_add]

/-- A SUSPENDED seat is resumed (03 R54). -/
theorem resume {n : Nat} (hn : own n) (hl : r.meeting.state.live = true) (hstack : r.stack = [])
    (hlen : r.grantOrder.length < r.settings.openMicLimit) (hst : b = true → st n = .suspended) :
    FloorFits b lim owed own (setState st n .speaking) chair
      { r with susp := r.susp.filter (·.seat != n), grantOrder := r.grantOrder ++ [n], meeting := r.meeting.restIdle } := by
  refine h.speak hn hl rfl rfl hstack hstack (List.Subset.refl _) rfl List.filter_sublist.subset hlen (fun m hm => ?_)
    (fun hb => ?_)
  · simp only [FloorRec.placesOf, map_seat_without, count_without, if_neg hm, List.count_append, List.count_singleton]
    simp [Ne.symm hm]
  · have hp := h.once hb n hn
    simp only [FloorRec.placesOf, hst hb, FloorState.places, Prod.mk.injEq] at hp
    simp only [FloorRec.placesOf, map_seat_without, count_without, if_pos, List.count_append,
      List.count_singleton_self, hp.1, hp.2.1, hp.2.2.2, FloorState.places, Nat.zero_add]

/-- An IDLE seat that is no chair seat joins the queue (02 R29, R30). -/
theorem join {n : Nat} (hn : own n) (hl : r.meeting.state.live = true) (hst : b = true → st n = .idle)
    (hc : b = true → chair n = false) :
    FloorFits b lim owed own (setState st n .queued) chair { r with queue := r.queue ++ [n] } where
  owned m hmem := by
    rw [FloorRec.mem_named] at hmem
    simp only [List.mem_append, List.mem_singleton] at hmem
    rcases hmem with (hmem | rfl) | hmem
    · exact h.owned m (mem_named_of_queue hmem)
    · exact hn
    · exact h.owned m ((FloorRec.mem_named r m).mpr (Or.inr hmem))
  closed hl' := by rw [hl] at hl'; cases hl'
  stack := h.stack
  limit := h.limit
  once hb m hmem := by
    by_cases hmn : m = n
    · subst hmn
      have hp := h.places_zero hb hn (hst hb)
      simp only [FloorRec.placesOf, Prod.mk.injEq] at hp
      rw [setState_same]
      simp [FloorRec.placesOf, List.count_append, hp, FloorState.places]
    · rw [setState_ne _ hmn, ← h.once hb m hmem]
      simp [FloorRec.placesOf, List.count_append, Ne.symm hmn]
  settled := h.settled
  silent := h.silent
  top hb e rest hr := by
    have other (y : HoldEntry) (hy : y ∈ r.stack) : y.holder ≠ n := by
      rintro rfl
      have := (h.lists hb hn).2.2.2.mp (List.mem_map_of_mem hy)
      simp [hst hb] at this
    have hr : r.stack = e :: rest := hr
    obtain ⟨he, hx⟩ := h.top hb e rest hr
    refine ⟨?_, fun y hy => ?_⟩
    · rw [setState_ne _ (other e (hr ▸ List.mem_cons_self)), he]
    · rw [setState_ne _ (other y (hr ▸ List.mem_cons_of_mem e hy)), hx y hy]
  queue hb m hmem := by
    rcases List.mem_append.mp hmem with hmem | hmem
    · exact h.queue hb m hmem
    · rw [List.mem_singleton.mp hmem, hc hb]

end

end FloorFits

end Sys2Proof.Machine

namespace Sys2Proof.Machine

namespace FloorFits

variable {b : Bool} {lim owed : Prop} {own : Nat → Prop} {st : Nat → FloorState} {chair : Nat → Bool} {r : FloorRec}


section
variable (h : FloorFits b lim owed own st chair r)
include h

/-- A seat that holds an entry is in no list of seats; one that is IDLE is in no list at all. -/
theorem counts_of_holder (hb : b = true) {n : Nat} (hn : own n) (hst : (st n).places = (0, 0, 0, 1)) :
    r.queue.count n = 0 ∧ r.grantOrder.count n = 0 ∧ (r.susp.map (·.seat)).count n = 0 := by
  have hp := h.once hb n hn
  rw [hst] at hp
  simp only [FloorRec.placesOf, Prod.mk.injEq] at hp
  exact ⟨hp.1, hp.2.1, hp.2.2.1⟩

/-- The stack becomes another, and with it the floor states of those who hold or held an entry (03 R47). -/
theorem restack {l : List HoldEntry} {owed' : Prop} {st' : Nat → FloorState} (hl : l.length ≤ 2)
    (hown : ∀ e ∈ l, own e.holder) (hlive : l ≠ [] → r.meeting.state.live = true)
    (hplaces : b = true → ∀ n, own n →
      (st' n = st n ∧ (l.map (·.holder)).count n = (r.stack.map (·.holder)).count n) ∨
      ((st n = .idle ∨ (st n).places = (0, 0, 0, 1)) ∧ (st' n).places = (0, 0, 0, (l.map (·.holder)).count n)))
    (hset : b = true → ¬ owed' → l = [] → r.susp = []) (hsil : b = true → l ≠ [] → r.grantOrder = [])
    (htop : b = true → ∀ e rest, l = e :: rest →
      st' e.holder = .priority ∧ ∀ x ∈ rest, st' x.holder = .priorityWait) :
    FloorFits b lim owed' own st' chair { r with stack := l } where
  owned n hn := by
    rw [FloorRec.mem_named] at hn
    rcases hn with hn | hn | hn | hn
    · exact h.owned n (mem_named_of_queue hn)
    · exact h.owned n (mem_named_of_grantOrder hn)
    · exact h.owned n ((FloorRec.mem_named r n).mpr (Or.inr (Or.inr (Or.inl hn))))
    · obtain ⟨e, he, rfl⟩ := List.mem_map.mp hn
      exact hown e he
  closed hc := by
    have hc : r.meeting.state.live = false := hc
    have hl : l = [] := by
      by_contra hl
      rw [hlive hl] at hc
      cases hc
    have hnone := h.closed hc
    simp only [FloorRec.named, List.append_eq_nil_iff] at hnone
    simp [FloorRec.named, hnone, hl]
  stack := hl
  limit := h.limit
  once hb n hn := by
    rcases hplaces hb n hn with ⟨hst, hcount⟩ | ⟨hst, hp⟩
    · rw [hst, ← h.once hb n hn]
      simp only [FloorRec.placesOf, hcount]
    · have off : r.queue.count n = 0 ∧ r.grantOrder.count n = 0 ∧ (r.susp.map (·.seat)).count n = 0 := by
        rcases hst with hst | hst
        · have hz := h.places_zero hb hn hst
          simp only [FloorRec.placesOf, Prod.mk.injEq] at hz
          exact ⟨hz.1, hz.2.1, hz.2.2.1⟩
        · exact h.counts_of_holder hb hn hst
      rw [hp]
      simp only [FloorRec.placesOf, off]
  settled := hset
  silent := hsil
  top := htop
  queue := h.queue

/-- Every entry ends, and a settlement is to come (03 R54, R58). -/
theorem unstack {st' : Nat → FloorState} (hheld : b = true → ∀ n ∈ r.stack.map (·.holder), st' n = .idle)
    (hother : b = true → ∀ n, n ∉ r.stack.map (·.holder) → st' n = st n) :
    FloorFits b lim True own st' chair { r with stack := [] } := by
  refine h.restack (Nat.zero_le 2) (fun e he => by cases he) (fun hn => absurd rfl hn) (fun hb n hn => ?_)
    (fun _ ho => absurd trivial ho) (fun _ hn => absurd rfl hn) (fun _ e rest he => by cases he)
  by_cases hm : n ∈ r.stack.map (·.holder)
  · refine Or.inr ⟨Or.inr ?_, by rw [hheld hb n hm]; rfl⟩
    rcases (h.lists hb hn).2.2.2.mp hm with hst | hst <;> rw [hst] <;> rfl
  · exact Or.inl ⟨hother hb n hm, by rw [List.count_eq_zero_of_not_mem hm]; rfl⟩

/-- The two holders of a full stack. -/
theorem holders {e low : HoldEntry} {rest : List HoldEntry} (hr : r.stack = e :: low :: rest) :
    rest = [] ∧ own e.holder ∧ own low.holder ∧
      (b = true → st e.holder = .priority ∧ st low.holder = .priorityWait ∧ e.holder ≠ low.holder) := by
  refine ⟨?_, h.owned _ (mem_named_of_stack (by simp [hr])), h.owned _ (mem_named_of_stack (by simp [hr])), fun hb => ?_⟩
  · have := h.stack
    rw [hr, List.length_cons, List.length_cons] at this
    exact List.length_eq_zero_iff.mp (by omega)
  · obtain ⟨he, hx⟩ := h.top hb e _ hr
    have hlow := hx low List.mem_cons_self
    refine ⟨he, hlow, fun heq => ?_⟩
    rw [heq, hlow] at he
    cases he

/-- The top entry ends and the lower one is taken over (03 R53). -/
theorem takeOver {e low : HoldEntry} {rest : List HoldEntry} (hr : r.stack = e :: low :: rest) :
    FloorFits b lim owed own (setState (setState st e.holder .idle) low.holder .priority) chair
      { r with stack := [low] } := by
  obtain ⟨rfl, -, hlow, hb'⟩ := h.holders hr
  have hlive : r.meeting.state.live = true := h.live_of_mem (mem_named_of_stack (e := low) (by simp [hr]))
  refine h.restack (by simp) (fun x hx => by rw [List.mem_singleton.mp hx]; exact hlow) (fun _ => hlive)
    (fun hb n hn => ?_) (fun _ _ hn => by cases hn)
    (fun hb _ => h.silent hb (by rw [hr]; exact List.cons_ne_nil _ _)) (fun hb x xs hx => ?_)
  · obtain ⟨he, hw, hne⟩ := hb' hb
    by_cases hnl : n = low.holder
    · subst hnl
      refine Or.inr ⟨Or.inr (by rw [hw]; rfl), ?_⟩
      rw [setState_same]
      simp [FloorState.places]
    · rw [setState_ne _ hnl]
      by_cases hne' : n = e.holder
      · subst hne'
        refine Or.inr ⟨Or.inr (by rw [he]; rfl), ?_⟩
        rw [setState_same]
        simp [FloorState.places, Ne.symm hnl]
      · refine Or.inl ⟨setState_ne _ hne', ?_⟩
        simp [hr, Ne.symm hnl, Ne.symm hne']
  · cases hx
    exact ⟨setState_same _ _ _, fun y hy => by cases hy⟩

/-- The lower entry ends (03 R53). -/
theorem endLow {e low : HoldEntry} {rest : List HoldEntry} (hr : r.stack = e :: low :: rest) :
    FloorFits b lim owed own (setState st low.holder .idle) chair { r with stack := [e] } := by
  obtain ⟨rfl, howned, -, hb'⟩ := h.holders hr
  have hlive : r.meeting.state.live = true := h.live_of_mem (mem_named_of_stack (e := e) (by simp [hr]))
  refine h.restack (by simp) (fun x hx => by rw [List.mem_singleton.mp hx]; exact howned) (fun _ => hlive)
    (fun hb n hn => ?_) (fun _ _ hn => by cases hn)
    (fun hb _ => h.silent hb (by rw [hr]; exact List.cons_ne_nil _ _)) (fun hb x xs hx => ?_)
  · obtain ⟨he, hw, hne⟩ := hb' hb
    by_cases hnl : n = low.holder
    · subst hnl
      refine Or.inr ⟨Or.inr (by rw [hw]; rfl), ?_⟩
      rw [setState_same]
      simp [FloorState.places, hne]
    · refine Or.inl ⟨setState_ne _ hnl, ?_⟩
      simp [hr, List.count_cons, Ne.symm hnl]
  · cases hx
    obtain ⟨he, -, hne⟩ := hb' hb
    exact ⟨by rw [setState_ne _ hne, he], fun y hy => by cases hy⟩

/-- The CHAIR covers a VICE entry (03 R50). -/
theorem cover {e low : HoldEntry} (hr : r.stack = [low]) (hn : own e.holder) (hst : b = true → st e.holder = .idle) :
    FloorFits b lim owed own (setState (setState st low.holder .priorityWait) e.holder .priority) chair
      { r with stack := [e, low] } := by
  have hlow : own low.holder := h.owned _ (mem_named_of_stack (by simp [hr]))
  have hlive : r.meeting.state.live = true := h.live_of_mem (mem_named_of_stack (e := low) (by simp [hr]))
  have hprio (hb : b = true) : st low.holder = .priority := (h.top hb low [] hr).1
  have hne (hb : b = true) : low.holder ≠ e.holder := fun heq => by
    have hp := hprio hb
    rw [heq, hst hb] at hp
    cases hp
  refine h.restack (by simp) (fun x hx => ?_) (fun _ => hlive) (fun hb n hown => ?_) (fun _ _ hn => by cases hn)
    (fun hb _ => h.silent hb (by rw [hr]; exact List.cons_ne_nil _ _)) (fun hb x xs hx => ?_)
  · simp only [List.mem_cons, List.not_mem_nil, or_false] at hx
    rcases hx with rfl | rfl
    · exact hn
    · exact hlow
  · by_cases hne' : n = e.holder
    · subst hne'
      refine Or.inr ⟨Or.inl (hst hb), ?_⟩
      rw [setState_same]
      simp [FloorState.places, hne hb]
    · rw [setState_ne _ hne']
      by_cases hnl : n = low.holder
      · subst hnl
        refine Or.inr ⟨Or.inr (by rw [hprio hb]; rfl), ?_⟩
        rw [setState_same]
        simp [FloorState.places, Ne.symm hne']
      · refine Or.inl ⟨setState_ne _ hnl, ?_⟩
        simp [hr, Ne.symm hnl, Ne.symm hne']
  · cases hx
    refine ⟨setState_same _ _ _, fun y hy => ?_⟩
    rw [List.mem_singleton.mp hy, setState_ne _ (hne hb), setState_same]

/-- The VICE_CHAIR joins beneath a CHAIR entry (03 R51). -/
theorem beneath {top e : HoldEntry} (hr : r.stack = [top]) (hn : own e.holder) (hst : b = true → st e.holder = .idle) :
    FloorFits b lim owed own (setState st e.holder .priorityWait) chair { r with stack := [top, e] } := by
  have htop : own top.holder := h.owned _ (mem_named_of_stack (by simp [hr]))
  have hlive : r.meeting.state.live = true := h.live_of_mem (mem_named_of_stack (e := top) (by simp [hr]))
  have hprio (hb : b = true) : st top.holder = .priority := (h.top hb top [] hr).1
  have hne (hb : b = true) : top.holder ≠ e.holder := fun heq => by
    have hp := hprio hb
    rw [heq, hst hb] at hp
    cases hp
  refine h.restack (by simp) (fun x hx => ?_) (fun _ => hlive) (fun hb n hown => ?_) (fun _ _ hn => by cases hn)
    (fun hb _ => h.silent hb (by rw [hr]; exact List.cons_ne_nil _ _)) (fun hb x xs hx => ?_)
  · simp only [List.mem_cons, List.not_mem_nil, or_false] at hx
    rcases hx with rfl | rfl
    · exact htop
    · exact hn
  · by_cases hne' : n = e.holder
    · subst hne'
      refine Or.inr ⟨Or.inl (hst hb), ?_⟩
      rw [setState_same]
      simp [FloorState.places, hne hb]
    · refine Or.inl ⟨setState_ne _ hne', ?_⟩
      simp [hr, List.count_cons, Ne.symm hne']
  · cases hx
    refine ⟨by rw [setState_ne _ (hne hb), hprio hb], fun y hy => ?_⟩
    rw [List.mem_singleton.mp hy, setState_same]

/-- A hold starts: the speakers, the holder apart, are suspended (03 R49). -/
theorem start {n : Nat} {e : HoldEntry} {l : List SuspEntry} {st' : Nat → FloorState} (he : e.holder = n) (hn : own n)
    (hlive : r.meeting.state.live = true) (hr : r.stack = []) (ho : b = true → ¬ owed) (hc : b = true → chair n = true)
    (hl : l.map (·.seat) = r.grantOrder.filter (· != n))
    (hself : b = true → st' n = .priority)
    (hsusp : b = true → ∀ m ∈ r.grantOrder, m ≠ n → st' m = .suspended)
    (hrest : b = true → ∀ m, m ∉ r.grantOrder → m ≠ n → st' m = st m) :
    FloorFits b lim owed own st' chair
      { r with grantOrder := [], susp := l, stack := [e], meeting := r.meeting.restIdle } where
  owned m hm := by
    rw [FloorRec.mem_named, hl] at hm
    rcases hm with hm | hm | hm | hm
    · exact h.owned m (mem_named_of_queue hm)
    · cases hm
    · exact h.owned m (mem_named_of_grantOrder (List.mem_filter.mp hm).1)
    · have hm : m = e.holder := List.mem_singleton.mp hm
      rw [hm, he]
      exact hn
  closed hcl := by
    have hcl : r.meeting.state.live = false := hcl
    rw [hlive] at hcl
    cases hcl
  stack := by simp
  limit _ := Nat.zero_le _
  once hb m hm := by
    have hp := h.once hb m hm
    have hsusp' : r.susp = [] := h.settled hb (ho hb) hr
    simp only [FloorRec.placesOf, hsusp', hr, List.map_nil, List.count_nil] at hp
    simp only [FloorRec.placesOf, hl, count_without, List.map_cons, List.map_nil, he, List.count_nil]
    by_cases hmn : m = n
    · subst hmn
      have hq : r.queue.count m = 0 := by
        rw [List.count_eq_zero]
        intro hmq
        have := h.queue hb m hmq
        rw [hc hb] at this
        cases this
      rw [hself hb]
      simp [hq, FloorState.places]
    · by_cases hmg : m ∈ r.grantOrder
      · rw [h.speaking_of_mem hb hmg] at hp
        rw [hsusp hb m hmg hmn]
        simp only [FloorState.places, Prod.mk.injEq] at hp
        simp [hp, FloorState.places, hmn, Ne.symm hmn]
      · have hg : r.grantOrder.count m = 0 := List.count_eq_zero_of_not_mem hmg
        rw [hrest hb m hmg hmn, ← hp]
        simp [hg, hmn, Ne.symm hmn]
  settled _ _ hs := by cases hs
  silent _ _ := rfl
  top hb x xs hx := by
    cases hx
    exact ⟨by rw [he, hself hb], fun y hy => by cases hy⟩
  queue := h.queue

end

end FloorFits

end Sys2Proof.Machine

namespace Sys2Proof.Machine

/-! ## Updates of states of one core -/

theorem modSeat_core_congr {s t : State} (h : t.core = s.core) (n : Nat) (k : SeatRec → SeatRec) :
    (t.modSeat n k).core = (s.modSeat n k).core := by
  have commute (u : State) : (u.modSeat n k).core = u.core.modSeat n k := by cases n <;> rfl
  rw [commute, commute, h]

theorem modFloor_core_congr {s t : State} (h : t.core = s.core) (f : Floor) (g : FloorRec → FloorRec) :
    (t.modFloor f g).core = (s.modFloor f g).core := by
  have commute (u : State) : (u.modFloor f g).core = u.core.modFloor f g := by cases f <;> rfl
  rw [commute, commute, h]

theorem modFloor_modFloor (f : Floor) (g g' : FloorRec → FloorRec) (s : State) :
    (s.modFloor f g).modFloor f g' = s.modFloor f (fun r => g' (g r)) := by
  cases f <;> rfl

theorem seatFloor_modFloor (f : Floor) (g : FloorRec → FloorRec) (n : Nat) (s : State) :
    (s.modFloor f g).seatFloor n = s.seatFloor n := by
  unfold State.seatFloor
  rw [State.modFloor_part, State.seat_modFloor]

theorem keyReport_core (n : Nat) (c : KeyCause) (sub : Option SubCause) (why : Option Refused) (s : State) :
    (keyReport n c sub why s).core = s.core := report_core _ _ s

theorem priorityReport_core (f : Floor) (o : HoldOutcome) (l : Option Level) (n r : Option Nat) (x : List Octet)
    (s : State) : (priorityReport f o l n r x s).core = s.core := report_core _ _ s

theorem endedReport_core (f : Floor) (e : HoldEntry) (w : EndReason) (s : State) :
    (endedReport f e w s).core = s.core := report_core _ _ s

theorem dequeue_core (n : Nat) (c : KeyCause) (sub : Option SubCause) (s : State) :
    (dequeue n c sub s).core = ((s.modFloor (s.seatFloor n) (fun r => { r with queue := r.queue.filter (· != n) })).modSeat n
      (SeatRec.toState .idle)).core := keyReport_core _ _ _ _ _

theorem close_core (n : Nat) (c : KeyCause) (sub : Option SubCause) (s : State) :
    (close n c sub s).core = ((s.modFloor (s.seatFloor n)
      (fun r => { r with grantOrder := r.grantOrder.filter (· != n) })).modSeat n
      (fun r => (r.toState .idle).accountTurn)).core := keyReport_core _ _ _ _ _

theorem endSuspended_core (n : Nat) (c : KeyCause) (sub : Option SubCause) (s : State) :
    (endSuspended n c sub s).core = ((s.modFloor (s.seatFloor n)
      (fun r => { r with susp := r.susp.filter (·.seat != n) })).modSeat n
      (fun r => (r.toState .idle).accountTurn)).core := keyReport_core _ _ _ _ _

/-- What a seat's record becomes when it begins to speak on a floor (02 R32, R35; 03 R54). -/
def SeatRec.speaks (r : SeatRec) (mode : Mode) (t : Turn) : SeatRec :=
  { r.toState .speaking with turn := some t, release := if mode == .voice then some 0 else none }

theorem becomeSpeaking_eq (n : Nat) (t : Turn) (s : State) :
    becomeSpeaking n t s = (s.modFloor (s.seatFloor n) (fun r =>
      { r with grantOrder := r.grantOrder ++ [n], meeting := r.meeting.restIdle })).modSeat n
      (fun r => r.speaks (s.floor (s.seatFloor n)).settings.mode t) := rfl

theorem grant_core (n : Nat) (c : KeyCause) (s : State) :
    (grant n c s).core = ((s.modFloor (s.seatFloor n) (fun r =>
        { r with queue := r.queue.filter (· != n), grantOrder := r.grantOrder ++ [n], meeting := r.meeting.restIdle })).modSeat n
      (fun r => r.speaks (s.floor (s.seatFloor n)).settings.mode
        (startTurn (s.floor (s.seatFloor n)).settings.turnLimit))).core := by
  unfold grant leaveQueue
  rw [keyReport_core, becomeSpeaking_eq, seatFloor_modFloor, modFloor_modFloor, State.floor_modFloor_same]

theorem releaseHolder_floorState (r : SeatRec) :
    (if r.floorState == .priority then (r.toState .idle).accountTurn else r.toState .idle).floorState = .idle := by
  split <;> rfl

/-! ## The laws of 02 R17 to R19 and 03 R46 to R55, floor by floor -/

theorem seat_of_not_mem {s : State} (hl : s.seats.length = 48) {n : Nat} (hn : n ∉ allSeats) : s.seat n = Reset.seat .A := by
  cases n with
  | zero => rfl
  | succ k =>
    have hk : ¬ k + 1 < 1 + 48 := fun h => hn (List.mem_range'_1.mpr ⟨by omega, h⟩)
    show s.seats.getD k (Reset.seat .A) = Reset.seat .A
    rw [List.getD_eq_getElem?_getD, List.getElem?_eq_none (by omega)]
    rfl

theorem mem_allSeats_of_standing {s : State} (hl : s.seats.length = 48) {n : Nat} (hst : s.standing n ≠ .idle) :
    n ∈ allSeats := by
  by_contra hn
  exact hst (by rw [State.standing, seat_of_not_mem hl hn]; rfl)

theorem seat_modSeat_of_mem {s : State} (hl : s.seats.length = 48) {n : Nat} (hn : n ∈ allSeats) (k : SeatRec → SeatRec) :
    (s.modSeat n k).seat n = k (s.seat n) := by
  obtain ⟨h1, h2⟩ := List.mem_range'_1.mp hn
  exact State.seat_modSeat_same h1 (by omega) k

theorem standing_modSeat {s : State} (hl : s.seats.length = 48) {n : Nat} (hn : n ∈ allSeats) {k : SeatRec → SeatRec}
    {x : FloorState} (hk : ∀ r, (k r).floorState = x) : (s.modSeat n k).standing = setState s.standing n x := by
  funext m
  by_cases hm : m = n
  · subst hm
    rw [setState_same, State.standing, seat_modSeat_of_mem hl hn, hk]
  · rw [setState_ne x hm, State.standing, State.seat_modSeat_ne hm]
    rfl

theorem standing_forAll_modSeat {α : Type} (key : α → Nat) {s : State} (hl : s.seats.length = 48) {l : List α}
    (hm : ∀ a ∈ l, key a ∈ allSeats) {k : SeatRec → SeatRec} {x : FloorState} (hk : ∀ r, (k r).floorState = x) (n : Nat) :
    (forAll l (fun a => State.modSeat (key a) k) s).standing n = if n ∈ l.map key then x else s.standing n := by
  induction l generalizing s with
  | nil => rfl
  | cons a l ih =>
    have hstep := ih (s := s.modSeat (key a) k) (by rw [State.modSeat_seats_length, hl])
      (fun c hc => hm c (List.mem_cons_of_mem a hc))
    refine Eq.trans rfl (hstep.trans ?_)
    rw [standing_modSeat hl (hm a List.mem_cons_self) hk]
    simp only [List.map_cons, List.mem_cons]
    by_cases hn : n ∈ l.map key
    · rw [if_pos hn, if_pos (Or.inr hn)]
    · rw [if_neg hn]
      by_cases hna : n = key a
      · rw [hna, setState_same, if_pos (Or.inl rfl)]
      · rw [setState_ne x hna, if_neg (by simp [hna, hn])]

/-- The hub's tables have the seats that they should, and each floor's record says what the laws say. `lifted` is a floor
whose open-mic limit has been lowered and not yet been applied (02 R42), `owing` one whose suspension list is being
settled (03 R54). -/
structure Seated (b : Bool) (lifted owing : Option Floor) (s : State) : Prop where
  table : s.seats.length = 48
  fits : ∀ f, FloorFits b (lifted ≠ some f) (owing = some f) (s.owns f) s.standing s.chairSeat (s.floor f)

theorem length_of_ledger {s t : State} (h : t.ledger = s.ledger) : t.seats.length = s.seats.length := by
  have hs : t.seats.map SeatRec.ledger = s.seats.map SeatRec.ledger := congrArg (·.1) h
  simpa using congrArg List.length hs

theorem length_of_still {s t : State} (h : t.still = s.still) : t.seats.length = s.seats.length := by
  have hs : t.seats.map SeatRec.still = s.seats.map SeatRec.still := congrArg State.seats h
  simpa using congrArg List.length hs

theorem owns_of_still {s t : State} (h : t.still = s.still) (f : Floor) : t.owns f = s.owns f := by
  funext n
  unfold State.owns
  rw [seatFloor_of_still h]

theorem chairSeat_of_still {s t : State} (h : t.still = s.still) : t.chairSeat = s.chairSeat := by
  funext n
  exact (congrArg (fun r : SeatRec => r.role.isChair) (seat_still h n) :)

theorem slotFree_iff (s : State) (f : Floor) : s.slotFree f = true ↔
    (s.floor f).stack = [] ∧ (s.floor f).grantOrder.length < (s.floor f).settings.openMicLimit := by
  simp [State.slotFree, State.holdActive]

theorem mem_floorSeats (s : State) (f : Floor) (n : Nat) : n ∈ s.floorSeats f ↔ s.owns f n := by
  simp [State.floorSeats, State.owns]

namespace Seated

variable {b : Bool} {lifted owing owing' : Option Floor} {s t : State}

theorem of_ledger (h : t.ledger = s.ledger) (hs : Seated b lifted owing s) : Seated b lifted owing t := by
  refine ⟨(length_of_ledger h).trans hs.table, fun f => ?_⟩
  have hown (n : Nat) : t.owns f n ↔ s.owns f n := by
    unfold State.owns
    rw [seatFloor_of_ledger h]
  exact ((hs.fits f).of_ledger (floor_ledger h f)).congr hown
    (fun _ n _ => floorState_of_ledger h n) (fun _ n _ => congrArg Role.isChair (role_of_ledger h n))

theorem weaken {lifted' : Option Floor} (hs : Seated b lifted owing s) (hov : ∀ f, lifted = some f → lifted' = some f)
    (how : ∀ f, owing = some f → owing' = some f) : Seated b lifted' owing' s :=
  ⟨hs.table, fun f => (hs.fits f).weaken (fun hn ho => hn (hov f ho)) (how f)⟩

/-- The floor controllers change one floor's lists and the floor states of its seats. -/
theorem of_still (hs : Seated b lifted owing s) (h : t.still = s.still) {f : Floor} {st : Nat → FloorState}
    (hst : b = true → ∀ n, s.owns f n → t.standing n = st n)
    (hoff : b = true → ∀ n, n ∈ allSeats → s.seatFloor n ≠ f → t.standing n = s.standing n)
    (hfloor : ∀ e, e ≠ f → (t.floor e).ledger = (s.floor e).ledger)
    (how : ∀ e, e ≠ f → owing = some e → owing' = some e)
    (hf : FloorFits b (lifted ≠ some f) (owing' = some f) (s.owns f) st s.chairSeat (t.floor f)) :
    Seated b lifted owing' t := by
  refine ⟨(length_of_still h).trans hs.table, fun e => ?_⟩
  rw [owns_of_still h, chairSeat_of_still h]
  by_cases hef : e = f
  · subst hef
    exact hf.congr (fun _ => Iff.rfl) hst (fun _ _ _ => rfl)
  · refine (((hs.fits e).of_ledger (hfloor e hef)).weaken id (how e hef)).congr (fun _ => Iff.rfl)
      (fun hb n hn => hoff hb n hn.1 (fun hnf => hef (hn.2.symm.trans hnf))) (fun _ _ _ => rfl)

/-- One seat takes another floor state, and its floor's lists change with it. -/
theorem moved (hs : Seated b lifted owing s) {n : Nat} {g : FloorRec → FloorRec} {k : SeatRec → SeatRec} {x : FloorState}
    (ht : t.core = ((s.modFloor (s.seatFloor n) g).modSeat n k).core) (hks : ∀ r, (k r).still = r.still)
    (hgs : ∀ r, (g r).still = r.still) (hk : ∀ r, (k r).floorState = x) (hn : b = true → n ∈ allSeats)
    (how : ∀ e, e ≠ s.seatFloor n → owing = some e → owing' = some e)
    (hf : FloorFits b (lifted ≠ some (s.seatFloor n)) (owing' = some (s.seatFloor n)) (s.owns (s.seatFloor n))
      (setState s.standing n x) s.chairSeat (g (s.floor (s.seatFloor n)))) : Seated b lifted owing' t := by
  have standing (hb : b = true) : t.standing = setState s.standing n x := by
    have hl : (s.modFloor (s.seatFloor n) g).seats.length = 48 := by rw [State.modFloor_seats, hs.table]
    have hseat : (s.modFloor (s.seatFloor n) g).standing = s.standing :=
      funext fun m => congrArg SeatRec.floorState (State.seat_modFloor _ _ m s)
    rw [← hseat, ← standing_modSeat hl (hn hb) hk]
    exact funext fun m => congrArg SeatRec.floorState (seat_of_core ht m)
  have floor (e : Floor) : t.floor e = (s.modFloor (s.seatFloor n) g).floor e := by
    rw [floor_of_core ht, State.floor_modSeat]
  refine hs.of_still (f := s.seatFloor n) (st := setState s.standing n x)
    ((still_of_core ht).trans ((modSeat_still n k hks _).trans (modFloor_still _ g hgs s)))
    (fun hb m _ => congrFun (standing hb) m) (fun hb m _ hm => ?_) (fun e he => ?_) how ?_
  · rw [standing hb, setState_ne x (fun hmn => hm (by rw [hmn]))]
  · rw [floor, State.floor_modFloor_ne he]
  · rw [floor, State.floor_modFloor_same]
    exact hf

/-! ### The operations of 02 -/

section
variable (hs : Seated b lifted owing s) {n : Nat}
include hs

theorem mem (hst : s.standing n ≠ .idle) : n ∈ allSeats := mem_allSeats_of_standing hs.table hst

theorem own (hst : s.standing n ≠ .idle) : s.owns (s.seatFloor n) n := ⟨hs.mem hst, rfl⟩

theorem dequeue (c : KeyCause) (sub : Option SubCause) (hst : b = true → s.standing n = .queued) :
    Seated b lifted owing (dequeue n c sub s) :=
  hs.moved (dequeue_core n c sub s) (fun _ => rfl) (fun _ => rfl) (fun _ => rfl)
    (fun hb => hs.mem (by rw [hst hb]; decide)) (fun _ _ => id)
    ((hs.fits _).leaveQueue (fun hb => ⟨hs.own (by rw [hst hb]; decide), hst hb⟩))

theorem close (c : KeyCause) (sub : Option SubCause) (hst : b = true → s.standing n = .speaking) :
    Seated b lifted owing (close n c sub s) :=
  hs.moved (close_core n c sub s) (fun _ => rfl) (fun _ => rfl) (fun _ => rfl)
    (fun hb => hs.mem (by rw [hst hb]; decide)) (fun _ _ => id)
    ((hs.fits _).leaveOrder (fun hb => ⟨hs.own (by rw [hst hb]; decide), hst hb⟩))

theorem endSuspended (c : KeyCause) (sub : Option SubCause) (hst : b = true → s.standing n = .suspended) :
    Seated b lifted owing (endSuspended n c sub s) :=
  hs.moved (endSuspended_core n c sub s) (fun _ => rfl) (fun _ => rfl) (fun _ => rfl)
    (fun hb => hs.mem (by rw [hst hb]; decide)) (fun _ _ => id)
    ((hs.fits _).leaveSusp (fun hb => ⟨hs.own (by rw [hst hb]; decide), hst hb⟩))

theorem grant {f : Floor} (c : KeyCause) (hn : s.owns f n) (hl : s.live f = true) (hfree : s.slotFree f = true)
    (hst : b = true → s.standing n = .idle ∨ s.standing n = .queued) : Seated b lifted owing (grant n c s) := by
  obtain ⟨hmem, rfl⟩ := hn
  obtain ⟨hstack, hlen⟩ := (slotFree_iff s _).mp hfree
  exact hs.moved (grant_core n c s) (fun _ => rfl) (fun _ => rfl) (fun _ => rfl) (fun _ => hmem) (fun _ _ => id)
    ((hs.fits _).grant ⟨hmem, rfl⟩ hl hstack hlen hst)

theorem grantQueue (f : Floor) (c : KeyCause) (k : Nat) : Seated b lifted owing (grantQueue f c k s) := by
  induction k generalizing s with
  | zero => exact hs
  | succ k ih =>
    unfold Machine.grantQueue
    split
    · next hfree =>
      split
      · next m rest hq =>
        have hm : m ∈ (s.floor f).queue := by rw [hq]; exact List.mem_cons_self
        have hnamed := mem_named_of_queue hm
        exact ih (hs.grant c ((hs.fits f).owned m hnamed) ((hs.fits f).live_of_mem hnamed) hfree
          (fun hb => Or.inr ((hs.fits f).queued_of_mem hb hm)))
      · exact hs
    · exact hs

end

end Seated

end Sys2Proof.Machine

namespace Sys2Proof.Machine

/-! ## The first voice candidate (02 R34) -/

/-- The choice that `firstCandidate` makes between the best so far and a later candidate. -/
def earlier (key : Nat → Nat) (best : Option Nat) (n : Nat) : Option Nat := match best with
  | none => some n
  | some m => if key n < key m then some n else some m

theorem earlier_fold (key : Nat → Nat) (l : List Nat) (a m : Nat) (ha : ∀ n ∈ l, a < n) (hl : l.Pairwise (· < ·))
    (h : l.foldl (earlier key) (some a) = some m) :
    m ∈ a :: l ∧ ∀ n ∈ a :: l, key m < key n ∨ key m = key n ∧ m ≤ n := by
  induction l generalizing a with
  | nil =>
    cases h
    simp
  | cons c l ih =>
    obtain ⟨hc, hl⟩ := List.pairwise_cons.mp hl
    have hac := ha c List.mem_cons_self
    rw [List.foldl_cons] at h
    by_cases hlt : key c < key a
    · have h : l.foldl (earlier key) (some c) = some m := by rwa [earlier, if_pos hlt] at h
      obtain ⟨hm, hmin⟩ := ih c hc hl h
      refine ⟨List.mem_cons_of_mem a hm, fun n hn => ?_⟩
      rcases List.mem_cons.mp hn with rfl | hn
      · exact Or.inl (by have := hmin c List.mem_cons_self; omega)
      · exact hmin n hn
    · have h : l.foldl (earlier key) (some a) = some m := by rwa [earlier, if_neg hlt] at h
      obtain ⟨hm, hmin⟩ := ih a (fun n hn => ha n (List.mem_cons_of_mem c hn)) hl h
      refine ⟨?_, fun n hn => ?_⟩
      · rcases List.mem_cons.mp hm with rfl | hm
        · exact List.mem_cons_self
        · exact List.mem_cons_of_mem a (List.mem_cons_of_mem c hm)
      · have first := hmin a List.mem_cons_self
        rcases List.mem_cons.mp hn with rfl | hn
        · exact first
        · rcases List.mem_cons.mp hn with rfl | hn
          · omega
          · exact hmin n (List.mem_cons_of_mem a hn)

/-- The voice candidates of a floor (02 R34). -/
def State.candidates (s : State) (f : Floor) : List Nat := (s.floorSeats f).filter s.voiceCandidate

/-- The opening time of a seat's gate. -/
def State.openingOf (s : State) (n : Nat) : Nat := (s.chan n).opening.getD 0

theorem firstCandidate_eq (s : State) (f : Floor) :
    s.firstCandidate f = (s.candidates f).foldl (earlier s.openingOf) none := rfl

theorem candidates_ascend (s : State) (f : Floor) : (s.candidates f).Pairwise (· < ·) :=
  ((List.pairwise_lt_range').filter _).filter _

/-- The candidate with the earliest opening time, the lower seat number among equals. -/
theorem firstCandidate_some {s : State} {f : Floor} {m : Nat} (h : s.firstCandidate f = some m) :
    m ∈ s.candidates f ∧
      ∀ n ∈ s.candidates f, s.openingOf m < s.openingOf n ∨ s.openingOf m = s.openingOf n ∧ m ≤ n := by
  rw [firstCandidate_eq] at h
  have hl := candidates_ascend s f
  revert h hl
  cases s.candidates f with
  | nil => intro h; cases h
  | cons a l =>
    intro h hl
    exact earlier_fold s.openingOf l a m (List.pairwise_cons.mp hl).1 (List.pairwise_cons.mp hl).2 h

theorem firstCandidate_none {s : State} {f : Floor} (h : s.firstCandidate f = none) : s.candidates f = [] := by
  have some_of (key : Nat → Nat) (l : List Nat) (a : Nat) : ∃ m, l.foldl (earlier key) (some a) = some m := by
    induction l generalizing a with
    | nil => exact ⟨a, rfl⟩
    | cons c l ih =>
      rw [List.foldl_cons, earlier]
      split
      · exact ih c
      · exact ih a
  rw [firstCandidate_eq] at h
  cases hc : s.candidates f with
  | nil => rfl
  | cons a l =>
    obtain ⟨m, hm⟩ := some_of s.openingOf l a
    rw [hc] at h
    exact absurd (hm.symm.trans h) (by simp)

theorem mem_candidates {s : State} {f : Floor} {n : Nat} : n ∈ s.candidates f ↔
    s.owns f n ∧ s.standing n = .idle ∧ (s.chan n).gate = .opened ∧ s.admission n = none := by
  simp only [State.candidates, List.mem_filter, mem_floorSeats, State.voiceCandidate, State.standing, Bool.and_eq_true,
    beq_iff_eq, Option.isNone_iff_eq_none, and_assoc]

theorem live_of_still {s t : State} (h : t.still = s.still) (f : Floor) : t.live f = s.live f :=
  congrArg MeetingState.live (meetingState_of_still h f)

theorem setState_setState (st : Nat → FloorState) (n : Nat) (x y : FloorState) :
    setState (setState st n x) n y = setState st n y := by
  funext m
  by_cases hm : m = n
  · rw [hm, setState_same, setState_same]
  · rw [setState_ne y hm, setState_ne x hm, setState_ne y hm]

namespace Seated

variable {b : Bool} {lifted owing owing' : Option Floor} {s t : State}

section
variable (hs : Seated b lifted owing s)
include hs

theorem grantVoices {f : Floor} (hl : s.live f = true) (k : Nat) : Seated b lifted owing (grantVoices f k s) := by
  induction k generalizing s with
  | zero => exact hs
  | succ k ih =>
    unfold Machine.grantVoices
    split
    · next hfree =>
      split
      · next m hm =>
        obtain ⟨hown, hidle, -⟩ := mem_candidates.mp (firstCandidate_some hm).1
        exact ih (hs.grant .voice hown hl hfree (fun _ => Or.inl hidle)) ((live_of_still (grant_still _ _ _) f).trans hl)
      · exact hs
    · exact hs

theorem grantPass (f : Floor) : Seated b lifted owing (grantPass f s) := by
  unfold Machine.grantPass
  split
  · next hl =>
    split
    · split
      · exact hs.grantQueue f .auto 8
      · exact hs
    · exact hs.grantVoices hl 8
    · exact hs
    · exact hs
  · exact hs

/-- The settlement that a floor owes has been made. -/
theorem paid {f : Floor} (how : owing = some f) (hf : b = true → (s.floor f).susp = []) : Seated b lifted none s := by
  refine ⟨hs.table, fun e => ?_⟩
  have he := hs.fits e
  by_cases hef : e = f
  · subst hef
    exact { he with settled := fun hb _ _ => hf hb }
  · exact he.weaken id (fun ho => absurd (Option.some.inj (how.symm.trans ho)).symm hef)

end

/-! ### Settlements (03 R54) -/

theorem resume_core (e : SuspEntry) {f : Floor} {s : State} (hf : s.seatFloor e.seat = f) :
    (becomeSpeaking e.seat e.turn (s.modFloor f (fun r => { r with susp := r.susp.filter (·.seat != e.seat) }))).core =
      ((s.modFloor (s.seatFloor e.seat) (fun r =>
          { r with susp := r.susp.filter (·.seat != e.seat), grantOrder := r.grantOrder ++ [e.seat],
                   meeting := r.meeting.restIdle })).modSeat e.seat
        (fun r => r.speaks (s.floor f).settings.mode e.turn)).core := by
  subst hf
  rw [becomeSpeaking_eq, seatFloor_modFloor, modFloor_modFloor, State.floor_modFloor_same]

end Seated

/-- A floor whose suspension list has been settled, with the seats resumed and those made IDLE. -/
def settledList (f : Floor) (s : State) : State × List Nat × List Nat :=
  (s.floor f).susp.foldl (fun d e => settleEntry f e d) (s, [], [])

theorem settle_eq (f : Floor) (s : State) : settle f s = grantPass f (priorityReport f .settled none none none
    (Fmt.seats (settledList f s).2.1 ++ Fmt.seats (settledList f s).2.2) (settledList f s).1) := rfl

/-- What the settling of one entry makes of its floor's lists. -/
theorem settleEntry_floor {f : Floor} {e : SuspEntry} {d : State × List Nat × List Nat} (hf : d.1.seatFloor e.seat = f) :
    ((settleEntry f e d).1.floor f).susp = (d.1.floor f).susp.filter (·.seat != e.seat) ∧
      ((settleEntry f e d).1.floor f).stack = (d.1.floor f).stack ∧
      ((settleEntry f e d).1.floor f).queue = (d.1.floor f).queue := by
  subst hf
  unfold settleEntry
  dsimp only
  split
  · rw [floor_of_core ((keyReport_core _ _ _ _ _).trans (Seated.resume_core e rfl)), State.floor_modSeat,
      State.floor_modFloor_same]
    exact ⟨rfl, rfl, rfl⟩
  · rw [floor_of_core (endSuspended_core _ _ _ _), State.floor_modSeat, State.floor_modFloor_same]
    exact ⟨rfl, rfl, rfl⟩

/-- A settlement takes every entry off the list of its floor. -/
theorem settleEntries_floor {f : Floor} (l : List SuspEntry) {d : State × List Nat × List Nat}
    (hown : ∀ e ∈ l, d.1.seatFloor e.seat = f) :
    ((l.foldl (fun d e => settleEntry f e d) d).1.floor f).susp = (d.1.floor f).susp.filter (fun x => x.seat ∉ l.map (·.seat)) ∧
      ((l.foldl (fun d e => settleEntry f e d) d).1.floor f).stack = (d.1.floor f).stack := by
  induction l generalizing d with
  | nil => simp
  | cons e l ih =>
    have hstill := settleEntry_still f e d
    obtain ⟨hsusp, hstack, -⟩ := settleEntry_floor (hown e List.mem_cons_self)
    obtain ⟨hleft, hkept⟩ := ih (d := settleEntry f e d)
      (fun x hx => by rw [seatFloor_of_still hstill]; exact hown x (List.mem_cons_of_mem e hx))
    refine ⟨?_, hkept.trans hstack⟩
    rw [List.foldl_cons, hleft, hsusp, List.filter_filter]
    refine List.filter_congr (fun x _ => ?_)
    rw [Bool.eq_iff_iff]
    simp [and_comm]

theorem settledList_susp {f : Floor} {s : State} (hown : ∀ e ∈ (s.floor f).susp, s.seatFloor e.seat = f) :
    ((settledList f s).1.floor f).susp = [] := by
  refine (settleEntries_floor (s.floor f).susp (d := (s, [], [])) hown).1.trans (List.filter_eq_nil_iff.mpr (fun x hx => ?_))
  simpa using ⟨x, hx, rfl⟩

namespace Seated

variable {b : Bool} {lifted owing owing' : Option Floor} {s t : State}

theorem settleEntry {f : Floor} {e : SuspEntry} {d : State × List Nat × List Nat} (hs : Seated b lifted owing d.1)
    (hown : d.1.owns f e.seat) (hl : d.1.live f = true) (hstack : (d.1.floor f).stack = [])
    (hst : b = true → d.1.standing e.seat = .suspended) : Seated b lifted owing (settleEntry f e d).1 := by
  obtain ⟨hmem, rfl⟩ := hown
  unfold Machine.settleEntry
  dsimp only
  split
  · next hc =>
    simp only [Bool.and_eq_true, decide_eq_true_eq] at hc
    exact hs.moved ((keyReport_core _ _ _ _ _).trans (resume_core e rfl)) (fun _ => rfl) (fun _ => rfl) (fun _ => rfl)
      (fun _ => hmem) (fun _ _ => id) ((hs.fits _).resume ⟨hmem, rfl⟩ hl hstack hc.2 hst)
  · exact hs.endSuspended _ _ hst

theorem settleEntries {f : Floor} (l : List SuspEntry) {d : State × List Nat × List Nat}
    (hs : Seated b lifted owing d.1) (hown : ∀ e ∈ l, d.1.owns f e.seat) (hl : l ≠ [] → d.1.live f = true)
    (hstack : (d.1.floor f).stack = []) (hst : b = true → ∀ e ∈ l, d.1.standing e.seat = .suspended)
    (hnd : b = true → (l.map (·.seat)).Nodup) :
    Seated b lifted owing (l.foldl (fun d e => Machine.settleEntry f e d) d).1 := by
  induction l generalizing d with
  | nil => exact hs
  | cons e l ih =>
    have hlive := hl (List.cons_ne_nil e l)
    have hstill := settleEntry_still f e d
    have hstack' := (settleEntry_floor (f := f) (e := e) (d := d) (hown e List.mem_cons_self).2).2.1
    have hone := hs.settleEntry (hown e List.mem_cons_self) hlive hstack (fun hb => hst hb e List.mem_cons_self)
    refine ih hone
      (fun x hx => by rw [owns_of_still hstill]; exact hown x (List.mem_cons_of_mem e hx))
      (fun _ => (live_of_still hstill f).trans hlive) (hstack'.trans hstack) (fun hb x hx => ?_)
      (fun hb => (List.nodup_cons.mp (hnd hb)).2)
    have hne : x.seat ≠ e.seat := fun hxe => (List.nodup_cons.mp (hnd hb)).1 (List.mem_map.mpr ⟨x, hx, hxe⟩)
    have hkeep := (settleEntry_passesBy f e hne d).seat
    exact (congrArg SeatRec.floorState hkeep).trans (hst hb x (List.mem_cons_of_mem e hx))

/-- The list of a floor that owed a settlement has been settled. -/
theorem settledList {f : Floor} (hs : Seated b lifted (some f) s) (hstack : (s.floor f).stack = []) :
    Seated b lifted none (Machine.settledList f s).1 := by
  have hfits := hs.fits f
  have hown (e : SuspEntry) (he : e ∈ (s.floor f).susp) := hfits.owned _ (mem_named_of_susp he)
  have hall := hs.settleEntries (f := f) (d := (s, [], [])) (s.floor f).susp hown
    (fun hne => by
      obtain ⟨e, he⟩ := List.exists_mem_of_ne_nil _ hne
      exact hfits.live_of_mem (mem_named_of_susp he))
    hstack (fun hb e he => hfits.suspended_of_mem hb he) hfits.nodup_susp
  exact hall.paid rfl (fun _ => settledList_susp (fun e he => (hown e he).2))

theorem settle {f : Floor} (hs : Seated b lifted (some f) s) (hstack : (s.floor f).stack = []) :
    Seated b lifted none (settle f s) :=
  ((hs.settledList hstack).of_ledger (report_ledger _ _ _)).grantPass f

end Seated

/-! ### The end of entries (03 R53, R54, R58) -/

/-- A floor whose entries have all ended, its suspension list still to be settled. -/
def unheld (f : Floor) (s : State) : State :=
  forAll (s.floor f).stack (fun e => releaseHolder e.holder) (s.modFloor f (fun r => { r with stack := [] }))

theorem unheld_still (f : Floor) (s : State) : (unheld f s).still = s.still :=
  (forAll_still (fun (e : HoldEntry) t => releaseHolder_still e.holder t) _ _).trans (setStack_still f [] s)

theorem unheld_floor (f : Floor) (s : State) : (unheld f s).floor f = { s.floor f with stack := [] } :=
  (forAll_keeps (·.floor f) _ (fun _ t => State.floor_modSeat _ _ f t) _ _).trans (State.floor_modFloor_same _ _ _)

theorem unheld_floor_ne {f e : Floor} (h : e ≠ f) (s : State) : (unheld f s).floor e = s.floor e :=
  (forAll_keeps (·.floor e) _ (fun _ t => State.floor_modSeat _ _ e t) _ _).trans (State.floor_modFloor_ne h _ _)

theorem endAllEntries_eq (why : EndReason) (f : Floor) (s : State) :
    ∃ w : State, w.core = (unheld f s).core ∧ endAllEntries why f s = settle f w :=
  ⟨_, (reports_core _ (fun _ _ => endedReport_core _ _ _ _) _).trans
    (reports_core _ (fun _ _ => keyReport_core _ _ _ _ _) _), rfl⟩

namespace Seated

variable {b : Bool} {lifted owing owing' : Option Floor} {s t : State}

theorem releaseHolder_still' (r : SeatRec) :
    (if r.floorState == .priority then (r.toState .idle).accountTurn else r.toState .idle).still = r.still := by
  split <;> rfl

/-- Every entry of a stack ends, and a settlement is to come. -/
theorem unheld (hs : Seated b lifted none s) (f : Floor) : Seated b lifted (some f) (Machine.unheld f s) := by
  have hfits := hs.fits f
  have hown (e : HoldEntry) (he : e ∈ (s.floor f).stack) : s.owns f e.holder := hfits.owned _ (mem_named_of_stack he)
  have hstanding (m : Nat) : (Machine.unheld f s).standing m =
      if m ∈ (s.floor f).stack.map (·.holder) then .idle else s.standing m := by
    refine (standing_forAll_modSeat (s := s.modFloor f (fun r => { r with stack := [] })) (·.holder)
      (by rw [State.modFloor_seats, hs.table]) (fun e he => (hown e he).1) releaseHolder_floorState m).trans ?_
    refine ite_congr rfl (fun _ => rfl) (fun _ => ?_)
    exact congrArg SeatRec.floorState (State.seat_modFloor f _ m s)
  refine hs.of_still (f := f)
    (st := fun m => if m ∈ (s.floor f).stack.map (·.holder) then .idle else s.standing m) (unheld_still f s)
    (fun _ m _ => hstanding m) (fun _ m _ hm => ?_) (fun x hx => ?_) (fun x _ h => by cases h) ?_
  · refine (hstanding m).trans (if_neg (fun h => ?_))
    obtain ⟨e, he, rfl⟩ := List.mem_map.mp h
    exact hm (hown e he).2
  · rw [unheld_floor_ne hx]
  · rw [unheld_floor]
    exact (hfits.unstack (fun _ m hm => if_pos hm) (fun _ m hm => if_neg hm)).weaken id (fun _ => rfl)

theorem endEntry {n : Nat} (hs : Seated b lifted none s) (why : EndReason) (f : Floor) :
    Seated b lifted none (endEntry n why f s) := by
  have hfits := hs.fits f
  unfold Machine.endEntry
  split
  · exact hs
  · next e hr =>
    split
    · next he =>
      have he : e.holder = n := beq_iff_eq.mp he
      obtain ⟨hmem, rfl⟩ : s.owns f n := he ▸ hfits.owned _ (mem_named_of_stack (by simp [hr]))
      have hcore : (endedReport (s.seatFloor n) e why (keyReport n .priority none none
          ((releaseHolder n s).modFloor (s.seatFloor n) (fun r => { r with stack := [] })))).core =
          ((s.modFloor (s.seatFloor n) (fun r => { r with stack := [] })).modSeat n (fun r =>
            if r.floorState == .priority then (r.toState .idle).accountTurn else r.toState .idle)).core := by
        rw [endedReport_core, keyReport_core, releaseHolder, modSeat_modFloor]
      refine settle (hs.moved (owing' := some (s.seatFloor n)) hcore releaseHolder_still' (fun _ => rfl)
        releaseHolder_floorState (fun _ => hmem) (fun e _ h => by cases h) ?_) ?_
      · refine (hfits.unstack (st' := setState s.standing n .idle) (fun _ m hm => ?_) (fun _ m hm => ?_)).weaken id
          (fun _ => rfl)
        · rw [hr] at hm
          rw [show m = n from (List.mem_singleton.mp hm).trans he, setState_same]
        · rw [hr] at hm
          exact setState_ne _ (fun hmn => hm (List.mem_singleton.mpr (hmn.trans he.symm)))
      · rw [floor_of_core hcore, State.floor_modSeat, State.floor_modFloor_same]
    · exact hs
  · next e low rest hr =>
    obtain ⟨hrest, heown, hlown, -⟩ := hfits.holders hr
    split
    · next he =>
      have he : e.holder = n := beq_iff_eq.mp he
      subst he
      have hcore : (priorityReport f .takeover (some low.level) (some low.holder) none []
          (endedReport f e why (keyReport low.holder .priority none none (State.modSeat low.holder
            (SeatRec.toState .priority) (keyReport e.holder .priority none none
              ((releaseHolder e.holder s).modFloor f (fun r => { r with stack := [low] }))))))).core =
          (((releaseHolder e.holder s).modFloor f (fun r => { r with stack := [low] })).modSeat low.holder
            (SeatRec.toState .priority)).core := by
        rw [priorityReport_core, endedReport_core, keyReport_core]
        exact modSeat_core_congr (keyReport_core _ _ _ _ _) _ _
      have hstanding : (((releaseHolder e.holder s).modFloor f (fun r => { r with stack := [low] })).modSeat low.holder
          (SeatRec.toState .priority)).standing = setState (setState s.standing e.holder .idle) low.holder .priority := by
        have held : (releaseHolder e.holder s).standing = setState s.standing e.holder .idle :=
          standing_modSeat hs.table heown.1 releaseHolder_floorState
        rw [standing_modSeat (x := .priority)
          (by rw [State.modFloor_seats, releaseHolder, State.modSeat_seats_length, hs.table]) hlown.1 (fun _ => rfl), ← held]
        exact congrArg (setState · low.holder .priority)
          (funext fun m => congrArg SeatRec.floorState (State.seat_modFloor _ _ m _))
      have hst (m : Nat) := congrArg SeatRec.floorState (seat_of_core hcore m)
      have hfloor (x : Floor) := floor_of_core hcore x
      refine hs.of_still (f := f) (st := setState (setState s.standing e.holder .idle) low.holder .priority) ?_
        (fun _ m _ => (hst m).trans (congrFun hstanding m)) (fun _ m _ hm => ?_) (fun x hx => ?_) (fun _ _ => id) ?_
      · refine (still_of_core hcore).trans ((toState_still .priority low.holder _).trans ?_)
        exact (setStack_still f [low] _).trans (releaseHolder_still _ s)
      · refine (hst m).trans ((congrFun hstanding m).trans ?_)
        rw [setState_ne _ (fun h => hm (by rw [h]; exact hlown.2)), setState_ne _ (fun h => hm (by rw [h]; exact heown.2))]
      · rw [hfloor, State.floor_modSeat, State.floor_modFloor_ne hx, releaseHolder, State.floor_modSeat]
      · rw [hfloor, State.floor_modSeat, State.floor_modFloor_same, releaseHolder, State.floor_modSeat]
        exact hfits.takeOver hr
    · split
      · next hl =>
        have hl : low.holder = n := beq_iff_eq.mp hl
        obtain ⟨hmem, rfl⟩ : s.owns f n := hl ▸ hlown
        have hcore : (endedReport (s.seatFloor n) low why (keyReport n .priority none none
            ((releaseHolder n s).modFloor (s.seatFloor n) (fun r => { r with stack := [e] })))).core =
            ((s.modFloor (s.seatFloor n) (fun r => { r with stack := [e] })).modSeat n (fun r =>
              if r.floorState == .priority then (r.toState .idle).accountTurn else r.toState .idle)).core := by
          rw [endedReport_core, keyReport_core, releaseHolder, modSeat_modFloor]
        refine hs.moved hcore releaseHolder_still' (fun _ => rfl) releaseHolder_floorState (fun _ => hmem)
          (fun _ _ => id) ?_
        have := hfits.endLow hr
        rwa [hl] at this
      · exact hs

theorem endAllEntries (hs : Seated b lifted none s) (why : EndReason) (f : Floor) :
    Seated b lifted none (endAllEntries why f s) := by
  obtain ⟨w, hw, heq⟩ := endAllEntries_eq why f s
  rw [heq]
  refine settle ((hs.unheld f).of_ledger (ledger_of_core hw)) ?_
  rw [floor_of_core hw, unheld_floor]

end Seated

end Sys2Proof.Machine

namespace Sys2Proof.Machine

theorem standing_modFloor (f : Floor) (g : FloorRec → FloorRec) (s : State) : (s.modFloor f g).standing = s.standing :=
  funext fun m => congrArg SeatRec.floorState (State.seat_modFloor f g m s)

theorem standing_of_core {s t : State} (h : t.core = s.core) : t.standing = s.standing :=
  funext fun m => congrArg SeatRec.floorState (seat_of_core h m)

/-- A seat of the table is one that is eligible, or has a role. -/
theorem mem_allSeats_of_eligible {s : State} (hl : s.seats.length = 48) {n : Nat} (h : s.eligible n = true) :
    n ∈ allSeats := by
  by_contra hn
  rw [State.eligible, seat_of_not_mem hl hn] at h
  cases h

namespace Seated

variable {b : Bool} {lifted owing : Option Floor} {s t : State}

section
variable (hs : Seated b lifted none s)
include hs

/-! ### Holds (03 R49 to R52) -/

theorem startHold {n : Nat} {e : HoldEntry} {f : Floor} (he : e.holder = n) (hn : s.owns f n) (hl : s.live f = true)
    (hr : (s.floor f).stack = []) (hc : b = true → s.chairSeat n = true) : Seated b lifted none (startHold n e f s) := by
  have hfits := hs.fits f
  let others := (s.floor f).grantOrder.filter (· != n)
  let turned : SeatRec → SeatRec := fun r => if r.floorState == .speaking then r.accountTurn else r
  let list := others.map (fun m => (⟨m, ((s.seat m).turn.getD (startTurn 0))⟩ : SuspEntry))
  let g : FloorRec → FloorRec := fun r =>
    { r with grantOrder := [], susp := list, stack := [e], meeting := r.meeting.restIdle }
  let v := forAll others (fun m => State.modSeat m (SeatRec.toState .suspended)) (s.modSeat n turned)
  let u := (v.modFloor f g).modSeat n (SeatRec.toState .priority)
  have howns (m : Nat) (hm : m ∈ others) : s.owns f m :=
    hfits.owned m (mem_named_of_grantOrder (List.mem_filter.mp hm).1)
  have hcore : (Machine.startHold n e f s).core = u.core :=
    (priorityReport_core _ _ _ _ _ _ _).trans (reports_core _ (fun _ _ => keyReport_core _ _ _ _ _) _)
  have hturned : (s.modSeat n turned).standing = s.standing := by
    refine funext fun m => seat_modSeat_keeps SeatRec.floorState (fun r => ?_) n m s
    dsimp only [turned]
    split <;> rfl
  have hv (m : Nat) : v.standing m = if m ∈ others then .suspended else s.standing m := by
    refine (standing_forAll_modSeat (fun m => m) (s := s.modSeat n turned) (by rw [State.modSeat_seats_length, hs.table])
      (fun m hm => (howns m hm).1) (k := SeatRec.toState .suspended) (x := .suspended) (fun _ => rfl) m).trans ?_
    rw [List.map_id', hturned]
  have hlen : v.seats.length = 48 := by
    refine (forAll_keeps (·.seats.length) _ (fun m t => State.modSeat_seats_length m _ t) others _).trans ?_
    rw [State.modSeat_seats_length, hs.table]
  have hu : u.standing = setState v.standing n .priority := by
    refine (standing_modSeat (by rw [State.modFloor_seats, hlen]) hn.1 (x := .priority) (fun _ => rfl)).trans ?_
    rw [standing_modFloor]
  have hst (m : Nat) : (Machine.startHold n e f s).standing m = setState v.standing n .priority m := by
    rw [standing_of_core hcore, hu]
  have hfloor (x : Floor) : v.floor x = s.floor x := by
    rw [floor_forAll_modSeat, State.floor_modSeat]
  refine hs.of_still (f := f) (st := setState v.standing n .priority) (startHold_still n e f s)
    (fun _ m _ => hst m) (fun _ m _ hm => ?_) (fun x hx => ?_) (fun _ _ => id) ?_
  · rw [hst, setState_ne _ (fun h => hm (by rw [h]; exact hn.2)), hv, if_neg (fun h => hm (howns m h).2)]
  · rw [floor_of_core hcore, State.floor_modSeat, State.floor_modFloor_ne hx, hfloor]
  · rw [floor_of_core hcore, State.floor_modSeat, State.floor_modFloor_same, hfloor]
    refine hfits.start (n := n) he hn hl hr (fun _ h => by cases h) hc (by simp [list, others, Function.comp_def])
      (fun _ => setState_same _ _ _) (fun _ m hm hmn => ?_) (fun _ m hm hmn => ?_)
    · rw [setState_ne _ hmn, hv, if_pos (List.mem_filter.mpr ⟨hm, by simpa using hmn⟩)]
    · rw [setState_ne _ hmn, hv, if_neg (fun h => hm (List.mem_filter.mp h).1)]

/-- A chair seat of a floor with a hold that holds no entry is IDLE or SUSPENDED. -/
theorem presser {n : Nat} {f : Floor} (hb : b = true) (hn : s.owns f n) (hc : s.chairSeat n = true)
    (hr : (s.floor f).stack ≠ []) (hh : n ∉ (s.floor f).stack.map (·.holder)) :
    s.standing n = .idle ∨ s.standing n = .suspended := by
  have hfits := hs.fits f
  obtain ⟨hq, hg, hsu, hst⟩ := hfits.lists hb hn
  have hq' : s.standing n ≠ .queued := fun h => by
    have := hfits.queue hb n (hq.mpr h)
    rw [hc] at this
    cases this
  have hg' : s.standing n ≠ .speaking := fun h => by
    have := hg.mpr h
    rw [hfits.silent hb hr] at this
    cases this
  have hh' := mt hst.mpr hh
  cases h : s.standing n <;> simp_all

theorem leaveSuspension {n : Nat} (hst : b = true → s.standing n = .suspended) :
    Seated b lifted none (leaveSuspension n .idle s) := by
  refine hs.moved (n := n) (x := .idle) (g := fun r => { r with susp := r.susp.filter (·.seat != n) })
    (k := fun r => (r.toState .idle).accountTurn) ?_ (fun _ => ?_) (fun _ => ?_) (fun _ => ?_)
    (fun hb => hs.mem (by rw [hst hb]; decide)) (fun _ _ => id)
    ((hs.fits _).leaveSusp (fun hb => ⟨hs.own (by rw [hst hb]; decide), hst hb⟩)) <;> rfl

/-- A holder to be has left the suspension list, if it stood there. -/
theorem unsuspended {n : Nat} {f : Floor} (hn : s.owns f n)
    (hst : b = true → s.standing n = .idle ∨ s.standing n = .suspended) :
    let u := if (s.seat n).floorState == .suspended then Machine.leaveSuspension n .idle s else s
    Seated b lifted none u ∧ u.still = s.still ∧ (u.floor f).stack = (s.floor f).stack ∧
      (b = true → u.standing n = .idle) := by
  obtain ⟨hmem, rfl⟩ := hn
  dsimp only
  split
  · next h =>
    have h : s.standing n = .suspended := beq_iff_eq.mp h
    refine ⟨hs.leaveSuspension (fun _ => h), leaveSuspension_still n .idle s, ?_, fun _ => ?_⟩
    · rw [Machine.leaveSuspension, State.floor_modSeat, State.floor_modFloor_same]
    · rw [Machine.leaveSuspension, standing_modSeat (by rw [State.modFloor_seats, hs.table]) hmem (x := .idle) (fun _ => rfl),
        setState_same]
  · next h =>
    refine ⟨hs, rfl, rfl, fun hb => (hst hb).resolve_right (fun h' => h (beq_iff_eq.mpr h'))⟩

theorem coverHold {n : Nat} {e low : HoldEntry} {f : Floor} (he : e.holder = n) (hn : s.owns f n)
    (hr : (s.floor f).stack = [low]) (hst : b = true → s.standing n = .idle ∨ s.standing n = .suspended) :
    Seated b lifted none (coverHold n e low f s) := by
  obtain ⟨hu, hstill, hstack, hidle⟩ := hs.unsuspended hn hst
  rw [hr] at hstack
  unfold Machine.coverHold
  revert hu hstill hstack hidle
  generalize (if (s.seat n).floorState == .suspended then Machine.leaveSuspension n .idle s else s) = u
  intro hu hstill hstack hidle
  have hn : u.owns f n := by rw [owns_of_still hstill]; exact hn
  have hfits := hu.fits f
  have hlow : u.owns f low.holder := hfits.owned _ (mem_named_of_stack (by simp [hstack]))
  let w := ((u.modFloor f (fun r => { r with stack := [e, low] })).modSeat low.holder
    (fun r => (r.toState .priorityWait).accountTurn)).modSeat n (SeatRec.toState .priority)
  have hcore (x : List Octet) : (priorityReport f .covered (some e.level) (some n) none x
      (keyReport n .priority none none (keyReport low.holder .priority none none w))).core = w.core := by
    rw [priorityReport_core, keyReport_core, keyReport_core]
  have hw : w.standing = setState (setState u.standing low.holder .priorityWait) n .priority := by
    rw [standing_modSeat (x := .priority) (by rw [State.modSeat_seats_length, State.modFloor_seats, hu.table]) hn.1
      (fun _ => rfl), standing_modSeat (x := .priorityWait) (by rw [State.modFloor_seats, hu.table]) hlow.1 (fun _ => rfl),
      standing_modFloor]
  refine hu.of_still (f := f) (st := setState (setState u.standing low.holder .priorityWait) n .priority) ?_
    (fun _ m _ => ?_) (fun _ m _ hm => ?_) (fun x hx => ?_) (fun _ _ => id) ?_
  · refine (still_of_core (hcore [])).trans ((toState_still .priority n _).trans ?_)
    refine (modSeat_still _ _ (fun r => ?_) _).trans (setStack_still f [e, low] u)
    rfl
  · rw [standing_of_core (hcore []), hw]
  · rw [standing_of_core (hcore []), hw, setState_ne _ (fun h => hm (by rw [h]; exact hn.2)),
      setState_ne _ (fun h => hm (by rw [h]; exact hlow.2))]
  · rw [floor_of_core (hcore []), State.floor_modSeat, State.floor_modSeat, State.floor_modFloor_ne hx]
  · rw [floor_of_core (hcore []), State.floor_modSeat, State.floor_modSeat, State.floor_modFloor_same]
    subst he
    exact hfits.cover hstack hn hidle

theorem joinBeneath {n : Nat} {top e : HoldEntry} {f : Floor} (he : e.holder = n) (hn : s.owns f n)
    (hr : (s.floor f).stack = [top]) (hst : b = true → s.standing n = .idle ∨ s.standing n = .suspended) :
    Seated b lifted none (joinBeneath n top e f s) := by
  have hfits := hs.fits f
  obtain ⟨hmem, rfl⟩ := hn
  subst he
  unfold Machine.joinBeneath
  dsimp only
  split
  · next h =>
    have h : s.standing e.holder = .suspended := beq_iff_eq.mp h
    have hleft := hfits.leaveSusp (fun _ => ⟨⟨hmem, rfl⟩, h⟩)
    have hjoin := hleft.beneath (e := e) (top := top) hr ⟨hmem, rfl⟩ (fun _ => setState_same _ _ _)
    rw [setState_setState] at hjoin
    refine hs.moved (n := e.holder) (g := fun r => { r with susp := r.susp.filter (·.seat != e.holder), stack := [top, e] })
      (k := fun r => (r.toState .priorityWait).accountTurn) ?_ (fun _ => ?_) (fun _ => ?_) (fun _ => ?_) (fun _ => hmem)
      (fun _ _ => id) hjoin
    · rw [priorityReport_core, keyReport_core, Machine.leaveSuspension, modSeat_modFloor, modFloor_modFloor]
    all_goals rfl
  · next h =>
    have hidle (hb : b = true) := (hst hb).resolve_right (fun h' => h (beq_iff_eq.mpr h'))
    have hjoin := hfits.beneath (e := e) (top := top) hr ⟨hmem, rfl⟩ hidle
    refine hs.moved (n := e.holder) (g := fun r => { r with stack := [top, e] }) (k := SeatRec.toState .priorityWait) ?_
      (fun _ => ?_) (fun _ => ?_) (fun _ => ?_) (fun _ => hmem) (fun _ _ => id) hjoin
    · rw [priorityReport_core, keyReport_core, modSeat_modFloor]
    all_goals rfl

theorem priorityPress {n : Nat} (he : s.eligible n = true) : Seated b lifted none (priorityPress n s) := by
  have hn : s.owns (s.seatFloor n) n := ⟨mem_allSeats_of_eligible hs.table he, rfl⟩
  unfold Machine.priorityPress
  dsimp only
  split
  · split
    · exact hs.endEntry _ _
    · exact hs
  · next hfind =>
    have hnot : n ∉ (s.floor (s.seatFloor n)).stack.map (·.holder) := fun hm => by
      obtain ⟨x, hx, hxn⟩ := List.mem_map.mp hm
      exact absurd (beq_iff_eq.mpr hxn) (by simpa using List.find?_eq_none.mp hfind x hx)
    split
    · exact hs.of_ledger ((report_ledger _ _ _).trans (modSeat_ledger n (by intros; rfl) s))
    · next hadm =>
      obtain ⟨hlive, hchair⟩ : s.live (s.seatFloor n) = true ∧ s.chairSeat n = true := by
        unfold State.holdAdmission at hadm
        dsimp only at hadm
        split at hadm
        · cases hadm
        · next hl =>
          split at hadm
          · cases hadm
          · next hc => exact ⟨by simpa using hl, by simpa [State.chairSeat] using hc⟩
      have hpress (hb : b = true) (hr : (s.floor (s.seatFloor n)).stack ≠ []) := hs.presser hb hn hchair hr hnot
      split
      · exact hs
      · split
        · next hr _ => exact hs.startHold rfl hn hlive hr (fun _ => hchair)
        · next hr _ =>
          split
          · exact hs.coverHold rfl hn hr (fun hb => hpress hb (by rw [hr]; exact List.cons_ne_nil _ _))
          · exact hs
        · next hr _ =>
          split
          · exact hs.joinBeneath rfl hn hr (fun hb => hpress hb (by rw [hr]; exact List.cons_ne_nil _ _))
          · exact hs
        · exact hs

theorem priorityRelease (n : Nat) : Seated b lifted none (priorityRelease n s) := by
  unfold Machine.priorityRelease
  dsimp only
  split
  · split
    · exact hs
    · exact hs.endEntry _ _
  · exact hs

theorem nextPress (n : Nat) : Seated b lifted none (nextPress n s) := by
  have refused (w : Refused) : Seated b lifted none (refuse n .next w s) := hs.of_ledger (refuse_ledger _ _ _ s)
  unfold Machine.nextPress
  refine ite_preserves _ (fun _ => refused _) (fun hl => ite_preserves _ (fun _ => refused _) (fun _ =>
    ite_preserves _ (fun _ => refused _) (fun _ => ite_preserves _ (fun _ => refused _) (fun _ => ?_))))
  split
  · exact refused _
  · next m rest hq =>
    have hm : m ∈ (s.floor (s.seatFloor n)).queue := by rw [hq]; exact List.mem_cons_self
    refine ite_preserves _ (fun hfree => ?_) (fun _ => refused _)
    exact hs.grant .next ((hs.fits _).owned m (mem_named_of_queue hm)) (by simpa using hl) hfree
      (fun hb => Or.inr ((hs.fits _).queued_of_mem hb hm))

/-! ### Requests and releases (02 R24 to R31, R43) -/

theorem bump {n : Nat} {f : Floor} (hn : s.owns f n) (hl : s.live f = true) (hf : lifted ≠ some f)
    (hr : (s.floor f).stack = []) (hst : b = true → s.standing n = .idle) : Seated b lifted none (bump n f s) := by
  unfold Machine.bump
  split
  · next m hm =>
    have hmg : m ∈ (s.floor f).grantOrder := List.mem_of_find?_eq_some hm
    obtain ⟨hmem, rfl⟩ := (hs.fits f).owned m (mem_named_of_grantOrder hmg)
    have hspeaks (hb : b = true) : s.standing m = .speaking := (hs.fits _).speaking_of_mem hb hmg
    have hclosed := hs.close (n := m) .bump none hspeaks
    have hfloor : (Machine.close m .bump none s).floor (s.seatFloor m) =
        { s.floor (s.seatFloor m) with grantOrder := (s.floor (s.seatFloor m)).grantOrder.filter (· != m) } := by
      rw [floor_of_core (close_core m .bump none s), State.floor_modSeat, State.floor_modFloor_same]
    have hstill := close_still m .bump none s
    refine hclosed.grant .key (by rw [owns_of_still hstill]; exact hn) ((live_of_still hstill _).trans hl) ?_
      (fun hb => Or.inl ?_)
    · rw [slotFree_iff, hfloor]
      refine ⟨hr, ?_⟩
      have hlim := (hs.fits (s.seatFloor m)).limit hf
      exact (List.length_filter_lt_length_iff_exists.mpr ⟨m, hmg, by simp⟩).trans_le hlim
    · have hne : n ≠ m := by
        rintro rfl
        have := hst hb
        rw [hspeaks hb] at this
        cases this
      exact (congrArg SeatRec.floorState (close_seat_ne hne .bump none s)).trans (hst hb)
  · exact hs.of_ledger (refuse_ledger _ _ _ s)

theorem request {n : Nat} (he : s.eligible n = true) (hl : s.live (s.seatFloor n) = true)
    (hf : lifted ≠ some (s.seatFloor n)) (hst : s.standing n = .idle) : Seated b lifted none (request n s) := by
  have hn : s.owns (s.seatFloor n) n := ⟨mem_allSeats_of_eligible hs.table he, rfl⟩
  have refused (w : Refused) : Seated b lifted none (refuse n .key w s) := hs.of_ledger (refuse_ledger _ _ _ s)
  have stack {f : Floor} (h : ¬ s.holdActive f = true) : (s.floor f).stack = [] := by
    simpa [State.holdActive] using h
  have granted {f : Floor} (hf : s.seatFloor n = f) (hfree : s.slotFree f = true) :=
    hs.grant .key (hf ▸ hn) (hf ▸ hl) hfree (fun _ => Or.inl hst)
  unfold Machine.request
  dsimp only
  split
  · exact refused _
  · split
    · refine ite_preserves _ (fun _ => refused _) (fun hh => ite_preserves _ (fun hfree => granted rfl hfree) (fun _ => ?_))
      exact hs.bump hn hl hf (stack hh) (fun _ => hst)
    · next hc =>
      have queued : Seated b lifted none (requestQueued n (s.seatFloor n) s) := by
        refine ite_preserves _ (fun _ => refused _) (fun _ => grantPass ?_ _)
        refine hs.moved (n := n) (x := .queued) (keyReport_core _ _ _ _ _) (fun _ => ?_) (fun _ => ?_) (fun _ => ?_)
          (fun _ => hn.1) (fun _ _ => id)
          ((hs.fits _).join hn hl (fun _ => hst) (fun _ => by simpa [State.chairSeat] using hc)) <;> rfl
      split
      · refine ite_preserves _ (fun _ => refused _) (fun hh => ite_preserves _ (fun hfree => granted rfl hfree)
          (fun _ => ?_))
        split
        · exact refused _
        · exact hs.bump hn hl hf (stack hh) (fun _ => hst)
      · exact queued
      · exact queued
      · exact refused _

theorem forcedRelease (n : Nat) (sub : SubCause) : Seated b lifted none (forcedRelease n sub s) := by
  unfold Machine.forcedRelease
  dsimp only
  split
  · exact hs
  · next h => exact (hs.dequeue _ _ (fun _ => h)).grantPass _
  · next h => exact (hs.close _ _ (fun _ => h)).grantPass _
  · next h => exact (hs.endSuspended _ _ (fun _ => h)).grantPass _
  · exact (hs.endEntry _ _).grantPass _
  · exact (hs.endEntry _ _).grantPass _

end

end Seated

end Sys2Proof.Machine

namespace Sys2Proof.Machine

/-! ## FLOOR_SET, floor by floor (02 R41, R42) -/

theorem dequeue_seat_ne {n m : Nat} (h : n ≠ m) (c : KeyCause) (sub : Option SubCause) (s : State) :
    (dequeue m c sub s).seat n = s.seat n := by
  rw [seat_of_core (dequeue_core m c sub s), State.seat_modSeat_ne h, State.seat_modFloor]

theorem endSuspended_seat_ne {n m : Nat} (h : n ≠ m) (c : KeyCause) (sub : Option SubCause) (s : State) :
    (endSuspended m c sub s).seat n = s.seat n := by
  rw [seat_of_core (endSuspended_core m c sub s), State.seat_modSeat_ne h, State.seat_modFloor]

/-- Operations on the seats of a list leave the others. -/
theorem forAll_seat_of_not_mem {op : Nat → State → State} (hop : ∀ m n t, n ≠ m → (op m t).seat n = t.seat n)
    {l : List Nat} {n : Nat} (hn : n ∉ l) (s : State) : (forAll l op s).seat n = s.seat n := by
  induction l generalizing s with
  | nil => rfl
  | cons m l ih =>
    rw [List.mem_cons, not_or] at hn
    exact (ih hn.2 (op m s)).trans (hop m n s hn.1)

theorem close_floor {n : Nat} {f : Floor} {s : State} (hn : s.seatFloor n = f) (c : KeyCause) (sub : Option SubCause) :
    (close n c sub s).floor f =
      { s.floor f with grantOrder := (s.floor f).grantOrder.filter (· != n) } := by
  subst hn
  rw [floor_of_core (close_core n c sub s), State.floor_modSeat, State.floor_modFloor_same]

/-- Closes of seats of a floor take them out of its grant order, and change nothing else of it. -/
theorem closes_floor {f : Floor} (c : KeyCause) {l : List Nat} {s : State} (hl : ∀ n ∈ l, s.seatFloor n = f) :
    (forAll l (fun n => close n c none) s).floor f =
      { s.floor f with grantOrder := (s.floor f).grantOrder.filter (· ∉ l) } := by
  induction l generalizing s with
  | nil => simp [forAll]
  | cons m l ih =>
    have hstill := close_still m c none s
    refine (ih (fun n hn => (seatFloor_of_still hstill n).trans (hl n (List.mem_cons_of_mem m hn)))).trans ?_
    rw [close_floor (hl m List.mem_cons_self)]
    simp only [List.filter_filter, FloorRec.mk.injEq, true_and, and_true]
    refine List.filter_congr (fun n _ => ?_)
    rw [Bool.eq_iff_iff]
    simp [and_comm]

/-- The tail of a list beyond a length, taken out of it, leaves no more than that length. -/
theorem length_without_drop (l : List Nat) (k : Nat) : (l.filter (· ∉ (l.drop k).reverse)).length ≤ k := by
  have hsplit : l.filter (· ∉ (l.drop k).reverse) =
      (l.take k).filter (· ∉ (l.drop k).reverse) ++ (l.drop k).filter (· ∉ (l.drop k).reverse) := by
    rw [← List.filter_append, List.take_append_drop]
  have hnone : (l.drop k).filter (· ∉ (l.drop k).reverse) = [] := by
    simp [List.filter_eq_nil_iff]
  rw [hsplit, hnone, List.append_nil]
  exact (List.length_filter_le _ _).trans (by rw [List.length_take]; omega)

namespace Seated

variable {b : Bool} {lifted owing : Option Floor} {s t : State}

/-- An operation is made on the seats of a list, all in one floor state, each once. -/
theorem forAll_seats {op : Nat → State → State} {x : FloorState}
    (hop : ∀ n t, Seated b lifted owing t → (b = true → t.standing n = x) → Seated b lifted owing (op n t))
    (hne : ∀ m n t, n ≠ m → (op m t).seat n = t.seat n) {l : List Nat} (hnd : b = true → l.Nodup)
    (hst : b = true → ∀ n ∈ l, s.standing n = x) (hs : Seated b lifted owing s) :
    Seated b lifted owing (forAll l op s) := by
  induction l generalizing s with
  | nil => exact hs
  | cons m l ih =>
    refine ih (fun hb => (List.nodup_cons.mp (hnd hb)).2) (fun hb n hn => ?_)
      (hop m s hs (fun hb => hst hb m List.mem_cons_self))
    have hnm := ne_of_mem_of_not_mem hn (List.nodup_cons.mp (hnd hb)).1
    exact (congrArg SeatRec.floorState (hne m n s hnm)).trans (hst hb n (List.mem_cons_of_mem m hn))

section
variable (hs : Seated b lifted owing s)
include hs

theorem closes (c : KeyCause) {l : List Nat} (hnd : b = true → l.Nodup)
    (hst : b = true → ∀ n ∈ l, s.standing n = .speaking) :
    Seated b lifted owing (forAll l (fun n => Machine.close n c none) s) :=
  forAll_seats (fun _ _ ht h => ht.close c none h) (fun _ _ t h => close_seat_ne h c none t) hnd hst hs

theorem emptyQueue (f : Floor) (c : KeyCause) : Seated b lifted owing (emptyQueue f c s) :=
  forAll_seats (fun _ _ ht h => ht.dequeue c none h) (fun _ _ t h => dequeue_seat_ne h c none t)
    (hs.fits f).nodup_queue (fun hb _ hn => (hs.fits f).queued_of_mem hb hn) hs

theorem setReleases (f : Floor) (x : Option Nat) : Seated b lifted owing (setReleases f x s) :=
  hs.of_ledger (forAll_ledger (fun n t => modSeat_ledger n (by intros; rfl) t) _ s)

theorem changeToChairOnly (f : Floor) : Seated b lifted owing (changeToChairOnly f s) := by
  have hfits := hs.fits f
  have hclosed := hs.closes .mode (l := (s.floor f).grantOrder.filter (fun n => !(s.seat n).role.isChair))
    (fun hb => (hfits.nodup_grantOrder hb).filter _)
    (fun hb n hn => hfits.speaking_of_mem hb (List.mem_filter.mp hn).1)
  refine forAll_seats (fun _ _ ht h => ht.endSuspended .mode none h)
    (fun _ _ t h => endSuspended_seat_ne h .mode none t) (fun hb => (hfits.nodup_susp hb).filter _)
    (fun hb n hn => ?_) hclosed
  obtain ⟨e, he, rfl⟩ := List.mem_map.mp (List.mem_filter.mp hn).1
  have hsusp := hfits.suspended_of_mem hb he
  refine Eq.trans (congrArg SeatRec.floorState (forAll_seat_of_not_mem
    (fun _ _ t h => close_seat_ne h .mode none t) (fun hm => ?_) s)) hsusp
  have hspeak := hfits.speaking_of_mem hb (List.mem_filter.mp hm).1
  rw [hsusp] at hspeak
  cases hspeak

theorem changeMode (f : Floor) (old new : Mode) : Seated b lifted owing (changeMode f old new s) := by
  unfold Machine.changeMode
  refine ite_preserves _ (fun _ => hs) (fun _ => grantPass ?_ f)
  have freed : Seated b lifted owing (if old == .voice then Machine.setReleases f none s else s) :=
    ite_preserves _ (fun _ => hs.setReleases f none) (fun _ => hs)
  cases new with
  | openMic => exact (freed.grantQueue f .mode 8).emptyQueue f .mode
  | request => exact freed
  | chairOnly => exact freed.changeToChairOnly f
  | voice => exact (freed.emptyQueue f .mode).setReleases f (some 0)

theorem releaseVoices (f : Floor) : Seated b lifted owing (releaseVoices f s) := by
  refine hs.closes .voiceRelease (fun _ => (allSeats_nodup.filter _).filter _) (fun _ n hn => ?_)
  have hn := (List.mem_filter.mp hn).2
  simp only [Bool.and_eq_true, beq_iff_eq] at hn
  exact hn.1

end

/-- The latest-granted speakers over the limit have been closed: the limit holds again (02 R42). -/
theorem closeOverLimit {f : Floor} (hs : Seated b (some f) owing s) : Seated b none owing (closeOverLimit f s) := by
  have hfits := hs.fits f
  have hmem (n : Nat) (hn : n ∈ ((s.floor f).grantOrder.drop (s.floor f).settings.openMicLimit).reverse) :
      n ∈ (s.floor f).grantOrder := (List.drop_sublist _ _).subset (List.mem_reverse.mp hn)
  have hclosed := hs.closes .limit (l := ((s.floor f).grantOrder.drop (s.floor f).settings.openMicLimit).reverse)
    (fun hb => List.nodup_reverse.mpr ((hfits.nodup_grantOrder hb).sublist (List.drop_sublist _ _)))
    (fun hb n hn => hfits.speaking_of_mem hb (hmem n hn))
  have hfloor := closes_floor (f := f) .limit
    (fun n hn => (hfits.owned n (mem_named_of_grantOrder (hmem n hn))).2)
  refine ⟨hclosed.table, fun e => ?_⟩
  by_cases hef : e = f
  · subst hef
    refine { hclosed.fits e with limit := fun _ => ?_ }
    show ((forAll _ _ s).floor e).grantOrder.length ≤ ((forAll _ _ s).floor e).settings.openMicLimit
    rw [hfloor]
    exact length_without_drop _ _
  · exact (hclosed.fits e).weaken (fun _ h => hef (Option.some.inj h).symm) id

/-- One floor's record changes, and the laws hold of it as it is then. -/
theorem modFloor {lifted' : Option Floor} (hs : Seated b lifted owing s) {f : Floor} {g : FloorRec → FloorRec}
    (hl : ∀ e, e ≠ f → lifted = some e → lifted' = some e)
    (hg : FloorFits b (lifted' ≠ some f) (owing = some f) (s.owns f) s.standing s.chairSeat (g (s.floor f))) :
    Seated b lifted' owing (s.modFloor f g) := by
  refine ⟨by rw [State.modFloor_seats, hs.table], fun e => ?_⟩
  have hseat (n : Nat) := State.seat_modFloor f g n s
  have hread : FloorFits b (lifted' ≠ some e) (owing = some e) (s.owns e) s.standing s.chairSeat
      ((s.modFloor f g).floor e) := by
    by_cases hef : e = f
    · subst hef
      rw [State.floor_modFloor_same]
      exact hg
    · rw [State.floor_modFloor_ne hef]
      exact (hs.fits e).weaken (fun h h' => h (hl e hef h')) id
  refine hread.congr (fun n => ?_) (fun _ n _ => congrArg SeatRec.floorState (hseat n))
    (fun _ n _ => congrArg (fun r : SeatRec => r.role.isChair) (hseat n))
  unfold State.owns
  rw [seatFloor_modFloor]

/-- A floor's settings are written; the new limit is still to be applied. -/
theorem writeSettings {f : Floor} (hs : Seated b none owing s) (x : FloorSettings) :
    Seated b (some f) owing (s.modFloor f (fun r => { r with settings := x })) := by
  obtain ⟨h1, h2, h3, -, h5, h6, h7, h8, h9⟩ := hs.fits f
  exact hs.modFloor (fun _ _ h => by cases h) ⟨h1, h2, h3, fun h => absurd rfl h, h5, h6, h7, h8, h9⟩

theorem applyFloorSet (hs : Seated b none owing s) (f : Floor) (a : FloorSettingsArg) :
    Seated b none owing (applyFloorSet f a s) := by
  have limited := ((hs.writeSettings (f := f) (a.write (s.floor f).settings)).changeMode f
    (s.floor f).settings.mode (a.write (s.floor f).settings).mode).closeOverLimit
  refine grantPass (ite_preserves _ (fun _ => limited.releaseVoices f) (fun _ => limited)) f

end Seated

end Sys2Proof.Machine

namespace Sys2Proof.Machine

/-! ## What the calendar and the partition write, floor by floor -/

namespace FloorFits

/-- A floor of empty lists, with its seats IDLE. -/
theorem of_empty {b : Bool} {lim owed : Prop} {own : Nat → Prop} {st : Nat → FloorState} {chair : Nat → Bool} {r : FloorRec}
    (hr : r.named = []) (hst : b = true → ∀ n, own n → st n = .idle) : FloorFits b lim owed own st chair r := by
  obtain ⟨hq, hg, hs, hk⟩ : r.queue = [] ∧ r.grantOrder = [] ∧ r.susp = [] ∧ r.stack = [] := by
    simpa [FloorRec.named, List.append_eq_nil_iff] using hr
  refine ⟨fun n hn => ?_, fun _ => hr, ?_, fun _ => ?_, fun hb n hn => ?_, fun _ _ _ => hs, fun _ _ => hg,
    fun _ e rest he => ?_, fun _ n hn => ?_⟩
  · rw [hr] at hn
    cases hn
  · simp [hk]
  · simp [hg]
  · rw [hst hb n hn]
    simp [FloorRec.placesOf, FloorState.places, hq, hg, hs, hk]
  · rw [hk] at he
    cases he
  · rw [hq] at hn
    cases hn

end FloorFits

theorem modSeat_modSeat (n : Nat) (k k' : SeatRec → SeatRec) (s : State) :
    (s.modSeat n k).modSeat n k' = s.modSeat n (fun r => k' (k r)) := by
  cases n with
  | zero => rfl
  | succ m => exact congrArg (fun l => { s with seats := l }) (List.modify_modify_eq k k' m s.seats)

theorem not_live_of_vacant {s : State} {f : Floor} (h : (s.meeting f).state = .vacant) : s.live f = false := by
  rw [State.live, h]
  rfl

theorem not_live_of_not_anyRuns {s : State} (h : s.anyRuns = false) (f : Floor) : s.live f = false := by
  simp only [State.anyRuns, State.runs, Bool.or_eq_false_iff] at h
  have hf : (s.meeting f).state.runs = false := by
    cases f
    · exact h.1
    · exact h.2
  unfold State.live
  cases hm : (s.meeting f).state <;> simp [hm, MeetingState.runs, MeetingState.live] at hf ⊢

namespace Seated

variable {b : Bool} {s t : State}

/-! ### Rosters (01 R6 to R8) -/

/-- A seat's role is written; a queued seat does not become a chair seat by it. -/
theorem writeRole {n : Nat} {role : Role} {d : Option Delegate} (hs : Seated b none none s)
    (hq : b = true → s.standing n = .queued → role.isChair = false) :
    Seated b none none (s.modSeat n (fun r => { r with role := role, delegate := d })) := by
  have hstand (m : Nat) : (s.modSeat n (fun r => { r with role := role, delegate := d })).standing m = s.standing m :=
    seat_modSeat_keeps SeatRec.floorState (by intros; rfl) n m s
  have hside (m : Nat) : (s.modSeat n (fun r => { r with role := role, delegate := d })).seatFloor m = s.seatFloor m := by
    unfold State.seatFloor
    rw [State.modSeat_part, seat_modSeat_keeps SeatRec.side (by intros; rfl) n m s]
  refine ⟨by rw [State.modSeat_seats_length, hs.table], fun f => ?_⟩
  rw [State.floor_modSeat]
  refine (hs.fits f).congr (fun m => by unfold State.owns; rw [hside]) (fun _ m _ => hstand m) (fun hb m hm => ?_)
  by_cases hmn : m = n
  · subst hmn
    have hst := (hs.fits f).queued_of_mem hb hm
    rw [(hs.fits f).queue hb m hm, State.chairSeat,
      seat_modSeat_of_mem hs.table (hs.mem (by rw [hst]; decide))]
    exact hq hb hst
  · unfold State.chairSeat
    rw [State.seat_modSeat_ne hmn]

theorem closeTurn {n : Nat} (hs : Seated b none none s) (c : KeyCause) (o : TurnOutcome)
    (hst : b = true → s.standing n = .speaking) : Seated b none none (closeTurn n c o s) :=
  ((hs.close c none hst).of_ledger (turnReport_ledger _ _ _ _)).grantPass _

theorem editAllowance {n : Nat} (hs : Seated b none none s) (old : Option Nat) :
    Seated b none none (editAllowance n old s) := by
  refine ite_preserves _ (fun hc => hs.closeTurn _ _ (fun _ => ?_)) (fun _ => hs)
  simp only [Bool.and_eq_true, beq_iff_eq] at hc
  exact hc.1.2

theorem editHold {n : Nat} (hs : Seated b none none s) (old new : Role) :
    Seated b none none (editHold n old new s) := by
  unfold Machine.editHold
  split
  · exact ite_preserves _ (fun _ => hs.endEntry _ _) (fun _ => hs)
  · exact ite_preserves _ (fun _ => hs.endEntry _ _) (fun _ => hs)
  · next hst => exact ite_preserves _ (fun _ => hs.dequeue _ _ (fun _ => hst)) (fun _ => hs)
  all_goals exact hs

/-- A queued seat becomes a chair seat, and leaves the queue by it (01 R8). -/
theorem editQueuedChair {n : Nat} {role : Role} {d : Option Delegate} (hs : Seated b none none s)
    (hst : s.standing n = .queued) (hc : role.isChair = true) (old : Role) :
    Seated b none none (Machine.editHold n old role (s.modSeat n (fun r => { r with role := role, delegate := d }))) := by
  have hstand : ((s.modSeat n (fun r => { r with role := role, delegate := d })).seat n).floorState = .queued :=
    (seat_modSeat_keeps SeatRec.floorState (by intros; rfl) n n s).trans hst
  have hside : (s.modSeat n (fun r => { r with role := role, delegate := d })).seatFloor n = s.seatFloor n := by
    unfold State.seatFloor
    rw [State.modSeat_part, seat_modSeat_keeps SeatRec.side (by intros; rfl) n n s]
  have hleft := hs.dequeue (n := n) .release (some .role) (fun _ => hst)
  have hidle : (Machine.dequeue n .release (some .role) s).standing n = .idle := by
    have hmem := hs.mem (n := n) (by rw [hst]; decide)
    rw [standing_of_core (dequeue_core n _ _ s),
      standing_modSeat (x := .idle) (by rw [State.modFloor_seats, hs.table]) hmem (fun _ => rfl), setState_same]
  have hcore : (Machine.dequeue n .release (some .role) (s.modSeat n (fun r => { r with role := role, delegate := d }))).core =
      ((Machine.dequeue n .release (some .role) s).modSeat n (fun r => { r with role := role, delegate := d })).core := by
    rw [dequeue_core, hside, modSeat_core_congr (dequeue_core n .release (some .role) s), modSeat_modFloor,
      modSeat_modSeat, modSeat_modSeat]
    rfl
  unfold Machine.editHold
  rw [hstand]
  dsimp only
  rw [if_pos hc]
  refine (hleft.writeRole (role := role) (d := d) (fun _ hq => ?_)).of_ledger (ledger_of_core hcore)
  rw [hidle] at hq
  cases hq

theorem edit (hs : Seated b none none s) (n : Nat) (role : Role) (d : Option Delegate) :
    Seated b none none
      (editConsequences n (s.seat n) role (s.modSeat n (fun r => { r with role := role, delegate := d }))) := by
  unfold editConsequences
  by_cases hq : s.standing n = .queued ∧ role.isChair = true
  · rw [if_neg (fun h => by rw [beq_iff_eq.mp h] at hq; cases hq.2)]
    exact (hs.editQueuedChair hq.1 hq.2 _).editAllowance _
  · have written := hs.writeRole (n := n) (role := role) (d := d)
      (fun _ hst => by simpa using fun hc => hq ⟨hst, hc⟩)
    exact ite_preserves _ (fun _ => written.forcedRelease n .role)
      (fun _ => (written.editHold _ _).editAllowance _)

end Seated

end Sys2Proof.Machine

namespace Sys2Proof.Machine

theorem owns_seatFloor {s : State} {n : Nat} (hn : n ∈ allSeats) : s.owns (s.seatFloor n) n := ⟨hn, rfl⟩

namespace Seated

variable {b : Bool} {s t : State}

/-- The laws for a state whose floors are each as they were, or empty with their seats IDLE. -/
theorem of_floors (hs : Seated b none none s) (hlen : t.seats.length = s.seats.length)
    (hf : ∀ f, (t.floor f).named = [] ∧ (b = true → ∀ n, t.owns f n → t.standing n = .idle) ∨
      (t.floor f).ledger = (s.floor f).ledger ∧ (∀ n, t.owns f n ↔ s.owns f n) ∧
        ∀ n, s.owns f n → t.standing n = s.standing n ∧ t.chairSeat n = s.chairSeat n) : Seated b none none t := by
  refine ⟨hlen.trans hs.table, fun f => ?_⟩
  rcases hf f with ⟨hnone, hidle⟩ | ⟨hledger, hown, hkept⟩
  · exact .of_empty hnone hidle
  · have hfits := (hs.fits f).of_ledger hledger
    exact hfits.congr hown (fun _ n hn => (hkept n hn).1)
      (fun _ n hn => (hkept n (hfits.owned n (mem_named_of_queue hn))).2)

/-- A floor that is not LIVE stands empty, with its seats IDLE. -/
theorem closed (hs : Seated b none none s) {f : Floor} (hl : s.live f = false) :
    (s.floor f).named = [] ∧ (b = true → ∀ n, s.owns f n → s.standing n = .idle) :=
  ⟨(hs.fits f).closed hl, fun hb _ hn => (hs.fits f).idle_of_closed hb hl hn⟩

/-- One floor's record takes other settings or another meeting, while it stands empty. -/
theorem modFloor_closed (hs : Seated b none none s) {f : Floor} (hl : s.live f = false) {g : FloorRec → FloorRec}
    (hg : ∀ r, (g r).named = r.named) : Seated b none none (s.modFloor f g) := by
  obtain ⟨hnone, hidle⟩ := hs.closed hl
  exact hs.modFloor (fun _ _ => id) (.of_empty ((hg _).trans hnone) hidle)

/-- A meeting is written that is LIVE, or on a floor that is not. -/
theorem meeting (hs : Seated b none none s) {f : Floor} {m : Meeting} (h : s.live f = false ∨ m.state.live = true) :
    Seated b none none (s.modMeeting f (fun _ => m)) := by
  rcases h with hl | hm
  · exact hs.modFloor_closed hl (fun _ => rfl)
  · obtain ⟨h1, -, h3, h4, h5, h6, h7, h8, h9⟩ := hs.fits f
    refine hs.modFloor (fun _ _ => id) ⟨h1, fun hl => ?_, h3, h4, h5, h6, h7, h8, h9⟩
    rw [show m.state.live = false from hl] at hm
    cases hm

/-- A floor's record changes in what no law of the lists reads. -/
theorem modFloor_gate_mix (hs : Seated b none none s) (f : Floor) {g : FloorRec → FloorRec}
    (hg : ∀ r, ∃ x y, g r = { r with gate := x, mix := y }) : Seated b none none (s.modFloor f g) := by
  obtain ⟨x, y, hr⟩ := hg (s.floor f)
  obtain ⟨h1, h2, h3, h4, h5, h6, h7, h8, h9⟩ := hs.fits f
  refine hs.modFloor (fun _ _ => id) ?_
  rw [hr]
  exact ⟨h1, h2, h3, h4, h5, h6, h7, h8, h9⟩

theorem writeRoles_seat_of_not_mem {l : List Nat} {n : Nat} (hn : n ∉ l) (g : Nat → Role × Option Delegate) (s : State) :
    (writeRoles l g s).seat n = s.seat n := by
  unfold writeRoles
  dsimp only
  rw [seat_of_core (reports_core _ (f := rosterReport) (fun _ t => report_core _ _ t) _)]
  exact forAll_seat_of_not_mem (fun _ _ _ h => State.seat_modSeat_ne h _ _) hn s

theorem writeRoles_length (l : List Nat) (g : Nat → Role × Option Delegate) (s : State) :
    (writeRoles l g s).seats.length = s.seats.length := by
  have reported (k : ReportKind) (body : List Octet) (t : State) : (report k body t).seats.length = t.seats.length :=
    (congrArg (fun u : State => u.seats.length) (report_core k body t) :)
  exact writeRoles_keeps (fun t => t.seats.length) (fun n f t => State.modSeat_seats_length n f t) reported l g s

/-- The roster of a floor that is not LIVE is written (01 R6). -/
theorem roles (hs : Seated b none none s) {f : Floor} (hl : s.live f = false) (g : Nat → Role × Option Delegate) :
    Seated b none none (writeRoles (s.floorSeats f) g s) := by
  have hseat (n : Nat) := writeRoles_unlisted (s.floorSeats f) g n s
  have hstand (n : Nat) : (writeRoles (s.floorSeats f) g s).standing n = s.standing n :=
    (congrArg SeatRec.floorState (hseat n) :)
  have hown (e : Floor) (n : Nat) : (writeRoles (s.floorSeats f) g s).owns e n ↔ s.owns e n := by
    unfold State.owns State.seatFloor
    rw [writeRoles_part, show ((writeRoles (s.floorSeats f) g s).seat n).side = (s.seat n).side from
      (congrArg SeatRec.side (hseat n) :)]
  refine hs.of_floors (writeRoles_length _ g s) (fun e => ?_)
  by_cases hef : e = f
  · subst hef
    obtain ⟨hnone, hidle⟩ := hs.closed hl
    exact Or.inl ⟨by rw [writeRoles_floor, hnone], fun hb n hn => (hstand n).trans (hidle hb n ((hown e n).mp hn))⟩
  · refine Or.inr ⟨by rw [writeRoles_floor], hown e, fun n hn => ⟨hstand n, ?_⟩⟩
    refine congrArg (fun r : SeatRec => r.role.isChair) (writeRoles_seat_of_not_mem (fun hm => hef ?_) g s)
    exact hn.2.symm.trans ((mem_floorSeats s f n).mp hm).2

end Seated

/-- A meeting's end leaves the seats of the other floors, what presence and plates apart from them. -/
theorem endMeeting_seat_of_not_mem {f : Floor} {n : Nat} {s : State} (o : Outcome) (hn : n ∉ s.floorSeats f) :
    (endMeeting f o s).seat n = s.seat n := by
  obtain ⟨w, hw, hd⟩ := disbanded_core f o s
  rw [endMeeting_seat, seat_of_core hd]
  have left (k : Nat → SeatRec → SeatRec) (t : State) :
      (forAll (s.floorSeats f) (fun m => State.modSeat m (k m)) t).seat n = t.seat n :=
    forAll_seat_of_not_mem (fun _ _ _ h => State.seat_modSeat_ne h _ _) hn t
  unfold unseated
  rw [left, State.seat_of_seats (forAll_keeps (·.seats) _ (fun m t => State.modPlate_seats m _ t) _ _), left,
    seat_of_core hw, releaseFloor_seat, left]

theorem endMeeting_seat_side (f : Floor) (o : Outcome) (n : Nat) (s : State) :
    ((endMeeting f o s).seat n).side = (s.seat n).side := by
  obtain ⟨w, hw, hd⟩ := disbanded_core f o s
  have kept (r : SeatRec) : (r.withPresence .absent).side = r.side := by
    unfold SeatRec.withPresence
    split <;> rfl
  rw [endMeeting_seat, seat_of_core hd]
  unfold unseated
  rw [forAll_modSeat_keeps SeatRec.side (by intros; rfl),
    State.seat_of_seats (forAll_keeps (·.seats) _ (fun m t => State.modPlate_seats m _ t) _ _),
    forAll_modSeat_keeps SeatRec.side (fun _ => kept), seat_of_core hw, releaseFloor_seat,
    forAll_modSeat_keeps SeatRec.side (fun _ => endMeeting_side)]

theorem endMeeting_length (f : Floor) (o : Outcome) (s : State) :
    (endMeeting f o s).seats.length = s.seats.length := by
  have of_core {u v : State} (h : u.core = v.core) : u.seats.length = v.seats.length :=
    (congrArg (fun x : State => x.seats.length) h :)
  have mods (k : Nat → SeatRec → SeatRec) (l : List Nat) (u : State) :
      (forAll l (fun m => State.modSeat m (k m)) u).seats.length = u.seats.length :=
    forAll_keeps (fun x : State => x.seats.length) _ (fun m t => State.modSeat_seats_length m _ t) l u
  obtain ⟨w, hw, hd⟩ := disbanded_core f o s
  have disbanded : (disbanded f o s).seats.length = s.seats.length := by
    rw [of_core hd, unseated, mods, forAll_keeps (fun x : State => x.seats.length) _
      (fun m t => congrArg List.length (State.modPlate_seats m _ t)), mods, of_core hw,
      of_core (releaseFloor_core f s), clearedFloor, State.modFloor_seats, mods]
  rw [of_core (endMeeting_core f o s), State.modMeeting_seats]
  split <;> exact disbanded

namespace Seated

variable {b : Bool} {s t : State}

theorem endMeeting (hs : Seated b none none s) (f : Floor) (o : Outcome) : Seated b none none (endMeeting f o s) := by
  have hown (e : Floor) (n : Nat) : (Machine.endMeeting f o s).owns e n ↔ s.owns e n := by
    unfold State.owns State.seatFloor
    rw [endMeeting_part, endMeeting_seat_side]
  refine hs.of_floors (endMeeting_length f o s) (fun e => ?_)
  by_cases hef : e = f
  · subst hef
    refine Or.inl ⟨by rw [endMeeting_floor_same]; rfl, fun _ n hn => ?_⟩
    unfold State.standing
    rw [endMeeting_seat]
    exact (disbanded_seat o ((mem_floorSeats s e n).mpr ((hown e n).mp hn))).1
  · refine Or.inr ⟨by rw [endMeeting_floor_ne hef], hown e, fun n hn => ?_⟩
    have hseat := endMeeting_seat_of_not_mem (f := f) (n := n) (s := s) o
      (fun hm => hef (hn.2.symm.trans ((mem_floorSeats s f n).mp hm).2))
    exact ⟨congrArg SeatRec.floorState hseat, congrArg (fun r : SeatRec => r.role.isChair) hseat⟩

/-- The partition changes while no floor runs a meeting (06 R109). -/
theorem partition (hs : Seated b none none s) (x : Partition) (hr : s.anyRuns = false) :
    Seated b none none { s with part := { s.part with partition := x } } := by
  have hclosed (f : Floor) := hs.closed (not_live_of_not_anyRuns hr f)
  refine hs.of_floors rfl (fun f => Or.inl ⟨(hclosed f).1, fun hb n hn => ?_⟩)
  exact (hclosed _).2 hb n (owns_seatFloor hn.1)

/-- A seat moves to another side while its old floor and its new one are VACANT (01 R5). -/
theorem side (hs : Seated b none none s) {n : Nat} {x : Floor} (hold : (s.meeting (s.seatFloor n)).state = .vacant)
    (hnew : (s.meeting (s.part.partition.floorOf x)).state = .vacant) :
    Seated b none none (s.modSeat n (fun r => { r with side := x })) := by
  have hstand (m : Nat) : (s.modSeat n (fun r => { r with side := x })).standing m = s.standing m :=
    seat_modSeat_keeps SeatRec.floorState (by intros; rfl) n m s
  have hchair (m : Nat) : (s.modSeat n (fun r => { r with side := x })).chairSeat m = s.chairSeat m :=
    seat_modSeat_keeps (fun r : SeatRec => r.role.isChair) (by intros; rfl) n m s
  have hmoved (m : Nat) (hm : m ≠ n) : (s.modSeat n (fun r => { r with side := x })).seatFloor m = s.seatFloor m := by
    unfold State.seatFloor
    rw [State.modSeat_part, State.seat_modSeat_ne hm]
  have hself : (s.modSeat n (fun r => { r with side := x })).seatFloor n = s.seatFloor n ∨
      (s.modSeat n (fun r => { r with side := x })).seatFloor n = s.part.partition.floorOf x := by
    unfold State.seatFloor
    rw [State.modSeat_part]
    rcases seat_modSeat_or n (fun r => { r with side := x }) n s with h | h
    · exact Or.inl (by rw [h])
    · exact Or.inr (by rw [h])
  refine hs.of_floors (State.modSeat_seats_length _ _ _) (fun f => ?_)
  rw [State.floor_modSeat]
  by_cases hf : f = s.seatFloor n ∨ f = s.part.partition.floorOf x
  · obtain ⟨hnone, hidle⟩ := hs.closed (f := f) (not_live_of_vacant (by rcases hf with rfl | rfl <;> assumption))
    refine Or.inl ⟨hnone, fun hb m hm => (hstand m).trans ?_⟩
    by_cases hmn : m = n
    · subst hmn
      exact (hs.closed (not_live_of_vacant hold)).2 hb m (owns_seatFloor hm.1)
    · exact hidle hb m ⟨hm.1, (hmoved m hmn).symm.trans hm.2⟩
  · rw [not_or] at hf
    refine Or.inr ⟨rfl, fun m => and_congr_right (fun _ => ?_), fun m _ => ⟨hstand m, hchair m⟩⟩
    by_cases hmn : m = n
    · subst hmn
      refine iff_of_false (fun h => ?_) (fun h => hf.1 h.symm)
      rcases hself with h' | h'
      · exact hf.1 (h.symm.trans h')
      · exact hf.2 (h.symm.trans h')
    · rw [hmoved m hmn]

theorem warm (hs : Seated b none none s) : Seated b none none (warmState s) := by
  refine hs.of_floors (by simp [warmState]) (fun f => Or.inl ⟨?_, fun _ n _ => ?_⟩)
  · rw [show (warmState s).floor f = Reset.floor (s.profile 0) from warmWith_floor _ s f]
    rfl
  · exact congrArg SeatRec.floorState (warmWith_seat (warmState s).pending s n)

end Seated

/-- The laws of the lists, and with `b` those of the seats' places, said in the obligations' words. -/
theorem seated_iff (b : Bool) (s : State) : Seated b none none s ↔
    s.seats.length = 48 ∧ ListsPlaced s ∧ (b = true → SeatsStandOnce s) := by
  constructor
  · intro hs
    refine ⟨hs.table, fun f => ?_, fun hb => ⟨fun n hn => ?_, fun f => ?_⟩⟩
    · exact ⟨(hs.fits f).owned, (hs.fits f).closed, (hs.fits f).limit (by simp), (hs.fits f).stack⟩
    · exact (standsOnce_iff s n).mpr ((hs.fits _).once hb n (owns_seatFloor hn))
    · exact ⟨(hs.fits f).settled hb (by simp), (hs.fits f).silent hb, (hs.fits f).top hb, (hs.fits f).queue hb⟩
  · rintro ⟨htable, hlists, hplaces⟩
    refine ⟨htable, fun f => ?_⟩
    obtain ⟨howned, hclosed, hlimit, hstack⟩ := hlists f
    refine ⟨howned, hclosed, hstack, fun _ => hlimit, fun hb n hn => ?_, fun hb _ => ((hplaces hb).2 f).1,
      fun hb => ((hplaces hb).2 f).2.1, fun hb => ((hplaces hb).2 f).2.2.1, fun hb => ((hplaces hb).2 f).2.2.2⟩
    have hstands := (standsOnce_iff s n).mp ((hplaces hb).1 n hn.1)
    rwa [hn.2] at hstands

theorem seated_trunkFrame (b : Bool) : TrunkFrame (Seated b none none) where
  quiet h hs := hs.of_ledger h
  forcedRelease n sub {_} hs := hs.forcedRelease n sub
  priorityRelease n {_} hs := hs.priorityRelease n

theorem seated_meetingFrame (b : Bool) : MeetingFrame (Seated b none none) where
  toTrunkFrame := seated_trunkFrame b
  request n {_} he hl hst hs := hs.request he hl (by simp) hst
  dequeue n c sub {_} hst hs := hs.dequeue c sub (fun _ => hst)
  close n c sub {_} hst hs := hs.close c sub (fun _ => hst)
  endSuspended n c sub {_} hst hs := hs.endSuspended c sub (fun _ => hst)
  grantPass f {_} hs := hs.grantPass f
  priorityPress n {_} he hs := hs.priorityPress he
  nextPress n {_} hs := hs.nextPress n
  roles f g {_} hl hs := hs.roles hl g
  profile f k {_} hl hs := hs.modFloor_closed hl (fun _ => rfl)
  meeting f m {_} h hs := hs.meeting h
  endMeeting f o {_} hs := hs.endMeeting f o

theorem seated_stepFrame (b : Bool) : StepFrame (Seated b none none) where
  toMeetingFrame := seated_meetingFrame b
  partition x {_} hr hs := hs.partition x hr
  side n x {_} hold hnew hs := hs.side hold hnew
  floorSet f a {_} hs := hs.applyFloorSet f a
  gateSet f a {_} hs := hs.modFloor_gate_mix f (fun r => ⟨_, r.mix, rfl⟩)
  mixSet f a {_} hs := hs.modFloor_gate_mix f (fun r => ⟨r.gate, _, rfl⟩)
  profileSet a {_} hs := ⟨hs.table, hs.fits⟩
  grant f n c {s} hn hfree hs := hs.grant c ((hs.fits f).owned n (mem_named_of_queue hn))
    ((hs.fits f).live_of_mem (mem_named_of_queue hn)) hfree (fun hb => Or.inr ((hs.fits f).queued_of_mem hb hn))
  emptyQueue f c {_} hs := hs.emptyQueue f c
  endAllEntries why f {_} hs := hs.endAllEntries why f
  edit n role d {_} hs := hs.edit n role d
  warm hs := hs.warm
  reset := (seated_iff b _).mpr ⟨by simp [State.reset], reset_listsPlaced, fun _ => reset_seatsStandOnce⟩

/-- Settles O58: the tables' size, the lists' law and the seats' places are one law, floor by floor, that every act of the
floor controllers, of the calendar and of the partition monitor keeps. -/
theorem everyStepKeepsTheListsPlaced : Obligations.EveryStepKeepsTheListsPlaced := by
  refine ⟨fun s t ht hl hst => ?_, fun s t ht hl hp hst => ?_⟩
  · have hs := (seated_iff false s).mpr ⟨ht.1, hl, fun h => by cases h⟩
    exact ((seated_iff false t).mp ((seated_stepFrame false).step_preserves hs hst)).2.1
  · have hs := (seated_iff true s).mpr ⟨ht.1, hl, fun _ => hp⟩
    exact ((seated_iff true t).mp ((seated_stepFrame true).step_preserves hs hst)).2.2 rfl

end Sys2Proof.Machine

namespace Sys2Proof.Machine

/-! ## What grants, closes and passes do (02 R24 to R36) -/

theorem becomeSpeaking_leaveQueue (n : Nat) (x : Turn) (s : State) :
    becomeSpeaking n x (leaveQueue n s) = (s.modFloor (s.seatFloor n) (fun r =>
      { r with queue := r.queue.filter (· != n), grantOrder := r.grantOrder ++ [n], meeting := r.meeting.restIdle })).modSeat n
      (fun r => r.speaks (s.floor (s.seatFloor n)).settings.mode x) := by
  unfold leaveQueue
  rw [becomeSpeaking_eq, seatFloor_modFloor, modFloor_modFloor, State.floor_modFloor_same]

theorem refuse_core (n : Nat) (c : KeyCause) (why : Refused) (s : State) :
    (refuse n c why s).core = (s.modSeat n (fun r => { r with refusal := some 0 })).core := keyReport_core _ _ _ _ _

theorem seatFloor_of_core {s t : State} (h : t.core = s.core) (n : Nat) : t.seatFloor n = s.seatFloor n :=
  seatFloor_of_still (still_of_core h) n

/-- States of one core grant alike. -/
theorem grant_core_congr {s t : State} (h : t.core = s.core) (n : Nat) (c c' : KeyCause) :
    (grant n c t).core = (grant n c' s).core := by
  rw [grant_core, grant_core, seatFloor_of_core h, floor_of_core h]
  exact modSeat_core_congr (modFloor_core_congr h _ _) _ _

/-- The grant of a seat in a state whose floor has the settings that the turn's limit is read from. -/
theorem grant_core_speaks {n : Nat} {s : State} (c : KeyCause) {set : FloorSettings}
    (h : (s.floor (s.seatFloor n)).settings = set) :
    (grant n c s).core = (becomeSpeaking n (startTurn set.turnLimit) (leaveQueue n s)).core := by
  subst h
  exact keyReport_core _ _ _ _ _

theorem grantPass_of_quiet {f : Floor} {s : State} (h : (s.floor f).settings.mode = .openMic ∨
    (s.floor f).settings.mode = .chairOnly) : grantPass f s = s := by
  unfold grantPass
  split
  · rcases h with h | h <;> rw [h]
  · rfl

theorem grantQueue_of_full {f : Floor} {s : State} (c : KeyCause) (k : Nat) (h : s.slotFree f = false) :
    grantQueue f c k s = s := by
  cases k with
  | zero => rfl
  | succ k => exact if_neg (by rw [h]; decide)

theorem grantQueue_of_empty {f : Floor} {s : State} (c : KeyCause) (k : Nat) (h : (s.floor f).queue = []) :
    grantQueue f c k s = s := by
  cases k with
  | zero => rfl
  | succ k =>
    unfold grantQueue
    rw [h]
    split <;> rfl

theorem grantPass_of_request {f : Floor} {s : State} (hm : (s.floor f).settings.mode = .request)
    (h : ((s.floor f).settings.autoGrant && s.slotFree f) = false) : grantPass f s = s := by
  rw [Bool.and_eq_false_iff] at h
  unfold grantPass
  split
  · rw [hm]
    dsimp only
    split
    · next ha => exact grantQueue_of_full .auto 8 (h.resolve_left (by rw [ha]; decide))
    · rfl
  · rfl

/-- An auto-grant pass that finds one seat queued and a slot free grants it. -/
theorem grantPass_of_single {f : Floor} {n : Nat} {s : State} (hl : s.live f = true)
    (hm : (s.floor f).settings.mode = .request) (ha : (s.floor f).settings.autoGrant = true) (hfree : s.slotFree f = true)
    (hq : (s.floor f).queue = [n]) (hn : s.seatFloor n = f) : grantPass f s = grant n .auto s := by
  have left : ((grant n .auto s).floor f).queue = [] := by
    subst hn
    rw [floor_of_core (grant_core n .auto s), State.floor_modSeat, State.floor_modFloor_same]
    simp [hq]
  unfold grantPass
  rw [if_pos hl, hm]
  dsimp only
  rw [if_pos ha]
  unfold grantQueue
  rw [if_pos hfree, hq]
  exact grantQueue_of_empty .auto 7 left

/-! ## Requests (02 R24, R28 to R32) -/

/-- A seat joins the queue. -/
def joined (n : Nat) (s : State) : State :=
  (s.modFloor (s.seatFloor n) (fun r => { r with queue := r.queue ++ [n] })).modSeat n (SeatRec.toState .queued)

theorem joined_seatFloor (n : Nat) (s : State) : (joined n s).seatFloor n = s.seatFloor n := by
  unfold State.seatFloor joined
  rw [State.modSeat_part, State.modFloor_part, seat_modSeat_keeps SeatRec.side (by intros; rfl), State.seat_modFloor]

theorem joined_floor (n : Nat) (s : State) : (joined n s).floor (s.seatFloor n) =
    { s.floor (s.seatFloor n) with queue := (s.floor (s.seatFloor n)).queue ++ [n] } := by
  rw [joined, State.floor_modSeat, State.floor_modFloor_same]

/-- A seat that joins the queue and is granted at once speaks as one that has not queued. -/
theorem grant_joined (n : Nat) (c : KeyCause) (s : State) : (grant n c (joined n s)).core = (grant n c s).core := by
  have once (r : FloorRec) : (r.queue ++ [n]).filter (· != n) = r.queue.filter (· != n) := by simp
  rw [grant_core, grant_core, joined_seatFloor, joined_floor]
  unfold joined
  rw [modSeat_modFloor, modSeat_modSeat, modFloor_modFloor]
  simp only [once]
  rfl

section
variable {n : Nat} {s t : State}

/-- A request that takes the place of the earliest-granted speaker, as `requestTaken` says it. -/
theorem bump_core {f : Floor} (hf : s.seatFloor n = f) (ht : t.core = (bump n f s).core) :
    match (s.floor f).grantOrder.find? (fun m => !(s.seat m).role.isChair) with
    | none => t.core = (s.modSeat n (fun r => { r with refusal := some 0 })).core
    | some m => t.core = (becomeSpeaking n (startTurn (s.floor f).settings.turnLimit) (leaveQueue n
        ((s.modFloor (s.seatFloor m) (fun r => { r with grantOrder := r.grantOrder.filter (· != m) })).modSeat m
          (fun r => (r.toState .idle).accountTurn)))).core := by
  subst hf
  unfold bump State.bumpable at ht
  split
  · next h =>
    rw [h] at ht
    exact ht.trans (refuse_core _ _ _ s)
  · next m h =>
    rw [h] at ht
    have hc := close_core m .bump none s
    refine ht.trans ((grant_core_congr hc.symm n .key .key).symm.trans (grant_core_speaks .key ?_))
    have hstill := (still_of_core hc).symm.trans (close_still m .bump none s)
    rw [seatFloor_of_still hstill, settings_of_still hstill]

/-- A request that goes to the queue is refused by a full one, or joins it, and the pass follows. -/
theorem requestQueued_core (hl : s.live (s.seatFloor n) = true) (ht : t.core = (requestQueued n (s.seatFloor n) s).core) :
    if 24 ≤ (s.floor (s.seatFloor n)).queue.length then t.core = (s.modSeat n (fun r => { r with refusal := some 0 })).core
    else ∃ u, u.core = (joined n s).core ∧ u.live (s.seatFloor n) = true ∧ u.seatFloor n = s.seatFloor n ∧
      u.floor (s.seatFloor n) = { s.floor (s.seatFloor n) with queue := (s.floor (s.seatFloor n)).queue ++ [n] } ∧
      t.core = (grantPass (s.seatFloor n) u).core := by
  unfold requestQueued at ht
  split
  · next hf =>
    rw [if_pos hf] at ht
    exact ht.trans (refuse_core _ _ _ s)
  · next hf =>
    rw [if_neg hf] at ht
    have hc : (keyReport n .key none none (joined n s)).core = (joined n s).core := keyReport_core _ _ _ _ _
    have hfloor := (floor_of_core hc (s.seatFloor n)).trans (joined_floor n s)
    refine ⟨_, hc, ?_, (seatFloor_of_core hc n).trans (joined_seatFloor n s), hfloor, ht⟩
    unfold State.live State.meeting
    rw [hfloor]
    exact hl

theorem slotFree_of_floor {u : State} {f : Floor} {q : List Nat} (h : u.floor f = { s.floor f with queue := q }) :
    u.slotFree f = s.slotFree f := by
  unfold State.slotFree State.holdActive
  rw [h]

/-- What becomes of a request (02 R24). -/
theorem request_taken (hl : s.live (s.seatFloor n) = true) (ht : t.core = (request n s).core) : requestTaken n s t := by
  have refused {c : KeyCause} {w : Refused} (h : t.core = (refuse n c w s).core) :
      t.core = (s.modSeat n (fun r => { r with refusal := some 0 })).core := h.trans (refuse_core _ _ _ s)
  have granted {c : KeyCause} (h : t.core = (grant n c s).core) := h.trans (grant_core_speaks c rfl)
  have still : t.still = s.still := (still_of_core ht).trans (request_still n s)
  unfold requestTaken
  unfold request at ht
  dsimp only at ht ⊢
  split
  · next ha =>
    obtain ⟨w, hw⟩ := Option.isSome_iff_exists.mp ha
    rw [hw] at ht
    exact refused ht
  · next ha =>
    rw [Option.not_isSome_iff_eq_none.mp ha] at ht
    dsimp only at ht
    split
    · next hc =>
      rw [if_pos hc] at ht
      unfold requestChair at ht
      split
      · next hh => rw [if_pos hh] at ht; exact refused ht
      · next hh =>
        rw [if_neg hh] at ht
        split
        · next hfree => rw [if_pos hfree] at ht; exact granted ht
        · next hfree => rw [if_neg hfree] at ht; exact bump_core rfl ht
    · next hc =>
      rw [if_neg hc] at ht
      split
      · next hm =>
        rw [hm] at ht
        have hq := requestQueued_core hl ht
        split at hq
        · next hf => rw [if_pos hf]; exact hq
        · next hf =>
          rw [if_neg hf]
          obtain ⟨u, hu, -, -, hfloor, hpass⟩ := hq
          rw [grantPass_of_quiet (Or.inr (by rw [hfloor]; exact hm))] at hpass
          exact hpass.trans hu
      · next hm =>
        rw [hm] at ht
        have hq := requestQueued_core hl ht
        split at hq
        · next hf => rw [if_pos hf]; exact hq
        · next hf =>
          rw [if_neg hf]
          obtain ⟨u, hu, hlive, hn, hfloor, hpass⟩ := hq
          have hmode : (u.floor (s.seatFloor n)).settings.mode = .request := by rw [hfloor]; exact hm
          have hauto : (u.floor (s.seatFloor n)).settings.autoGrant = (s.floor (s.seatFloor n)).settings.autoGrant := by
            rw [hfloor]
          have hfree := slotFree_of_floor hfloor
          split
          · next hw =>
            rw [grantPass_of_request hmode (by rw [hauto, hfree, Bool.and_eq_false_iff]; simpa using hw)] at hpass
            exact hpass.trans hu
          · next hw =>
            simp only [Bool.or_eq_true, Bool.not_eq_true', not_or, Bool.not_eq_false] at hw
            split
            · next hempty =>
              rw [grantPass_of_single hlive hmode (hauto.trans hw.1) (hfree.trans hw.2) (by rw [hfloor, hempty]; rfl) hn] at hpass
              exact granted (c := .auto) (hpass.trans ((grant_core_congr hu n .auto .auto).trans (grant_joined n .auto s)))
            · exact still
      · next hm =>
        rw [hm] at ht
        unfold requestOpen at ht
        split
        · next hh => rw [if_pos hh] at ht; exact refused ht
        · next hh =>
          rw [if_neg hh] at ht
          split
          · next hfree => rw [if_pos hfree] at ht; exact granted ht
          · next hfree =>
            rw [if_neg hfree] at ht
            split
            · next hp => rw [hp] at ht; exact refused ht
            · next hp => rw [hp] at ht; exact bump_core rfl ht
      · next hm =>
        rw [hm] at ht
        exact refused ht

end

end Sys2Proof.Machine

namespace Sys2Proof.Machine

/-! ## Key events in ACTIVE (02 R22 to R25; 04 R78 to R80) -/

theorem pressed_seat (n m : Nat) (k : Key) (s : State) : (s.pressed n k).seat m = s.seat m :=
  State.seat_of_seats (State.modDets_seats n _ s) m

theorem pressed_floor (n : Nat) (k : Key) (f : Floor) (s : State) : (s.pressed n k).floor f = s.floor f :=
  State.floor_of_floors (State.modDets_floorA n _ s) (State.modDets_floorB n _ s) f

theorem pressed_part (n : Nat) (k : Key) (s : State) : (s.pressed n k).part = s.part := State.modDets_part n _ s

theorem pressed_seatFloor (n m : Nat) (k : Key) (s : State) : (s.pressed n k).seatFloor m = s.seatFloor m := by
  unfold State.seatFloor
  rw [pressed_seat, pressed_part]

theorem pressed_live (n : Nat) (k : Key) (f : Floor) (s : State) : (s.pressed n k).live f = s.live f :=
  live_of_floor (pressed_floor n k f s)

theorem pressed_holdActive (n : Nat) (k : Key) (f : Floor) (s : State) :
    (s.pressed n k).holdActive f = s.holdActive f := by
  unfold State.holdActive
  rw [pressed_floor]

theorem pressed_slotFree (n : Nat) (k : Key) (f : Floor) (s : State) :
    (s.pressed n k).slotFree f = s.slotFree f := by
  unfold State.slotFree
  rw [pressed_holdActive, pressed_floor]

section
variable {n : Nat} {s : State} (hg : s.givesKeys n = true)
include hg

/-- A key event reaches the floor controller while the room is ACTIVE; the refresh follows. -/
theorem giveKey_active (k : Key) (e : KeyEvent) (hp : s.pwr.state = .active) :
    ∃ t, finish s (giveKey n k e s) = .next t ∧
      t.core = (floorKey n k e (if e == .press then restPower (s.modDets n (SeatDets.mod k (Detector.after e)))
        else s.modDets n (SeatDets.mod k (Detector.after e)))).core := by
  let u := s.modDets n (SeatDets.mod k (Detector.after e))
  have hactive : u.pwr.state == .active := by
    rw [State.modDets_pwr, hp]
    rfl
  have hpending : (floorKey n k e (if e == .press then restPower u else u)).pending = s.pending := by
    rw [floorKey_pending]
    split <;> exact State.modDets_pending n _ s
  obtain ⟨t, ht, hc, -⟩ := finish_refresh (u := floorKey n k e (if e == .press then restPower u else u)) rfl hpending
  unfold giveKey
  rw [if_pos hg, deliverKey, if_pos hactive]
  exact ⟨t, ht, hc⟩

/-- A PRESS in ACTIVE. -/
theorem press_active (k : Key) (hp : s.pwr.state = .active) :
    ∃ t, finish s (giveKey n k .press s) = .next t ∧ t.core = (floorKey n k .press (s.pressed n k)).core :=
  giveKey_active hg k .press hp

end

/-- Settles O31, from what a request does in each mode. -/
theorem micPressOfAnIdleSeat : Obligations.MicPressOfAnIdleSeat := by
  intro n s hp hg hst hl
  obtain ⟨t, ht, hc⟩ := press_active hg .mic hp
  have hlive : (s.pressed n .mic).live ((s.pressed n .mic).seatFloor n) = true := by
    rw [pressed_live, pressed_seatFloor, hl]
  have requested : floorKey n .mic .press (s.pressed n .mic) = request n (s.pressed n .mic) := by
    unfold floorKey micPress
    rw [pressed_seat, hst]
    exact if_pos hlive
  exact ⟨t, ht, request_taken hlive (by rw [hc, requested])⟩

end Sys2Proof.Machine

namespace Sys2Proof.Machine

/-! ## What grants leave -/

section
variable {R : State → State → Prop} (refl : ∀ s, R s s) (trans : ∀ s t u, R s t → R t u → R s u)
  (one : ∀ m c s, R s (grant m c s))
include refl trans one

theorem grantQueue_relates (f : Floor) (c : KeyCause) (k : Nat) (s : State) : R s (grantQueue f c k s) := by
  induction k generalizing s with
  | zero => exact refl s
  | succ k ih =>
    unfold grantQueue
    split
    · split
      · exact trans _ _ _ (one _ c s) (ih _)
      · exact refl s
    · exact refl s

theorem grantVoices_relates (f : Floor) (k : Nat) (s : State) : R s (grantVoices f k s) := by
  induction k generalizing s with
  | zero => exact refl s
  | succ k ih =>
    unfold grantVoices
    split
    · split
      · exact trans _ _ _ (one _ .voice s) (ih _)
      · exact refl s
    · exact refl s

/-- A grant pass relates the states that grants relate. -/
theorem grantPass_relates (f : Floor) (s : State) : R s (grantPass f s) := by
  unfold grantPass
  split
  · split
    · split
      · exact grantQueue_relates refl trans one f .auto 8 s
      · exact refl s
    · exact grantVoices_relates refl trans one f 8 s
    · exact refl s
    · exact refl s
  · exact refl s

end

/-- What every grant keeps, the pass keeps. -/
theorem grantPass_keeps {β : Type} (p : State → β) (h : ∀ m c s, p (grant m c s) = p s) (f : Floor) (s : State) :
    p (grantPass f s) = p s :=
  grantPass_relates (R := fun s t => p t = p s) (fun _ => rfl) (fun _ _ _ h k => k.trans h) h f s

theorem grant_floor (m : Nat) (c : KeyCause) (g : Floor) (s : State) : (grant m c s).floor g =
    if g = s.seatFloor m then { s.floor g with
      queue := (s.floor g).queue.filter (· != m), grantOrder := (s.floor g).grantOrder ++ [m],
      meeting := (s.floor g).meeting.restIdle } else s.floor g := by
  rw [floor_of_core (grant_core m c s), State.floor_modSeat]
  split
  · next h =>
    subst h
    rw [State.floor_modFloor_same]
  · next h => rw [State.floor_modFloor_ne h]

theorem grant_seat_ne {n m : Nat} (h : n ≠ m) (c : KeyCause) (s : State) : (grant m c s).seat n = s.seat n :=
  (grant_passesBy h c s).seat

/-- A grant accounts no turn. -/
theorem grant_accTurns (n m : Nat) (c : KeyCause) (s : State) :
    ((grant m c s).seat n).accTurns = (s.seat n).accTurns := by
  rw [seat_of_core (grant_core m c s), seat_modSeat_keeps SeatRec.accTurns (by intros; rfl), State.seat_modFloor]

theorem grant_susp (m : Nat) (c : KeyCause) (g : Floor) (s : State) : ((grant m c s).floor g).susp = (s.floor g).susp := by
  rw [grant_floor]
  split <;> rfl

theorem grant_stack (m : Nat) (c : KeyCause) (g : Floor) (s : State) :
    ((grant m c s).floor g).stack = (s.floor g).stack := by
  rw [grant_floor]
  split <;> rfl

theorem grantPass_accTurns (n : Nat) (f : Floor) (s : State) :
    ((grantPass f s).seat n).accTurns = (s.seat n).accTurns :=
  grantPass_keeps (fun t => (t.seat n).accTurns) (fun m c t => grant_accTurns n m c t) f s

theorem grantPass_susp (g f : Floor) (s : State) : ((grantPass f s).floor g).susp = (s.floor g).susp :=
  grantPass_keeps (fun t => (t.floor g).susp) (fun m c t => grant_susp m c g t) f s

theorem grantPass_stack (g f : Floor) (s : State) : ((grantPass f s).floor g).stack = (s.floor g).stack :=
  grantPass_keeps (fun t => (t.floor g).stack) (fun m c t => grant_stack m c g t) f s

/-- A grant pass adds speakers at the tail of a grant order, and takes from a queue. -/
theorem grantPass_order (g f : Floor) (s : State) :
    (s.floor g).grantOrder <+: ((grantPass f s).floor g).grantOrder ∧
      ((grantPass f s).floor g).queue ⊆ (s.floor g).queue := by
  refine grantPass_relates (R := fun s t => (s.floor g).grantOrder <+: (t.floor g).grantOrder ∧
    (t.floor g).queue ⊆ (s.floor g).queue) (fun s => ⟨List.prefix_rfl, List.Subset.refl _⟩)
    (fun _ _ _ h k => ⟨h.1.trans k.1, List.Subset.trans k.2 h.2⟩) (fun m c s => ?_) f s
  rw [grant_floor]
  split
  · exact ⟨List.prefix_append _ _, List.filter_sublist.subset⟩
  · exact ⟨List.prefix_rfl, List.Subset.refl _⟩

/-- Grants from a queue pass by a seat that is not in it. -/
theorem grantQueue_spares {n : Nat} {f : Floor} (c : KeyCause) (k : Nat) {s : State} (h : n ∉ (s.floor f).queue) :
    (grantQueue f c k s).seat n = s.seat n ∧
      ∀ g, n ∈ ((grantQueue f c k s).floor g).grantOrder → n ∈ (s.floor g).grantOrder := by
  induction k generalizing s with
  | zero => exact ⟨rfl, fun _ => id⟩
  | succ k ih =>
    unfold grantQueue
    split
    · split
      · next m rest hq =>
        have hm : n ≠ m := by
          rintro rfl
          exact h (by rw [hq]; exact List.mem_cons_self)
        have left : n ∉ ((grant m c s).floor f).queue := by
          rw [grant_floor]
          split
          · exact fun hn => h (List.mem_filter.mp hn).1
          · exact h
        obtain ⟨hseat, horder⟩ := ih left
        refine ⟨hseat.trans (grant_seat_ne hm c s), fun g hg => ?_⟩
        have hg := horder g hg
        rw [grant_floor] at hg
        split at hg
        · exact (List.mem_append.mp hg).resolve_right (by simpa using hm)
        · exact hg
      · exact ⟨rfl, fun _ => id⟩
    · exact ⟨rfl, fun _ => id⟩

/-- Outside VOICE a grant pass passes by a seat that is not queued. -/
theorem grantPass_spares {n : Nat} {f : Floor} {s : State} (hm : (s.floor f).settings.mode ≠ .voice)
    (h : n ∉ (s.floor f).queue) : (grantPass f s).seat n = s.seat n ∧
      ∀ g, n ∈ ((grantPass f s).floor g).grantOrder → n ∈ (s.floor g).grantOrder := by
  unfold grantPass
  split
  · split
    · split
      · exact grantQueue_spares .auto 8 h
      · exact ⟨rfl, fun _ => id⟩
    · next hv => exact absurd hv hm
    · exact ⟨rfl, fun _ => id⟩
    · exact ⟨rfl, fun _ => id⟩
  · exact ⟨rfl, fun _ => id⟩

/-! ## Seats that keys act on -/

/-- A seat that is not IDLE is one of the table. -/
theorem seat_modSeat_of_busy {n : Nat} {s : State} (h : (s.seat n).floorState ≠ .idle) (k : SeatRec → SeatRec) :
    (s.modSeat n k).seat n = k (s.seat n) := by
  rcases State.seat_modSeat_cases (n := n) (s := s) k with h' | ⟨-, h'⟩
  · exact h'
  · exact absurd (by rw [h']; rfl) h

/-- A turn that has been ended is accounted (03 R63). -/
theorem accTurns_of_ended {n : Nat} {s u : State} {f : Floor} {g : FloorRec → FloorRec} {k : SeatRec → SeatRec}
    (hst : (s.seat n).floorState ≠ .idle) (hk : ∀ r, (k r).accTurns = min 255 (r.accTurns + 1))
    (hu : u.core = ((s.modFloor f g).modSeat n k).core) : (u.seat n).accTurns = min 255 ((s.seat n).accTurns + 1) := by
  rw [seat_of_core hu, seat_modSeat_of_busy (by rwa [State.seat_modFloor]), hk, State.seat_modFloor]

theorem idle_of_left {n : Nat} {s u : State} {f : Floor} {g : FloorRec → FloorRec} {k : SeatRec → SeatRec}
    (hst : (s.seat n).floorState ≠ .idle) (hk : ∀ r, (k r).floorState = .idle)
    (hu : u.core = ((s.modFloor f g).modSeat n k).core) : (u.seat n).floorState = .idle := by
  rw [seat_of_core hu, seat_modSeat_of_busy (by rwa [State.seat_modFloor]), hk]

/-- A speaker has been closed and the pass has run: its turn is accounted, and outside VOICE it is IDLE and off the grant
order, unless it stood in the queue too. -/
theorem closed_passed {n : Nat} {s : State} (c : KeyCause) (sub : Option SubCause) (hst : (s.seat n).floorState = .speaking) :
    let t := grantPass (s.seatFloor n) (close n c sub s)
    t.still = s.still ∧ (t.seat n).accTurns = min 255 ((s.seat n).accTurns + 1) ∧
      ((s.floor (s.seatFloor n)).settings.mode ≠ .voice → n ∉ (s.floor (s.seatFloor n)).queue →
        (t.seat n).floorState = .idle ∧ n ∉ (t.floor (s.seatFloor n)).grantOrder) := by
  have hbusy : (s.seat n).floorState ≠ .idle := by rw [hst]; decide
  have hcore := close_core n c sub s
  have hfloor := close_floor (n := n) (s := s) rfl c sub
  refine ⟨(grantPass_still _ _).trans (close_still n c sub s), ?_, fun hm hq => ?_⟩
  · rw [grantPass_accTurns, accTurns_of_ended hbusy (by intros; rfl) hcore]
  · have hspared := grantPass_spares (n := n) (f := s.seatFloor n) (s := close n c sub s)
      (by rw [hfloor]; exact hm) (by rw [hfloor]; exact hq)
    refine ⟨?_, fun hmem => ?_⟩
    · rw [hspared.1]
      exact idle_of_left hbusy (by intros; rfl) hcore
    · have := hspared.2 _ hmem
      rw [hfloor] at this
      simp at this

/-- A suspended seat has been given up and the pass has run. -/
theorem endSuspended_passed {n : Nat} {s : State} (c : KeyCause) (sub : Option SubCause)
    (hst : (s.seat n).floorState = .suspended) :
    let t := grantPass (s.seatFloor n) (endSuspended n c sub s)
    t.still = s.still ∧ (t.seat n).accTurns = min 255 ((s.seat n).accTurns + 1) ∧
      n ∉ (t.floor (s.seatFloor n)).susp.map (·.seat) ∧
      ((s.floor (s.seatFloor n)).settings.mode ≠ .voice → n ∉ (s.floor (s.seatFloor n)).queue →
        (t.seat n).floorState = .idle) := by
  have hbusy : (s.seat n).floorState ≠ .idle := by rw [hst]; decide
  have hcore := endSuspended_core n c sub s
  have hfloor : (endSuspended n c sub s).floor (s.seatFloor n) = { s.floor (s.seatFloor n) with
      susp := (s.floor (s.seatFloor n)).susp.filter (·.seat != n) } := by
    rw [floor_of_core hcore, State.floor_modSeat, State.floor_modFloor_same]
  refine ⟨(grantPass_still _ _).trans (endSuspended_still n c sub s), ?_, ?_, fun hm hq => ?_⟩
  · rw [grantPass_accTurns, accTurns_of_ended hbusy (by intros; rfl) hcore]
  · rw [grantPass_susp, hfloor, map_seat_without]
    simp
  · rw [(grantPass_spares (by rw [hfloor]; exact hm) (by rw [hfloor]; exact hq)).1]
    exact idle_of_left hbusy (by intros; rfl) hcore

/-- A queued seat has been taken from the queue and the pass has run. -/
theorem dequeued_passed {n : Nat} {s : State} (c : KeyCause) (sub : Option SubCause)
    (hst : (s.seat n).floorState = .queued) :
    let t := grantPass (s.seatFloor n) (dequeue n c sub s)
    t.still = s.still ∧ (t.seat n).accTurns = (s.seat n).accTurns ∧ n ∉ (t.floor (s.seatFloor n)).queue ∧
      ((s.floor (s.seatFloor n)).settings.mode ≠ .voice → (t.seat n).floorState = .idle) := by
  have hbusy : (s.seat n).floorState ≠ .idle := by rw [hst]; decide
  have hcore := dequeue_core n c sub s
  have hfloor : (dequeue n c sub s).floor (s.seatFloor n) = { s.floor (s.seatFloor n) with
      queue := (s.floor (s.seatFloor n)).queue.filter (· != n) } := by
    rw [floor_of_core hcore, State.floor_modSeat, State.floor_modFloor_same]
  have hleft : n ∉ ((dequeue n c sub s).floor (s.seatFloor n)).queue := by
    rw [hfloor]
    simp
  refine ⟨(grantPass_still _ _).trans (dequeue_still n c sub s), ?_, fun hq => hleft ((grantPass_order _ _ _).2 hq),
    fun hm => ?_⟩
  · rw [grantPass_accTurns, seat_of_core hcore, seat_modSeat_keeps SeatRec.accTurns (by intros; rfl), State.seat_modFloor]
  · rw [(grantPass_spares (by rw [hfloor]; exact hm) hleft).1]
    exact idle_of_left hbusy (by intros; rfl) hcore

/-- Settles O30, from what the three operations and the pass after them do. -/
theorem micPressOfABusySeat : Obligations.MicPressOfABusySeat := by
  intro n s hp hg hbusy
  obtain ⟨t, ht, hc⟩ := press_active hg .mic hp
  refine ⟨t, ht, ?_⟩
  have hseat := pressed_seat n n .mic s
  have hfloor := pressed_floor n .mic (s.seatFloor n) s
  have hside := pressed_seatFloor n n .mic s
  revert hc hseat hfloor hside
  generalize s.pressed n .mic = u
  intro hc hseat hfloor hside
  dsimp only
  have hmic : floorKey n .mic .press u = micPress n u := rfl
  rw [hmic, micPress, hseat] at hc
  rw [← hfloor, ← hseat]
  rw [← hseat] at hbusy
  rw [← hside]
  cases hst : (u.seat n).floorState with
  | idle => exact hbusy hst
  | queued =>
    rw [← hseat, hst] at hc
    exact hc.trans (dequeue_core n .key none u)
  | speaking =>
    rw [← hseat, hst] at hc
    obtain ⟨hstill, hacc, hidle⟩ := closed_passed .key none hst
    rw [← still_of_core hc] at hstill
    rw [← seat_of_core hc] at hacc
    simp only [← seat_of_core hc, ← floor_of_core hc] at hidle
    refine ⟨hstill, hacc, hidle, fun hquiet => ?_⟩
    refine hc.trans ((congrArg State.core (grantPass_of_quiet ?_)).trans (close_core n .key none u))
    rwa [close_floor rfl]
  | suspended =>
    rw [← hseat, hst] at hc
    obtain ⟨hstill, hacc, hsusp, hidle⟩ := endSuspended_passed .key none hst
    rw [← still_of_core hc] at hstill
    simp only [← seat_of_core hc, ← floor_of_core hc] at hacc hsusp hidle
    refine ⟨hstill, hacc, hsusp, hidle, fun hquiet => ?_⟩
    refine hc.trans ((congrArg State.core (grantPass_of_quiet ?_)).trans (endSuspended_core n .key none u))
    rwa [settings_of_still (endSuspended_still n .key none u)]
  | priority =>
    rw [← hseat, hst] at hc
    exact hc
  | priorityWait =>
    rw [← hseat, hst] at hc
    exact hc

/-! ## NEXT, LONG and RELEASE (02 R22, R25; 04 R78, R79) -/

/-- A NEXT PRESS at the floor controller (02 R25). -/
theorem nextPress_cases (n : Nat) (s : State) :
    let f := s.seatFloor n
    let refused : Prop := (nextPress n s).core = (s.modSeat n (fun r => { r with refusal := some 0 })).core
    if !s.live f then refused
    else if !(s.seat n).role.isChair then refused
    else if (s.floor f).settings.mode ≠ .request ∨ (s.floor f).settings.autoGrant = true then refused
    else if s.holdActive f then refused
    else match (s.floor f).queue with
      | [] => refused
      | m :: _ =>
        if s.slotFree f then (nextPress n s).core =
          (becomeSpeaking m (startTurn (s.floor (s.seatFloor m)).settings.turnLimit) (leaveQueue m s)).core
        else refused := by
  have refused (w : Refused) := refuse_core n .next w s
  unfold nextPress
  dsimp only
  split
  · exact refused .closed
  · split
    · exact refused .notChair
    · by_cases hm : (s.floor (s.seatFloor n)).settings.mode ≠ .request ∨
          (s.floor (s.seatFloor n)).settings.autoGrant = true
      · rw [if_pos hm, if_pos (by simpa using hm)]
        exact refused .mode
      · have hb : ((s.floor (s.seatFloor n)).settings.mode != .request ||
            (s.floor (s.seatFloor n)).settings.autoGrant) = false := by
          rw [Bool.or_eq_false_iff]
          simpa using hm
        simp only [if_neg hm, hb, Bool.false_eq_true, if_false]
        split
        · exact refused .hold
        · cases (s.floor (s.seatFloor n)).queue with
          | nil => exact refused .empty
          | cons m rest =>
            dsimp only
            split
            · exact grant_core_speaks .next rfl
            · exact refused .full

theorem micLong_core (n : Nat) (s : State) : (micLong n s).core = if (s.seat n).floorState = .queued then
    ((s.modFloor (s.seatFloor n) (fun r => { r with queue := r.queue.filter (· != n) })).modSeat n
      (SeatRec.toState .idle)).core else s.core := by
  unfold micLong
  by_cases h : (s.seat n).floorState = .queued
  · rw [if_pos h, if_pos (beq_iff_eq.mpr h), dequeue_core]
  · rw [if_neg h, if_neg (by simpa using h)]

/-- A detector's own events, from its window of 20 samples (04 R78, R79). -/
theorem detector_due (d : Detector) : let set := (d.window.filter id).length
    (d.due = some .press ↔ d.pressed = false ∧ 18 ≤ set) ∧ (d.due = some .release ↔ d.pressed = true ∧ set ≤ 2) ∧
    (d.due = some .long ↔ d.pressed = true ∧ 2 < set ∧ d.longGiven = false ∧ d.held = some 1500) := by
  dsimp only
  unfold Detector.due Detector.pressDue Detector.releaseDue Detector.longDue Detector.count
  cases hp : d.pressed with
  | false => by_cases h : 18 ≤ (d.window.filter id).length <;> simp [h]
  | true =>
    by_cases h : (d.window.filter id).length ≤ 2
    · simp [h]
    · simp [h]
      omega

/-- Settles O32, from the cores of the operations and the events of a detector. -/
theorem nextAndLongPressesAct : Obligations.NextAndLongPressesAct := by
  refine ⟨fun n s hp hg => ?_, ⟨fun n k s hp hg => ?_, fun n k s hk hg => ?_⟩, detector_due⟩
  · obtain ⟨t, ht, hc⟩ := press_active hg .next hp
    have hcases := nextPress_cases n (s.pressed n .next)
    have hnext : floorKey n .next .press (s.pressed n .next) = nextPress n (s.pressed n .next) := rfl
    rw [hnext] at hc
    simp only [← hc, pressed_seat, pressed_floor, pressed_seatFloor, pressed_live, pressed_holdActive,
      pressed_slotFree] at hcases
    exact ⟨t, ht, hcases⟩
  · obtain ⟨t, ht, hc⟩ := giveKey_active hg k .long hp
    refine ⟨t, ht, ?_⟩
    have hseat : (s.modDets n (SeatDets.mod k Detector.long)).seat n = s.seat n :=
      State.seat_of_seats (State.modDets_seats n _ s) n
    have hside : (s.modDets n (SeatDets.mod k Detector.long)).seatFloor n = s.seatFloor n := by
      unfold State.seatFloor
      rw [hseat, State.modDets_part]
    cases k with
    | mic =>
      have hlong := micLong_core n (s.modDets n (SeatDets.mod .mic Detector.long))
      rw [hseat, hside] at hlong
      dsimp only
      split
      · next h =>
        rw [if_pos h.2] at hlong
        exact hc.trans hlong
      · next h =>
        rw [if_neg (fun h' => h ⟨rfl, h'⟩)] at hlong
        exact hc.trans hlong
    | priority =>
      rw [if_neg (fun h => by cases h.1)]
      exact hc
    | next =>
      rw [if_neg (fun h => by cases h.1)]
      exact hc
  · have hrest : deliverKey n k .release (s.modDets n (SeatDets.mod k Detector.release)) =
        s.modDets n (SeatDets.mod k Detector.release) := by
      unfold deliverKey
      split
      · cases k with
        | mic => rfl
        | priority => exact absurd rfl hk
        | next => rfl
      · rfl
    obtain ⟨t, ht, hc, -⟩ := finish_refresh (s := s) (u := s.modDets n (SeatDets.mod k Detector.release)) rfl
      (State.modDets_pending n _ s)
    refine ⟨t, ?_, hc⟩
    show finish s (giveKey n k .release s) = _
    unfold giveKey
    rw [if_pos hg, show Detector.after .release = Detector.release from rfl, hrest]
    exact ht

end Sys2Proof.Machine

namespace Sys2Proof.Machine

/-! ## Walk-ins (07 R135) -/

/-- The floor that both starts of a meeting leave. -/
theorem opened_floor (f : Floor) (g : Nat → Role × Option Delegate) (k : Nat) (m : Meeting) (s : State) :
    (opened f g k m s).floor f = { s.floor f with
      settings := (s.profile k).floor, gate := (s.profile k).gate, mix := (s.profile k).mix, meeting := m } := by
  unfold opened loadProfile State.modMeeting
  dsimp only
  rw [State.floor_modFloor_same, State.floor_modFloor_same, writeRoles_profile,
    zeroAccounts_keeps (fun t => t.floor f) (fun n k t => State.floor_modSeat n k f t), writeRoles_floor]

/-- The roster that is written gives a seat of the list its role and its delegate record; a number without a seat is given
none. -/
theorem writeRoles_seat {l : List Nat} {n : Nat} {g : Nat → Role × Option Delegate} {s : State} (hn : n ∈ l)
    (hg : (s.seat n).serial = none → g n = (.none, none)) :
    ((writeRoles l g s).seat n).role = (g n).1 ∧ ((writeRoles l g s).seat n).delegate = (g n).2 := by
  have serial : ((writeRoles l g s).seat n).serial = (s.seat n).serial :=
    (congrArg SeatRec.serial (writeRoles_unlisted l g n s) :)
  have written : ((writeRoles l g s).seat n).serial = (s.seat n).serial →
      ((writeRoles l g s).seat n).role = (g n).1 ∧ ((writeRoles l g s).seat n).delegate = (g n).2 := by
    unfold writeRoles
    dsimp only
    rw [seat_of_core (reports_core _ (f := rosterReport) (fun _ t => report_core _ _ t) _)]
    refine forAll_modSeat_makes (fun r : SeatRec => r.serial = (s.seat n).serial →
      r.role = (g n).1 ∧ r.delegate = (g n).2) hn (fun h => ?_) (fun _ _ => ⟨rfl, rfl⟩) s
    rw [hg h.symm]
    exact ⟨rfl, rfl⟩
  exact written serial

/-- The roster and the account that a start gives each seat of the floor. -/
theorem opened_seat {f : Floor} {n : Nat} {s : State} {g : Nat → Role × Option Delegate} (hn : n ∈ s.floorSeats f)
    (hg : (s.seat n).serial = none → g n = (.none, none)) (k : Nat) (m : Meeting) :
    ((opened f g k m s).seat n).role = (g n).1 ∧ ((opened f g k m s).seat n).delegate = (g n).2 ∧
      ((opened f g k m s).seat n).accSeconds = 0 ∧ ((opened f g k m s).seat n).accTurns = 0 := by
  obtain ⟨hrole, hdelegate⟩ := writeRoles_seat hn hg
  have seats : (writeRoles (s.floorSeats f) g s).floorSeats f = s.floorSeats f := by
    refine floorSeats_of_eq (writeRoles_part _ g s) (fun n => ?_) f
    exact (congrArg SeatRec.side (writeRoles_unlisted _ g n s) :)
  unfold opened loadProfile
  dsimp only
  rw [State.seat_modMeeting, State.seat_modFloor]
  unfold zeroAccounts
  rw [forAll_modSeat_keeps SeatRec.role (by intros; rfl), forAll_modSeat_keeps SeatRec.delegate (by intros; rfl)]
  exact ⟨hrole, hdelegate, forAll_modSeat_makes (fun r : SeatRec => r.accSeconds = 0 ∧ r.accTurns = 0)
    (by rwa [seats]) ⟨rfl, rfl⟩ (fun _ => ⟨rfl, rfl⟩) _⟩

theorem refreshDue_floor (f : Floor) (s : State) : ∃ d, (refreshDue f s).floor f =
    { s.floor f with meeting := { s.meeting f with due := d } } := by
  have written (d : Option Nat) : (s.modMeeting f (fun m => { m with due := d })).floor f =
      { s.floor f with meeting := { s.meeting f with due := d } } := by
    rw [State.modMeeting, State.floor_modFloor_same]
    rfl
  unfold refreshDue
  dsimp only
  split
  · exact ⟨_, rfl⟩
  · split
    · exact ⟨_, (floor_of_core (report_core _ _ _) f).trans (written _)⟩
    · exact ⟨_, written _⟩

theorem refreshDue_plan (f : Floor) (s : State) : (refreshDue f s).plan = s.plan := by
  have written (g : Meeting → Meeting) : (s.modMeeting f g).plan = s.plan :=
    plan_of_seats (State.modMeeting_clock f g s) (State.modMeeting_bookings f g s) (State.modMeeting_seats f g s)
  unfold refreshDue
  dsimp only
  split
  · rfl
  · split
    · exact (plan_of_core (report_core _ _ _)).trans (written _)
    · exact written _

theorem endTestOn_plan (f : Floor) (s : State) : (endTestOn f s).plan = s.plan := by
  have ended (w : TestEnd) : (endTest w s).plan = s.plan := by
    unfold endTest
    split
    · rfl
    · exact (plan_of_core (report_core _ _ _)).trans rfl
  unfold endTestOn
  split
  · split
    · exact ended _
    · rfl
  · rfl

theorem opened_plan (f : Floor) (g : Nat → Role × Option Delegate) (k : Nat) (m : Meeting) (s : State) :
    (opened f g k m s).plan = s.plan := by
  have roles (l : List Nat) (t : State) : (writeRoles l g t).plan = t.plan :=
    plan_of (writeRoles_keeps State.clock (fun n f t => State.modSeat_clock n f t) report_clock l g t)
      (writeRoles_keeps State.bookings (fun n f t => State.modSeat_bookings n f t) report_bookings l g t)
      (fun n => (congrArg SeatRec.serial (writeRoles_unlisted l g n t) :))
  have accounts (t : State) : (zeroAccounts f t).plan = t.plan :=
    plan_of (zeroAccounts_keeps State.clock (fun n f t => State.modSeat_clock n f t) f t)
      (zeroAccounts_keeps State.bookings (fun n f t => State.modSeat_bookings n f t) f t)
      (fun n => (congrArg SeatRec.serial (zeroAccounts_unlisted f n t) :))
  have floors (h : FloorRec → FloorRec) (t : State) : (t.modFloor f h).plan = t.plan :=
    plan_of_seats (State.modFloor_clock f h t) (State.modFloor_bookings f h t) (State.modFloor_seats f h t)
  exact (floors _ _).trans ((floors _ _).trans ((accounts _).trans (roles _ s)))

theorem startWalkin_plan (f : Floor) (s : State) : (startWalkin f s).plan = s.plan := by
  rw [startWalkin_eq, refreshDue_plan]
  exact (plan_of_core (report_core _ _ _)).trans ((opened_plan f _ 0 _ _).trans (endTestOn_plan f (restPower s)))

theorem opened_profiles (f : Floor) (g : Nat → Role × Option Delegate) (k : Nat) (m : Meeting) (s : State) :
    (opened f g k m s).profiles = s.profiles := by
  unfold opened State.modMeeting loadProfile
  dsimp only
  rw [State.modFloor_profiles, State.modFloor_profiles,
    zeroAccounts_keeps State.profiles (fun n f t => State.modSeat_profiles n f t),
    writeRoles_keeps State.profiles (fun n f t => State.modSeat_profiles n f t) report_profiles]

/-- What a walk-in has made of its floor: the meeting record, the settings of profile 0 and the roster of the mapped seats,
as they stood in `s`. -/
structure WalksIn (f : Floor) (s t : State) : Prop where
  state : (t.meeting f).state = .walkIn
  start : (t.meeting f).start = s.clock.map (·.minute)
  settings : (t.floor f).settings = (s.profile 0).floor
  gate : (t.floor f).gate = (s.profile 0).gate
  mix : (t.floor f).mix = (s.profile 0).mix
  roster : ∀ n ∈ s.floorSeats f, (t.seat n).role = (if (s.seat n).serial.isSome then .guest else .none) ∧
    (t.seat n).delegate = none ∧ (t.seat n).accSeconds = 0 ∧ (t.seat n).accTurns = 0
  partition : t.part.partition = s.part.partition
  profiles : t.profiles = s.profiles
  plan : t.plan = s.plan

theorem startWalkin_walksIn (f : Floor) (s : State) : WalksIn f s (startWalkin f s) := by
  let u := endTestOn f (restPower s)
  let v := bookingReport .walkIn 0 (some f) [] (opened f (walkinRole u) 0 (walkinMeeting s) u)
  have heq : startWalkin f s = refreshDue f v := startWalkin_eq f s
  have hledger : u.ledger = s.ledger := endTestOn_ledger f (restPower s)
  have hprofile : u.profile 0 = s.profile 0 := congrArg (·.getD 0 Reset.profile) (profiles_of_ledger hledger)
  have hseat (n : Nat) : u.seat n = s.seat n := endTestOn_seat f n (restPower s)
  have hseats : u.floorSeats f = s.floorSeats f := floorSeats_of_ledger hledger f
  obtain ⟨d, hd⟩ := refreshDue_floor f v
  have hfloor : v.floor f = (opened f (walkinRole u) 0 (walkinMeeting s) u).floor f :=
    floor_of_core (report_core _ _ _) f
  have hmeeting : v.meeting f = walkinMeeting s := congrArg FloorRec.meeting (hfloor.trans (opened_floor f _ _ _ _))
  rw [hmeeting, hfloor, opened_floor, hprofile] at hd
  rw [← heq] at hd
  refine ⟨?_, ?_, by rw [hd], by rw [hd], by rw [hd], fun n hn => ?_, ?_, ?_, startWalkin_plan f s⟩
  · exact (congrArg (fun r : FloorRec => r.meeting.state) hd :)
  · exact (congrArg (fun r : FloorRec => r.meeting.start) hd :)
  · have hopened := opened_seat (f := f) (g := walkinRole u) (s := u) (n := n) (by rwa [hseats])
      (fun h => by unfold walkinRole; rw [h]; rfl) 0 (walkinMeeting s)
    rw [show (walkinRole u n).1 = (if (s.seat n).serial.isSome then .guest else .none) by rw [← hseat n]; rfl] at hopened
    rw [heq, refreshDue_seat, show v.seat n = _ from seat_of_core (report_core _ _ _) n]
    exact hopened
  · rw [heq, partition_of_ledger (refreshDue_ledger _ _), partition_of_ledger (bookingReport_ledger _ _ _ _ _),
      opened_partition]
    exact partition_of_ledger hledger
  · rw [heq, profiles_of_ledger (refreshDue_ledger _ _), profiles_of_ledger (bookingReport_ledger _ _ _ _ _),
      opened_profiles]
    exact profiles_of_ledger hledger

/-- A reading of the ledger stands through the calendar's wake. -/
theorem calendarWake_reading {β : Type} (p : State → β) (hl : ∀ {s t : State}, t.ledger = s.ledger → p t = p s)
    (hs : ∀ {s t : State}, t.still = s.still → p t = p s) (s : State) : p (calendarWake s) = p s :=
  (TrunkFrame.of_still (P := fun t => p t = p s) (fun h e => (hl h).trans e) (fun h e => (hs h).trans e)).calendarWake rfl

/-- Settles O20: a walk-in's floor is `WalksIn`; the press that starts it is then a request. -/
theorem walkinsOpenAFloor : Obligations.WalkinsOpenAFloor := by
  refine ⟨fun h k s hr => ?_, fun n s hp hg hst hv => ?_⟩
  · show ∃ t, finish s (handle h (.walkinStart h (.fields k)) (.fields k) walkinStart s) = .next t ∧ _
    have away (c : Code) (hc : walkinStart k s = refusal c s) :=
      handle_refusal h (.walkinStart h (.fields k)) k walkinStart s c hr hc
    split
    · next hf => exact away .range (by simp [walkinStart, hf])
    · next f hf =>
      split
      · next hstate => exact away .state (by simp [walkinStart, hf, hstate])
      · next hstate =>
        obtain ⟨t, ht, hans, hc⟩ := handle_done h (.walkinStart h (.fields k)) k walkinStart s
          (startWalkin f (calendarWake s)) hr (by simp [walkinStart, hf, hstate]) (by simp)
        have hw := startWalkin_walksIn f (calendarWake s)
        have hplan := calendarWake_plan s
        have hclock : (calendarWake s).clock = s.clock := congrArg (·.1) hplan
        have hserial (n : Nat) : ((calendarWake s).seat n).serial = (s.seat n).serial := congrFun (congrArg (·.2.2) hplan) n
        have hpart : (calendarWake s).part.partition = s.part.partition :=
          calendarWake_reading (·.part.partition) partition_of_ledger (fun h => congrArg (·.partition) (part_of_still h)) s
        have hprofiles : (calendarWake s).profiles = s.profiles :=
          calendarWake_reading (·.profiles) profiles_of_ledger (fun h => (congrArg State.profiles h :)) s
        have hprofile : (calendarWake s).profile 0 = s.profile 0 := congrArg (·.getD 0 Reset.profile) hprofiles
        have hseats : (calendarWake s).floorSeats f = s.floorSeats f :=
          calendarWake_reading (·.floorSeats f) (fun h => floorSeats_of_ledger h f) (fun h => by
            unfold State.floorSeats
            rw [funext (seatFloor_of_still h)]) s
        have hplan' : t.plan = s.plan := (plan_of_core hc).trans (hw.plan.trans hplan)
        have hfloor := floor_of_core hc f
        refine ⟨t, ht, hans, ?_, ?_, ?_, ?_, ?_, fun n hn => ?_, ?_, congrArg (·.2.1) hplan', ?_, congrArg (·.1) hplan'⟩
        · exact (congrArg (fun r : FloorRec => r.meeting.state) hfloor :).trans hw.state
        · exact (congrArg (fun r : FloorRec => r.meeting.start) hfloor :).trans (by rw [← hclock]; exact hw.start)
        · rw [hfloor, hw.settings, hprofile]
        · rw [hfloor, hw.gate, hprofile]
        · rw [hfloor, hw.mix, hprofile]
        · rw [seat_of_core hc, ← hserial n]
          exact hw.roster n (by rwa [hseats])
        · exact (congrArg (·.partition) (part_of_core hc)).trans (hw.partition.trans hpart)
        · exact (congrArg State.profiles hc :).trans (hw.profiles.trans hprofiles)
  · obtain ⟨t, ht, hc⟩ := press_active hg .mic hp
    have hw := startWalkin_walksIn (s.seatFloor n) (s.pressed n .mic)
    have hlive : s.live (s.seatFloor n) = false := not_live_of_vacant hv
    have started : floorKey n .mic .press (s.pressed n .mic) =
        request n (startWalkin (s.seatFloor n) (s.pressed n .mic)) := by
      unfold floorKey micPress
      rw [pressed_seat, hst, pressed_seatFloor]
      dsimp only
      rw [pressed_live, hlive, if_neg (by decide), if_pos]
      rw [State.meeting, pressed_floor]
      exact beq_iff_eq.mpr hv
    rw [started] at hc
    have hside : (startWalkin (s.seatFloor n) (s.pressed n .mic)).seatFloor n = s.seatFloor n := by
      rw [startWalkin_seatFloor, pressed_seatFloor]
    have hwlive : (startWalkin (s.seatFloor n) (s.pressed n .mic)).live
        ((startWalkin (s.seatFloor n) (s.pressed n .mic)).seatFloor n) = true := by
      rw [hside]
      exact congrArg MeetingState.live hw.state
    have hstill := (still_of_core hc).trans (request_still n _)
    have hprofile : (s.pressed n .mic).profile 0 = s.profile 0 :=
      congrArg (·.getD 0 Reset.profile) (State.modDets_profiles n _ s)
    have hclock : (s.pressed n .mic).clock = s.clock := State.modDets_clock n _ s
    have hfloor := floor_still hstill (s.seatFloor n)
    refine ⟨t, ht, ?_, ?_, ?_, fun m hm => ?_, request_taken hwlive hc⟩
    · exact (meetingState_of_still hstill _).trans hw.state
    · exact (congrArg (fun r : FloorRec => r.meeting.start) hfloor :).trans (hw.start.trans (by rw [hclock]))
    · rw [settings_of_still hstill, hw.settings, hprofile]
    · have hrole : (t.seat m).role = ((startWalkin (s.seatFloor n) (s.pressed n .mic)).seat m).role :=
        (congrArg SeatRec.role (seat_still hstill m) :)
      have hseats : (s.pressed n .mic).floorSeats (s.seatFloor n) = s.floorSeats (s.seatFloor n) := by
        unfold State.floorSeats
        rw [funext (fun m => pressed_seatFloor n m .mic s)]
      rw [hrole, (hw.roster m (by rwa [hseats])).1, pressed_seat]

end Sys2Proof.Machine

namespace Sys2Proof.Machine

/-! ## The grant pass in full (02 R32, R34, R36) -/

/-- The seats of `g` have been granted on floor `f`, in this order, and nothing else has happened to it or to a seat. -/
structure Granted (f : Floor) (g : List Nat) (s t : State) : Prop where
  order : (t.floor f).grantOrder = (s.floor f).grantOrder ++ g
  queue : (t.floor f).queue = (s.floor f).queue.filter (· ∉ g)
  susp : (t.floor f).susp = (s.floor f).susp
  stack : (t.floor f).stack = (s.floor f).stack
  seat : ∀ n ∈ g, t.seat n =
    (s.seat n).speaks (s.floor f).settings.mode (startTurn (s.floor f).settings.turnLimit)
  other : ∀ n, n ∉ g → t.seat n = s.seat n
  floors : ∀ e, e ≠ f → t.floor e = s.floor e
  still : t.still = s.still

namespace Granted

variable {f : Floor} {g : List Nat} {s t u : State}

theorem refl (f : Floor) (s : State) : Granted f [] s s := by
  refine ⟨by simp, by simp, rfl, rfl, fun n hn => (by cases hn), fun _ _ => rfl, fun _ _ => rfl, rfl⟩

theorem one {n : Nat} (c : KeyCause) (hl : s.seats.length = 48) (hn : s.owns f n) : Granted f [n] s (grant n c s) := by
  obtain ⟨hmem, rfl⟩ := hn
  have hfloor := grant_floor n c (s.seatFloor n) s
  rw [if_pos rfl] at hfloor
  refine ⟨by rw [hfloor], ?_, by rw [hfloor], by rw [hfloor], fun m hm => ?_, fun m hm => ?_, fun e he => ?_,
    grant_still n c s⟩
  · rw [hfloor]
    refine List.filter_congr (fun m _ => ?_)
    rw [Bool.eq_iff_iff]
    simp
  · rw [List.mem_singleton.mp hm, seat_of_core (grant_core n c s),
      seat_modSeat_of_mem (by rw [State.modFloor_seats, hl]) hmem, State.seat_modFloor]
  · exact grant_seat_ne (by simpa using hm) c s
  · rw [grant_floor, if_neg he]

theorem cons {n : Nat} (h : Granted f [n] s t) (k : Granted f g t u) (hn : n ∉ g) : Granted f (n :: g) s u where
  order := by rw [k.order, h.order, List.append_assoc]; rfl
  queue := by
    rw [k.queue, h.queue, List.filter_filter]
    refine List.filter_congr (fun m _ => ?_)
    rw [Bool.eq_iff_iff]
    simp [and_comm]
  susp := k.susp.trans h.susp
  stack := k.stack.trans h.stack
  seat m hm := by
    rcases List.mem_cons.mp hm with rfl | hm
    · rw [k.other m hn, h.seat m List.mem_cons_self]
    · have hne : m ∉ [n] := fun h' => hn (by rw [← List.mem_singleton.mp h']; exact hm)
      rw [k.seat m hm, h.other m hne, settings_of_still h.still]
  other m hm := by
    rw [List.mem_cons, not_or] at hm
    rw [k.other m hm.2, h.other m (by simpa using hm.1)]
  floors e he := (k.floors e he).trans (h.floors e he)
  still := k.still.trans h.still

/-- A granted seat has a fresh turn and no turn accounted (02 R32). -/
theorem grantedTurn (h : Granted f g s t) {n : Nat} (hn : n ∈ g) : grantedTurn f n s t ∧
    (t.seat n).release = if (s.floor f).settings.mode = .voice then some 0 else none := by
  unfold Machine.grantedTurn turnsOf
  rw [h.seat n hn]
  refine ⟨⟨rfl, rfl, rfl⟩, ?_⟩
  unfold SeatRec.speaks
  by_cases hm : (s.floor f).settings.mode = .voice
  · rw [if_pos hm, hm]
    rfl
  · rw [if_neg hm]
    exact if_neg (by simpa using hm)

end Granted

theorem not_slotFree_iff {s : State} {f : Floor} : s.slotFree f = false ↔
    (s.floor f).stack ≠ [] ∨ (s.floor f).settings.openMicLimit ≤ (s.floor f).grantOrder.length := by
  rw [← Bool.not_eq_true, slotFree_iff, not_and_or, not_lt]

/-- The free slots of a floor without a hold. -/
def State.freeSlots (s : State) (f : Floor) : Nat := (s.floor f).settings.openMicLimit - (s.floor f).grantOrder.length

/-- A queue is granted from its head, as far as the slots go. -/
theorem grantQueue_granted {f : Floor} (c : KeyCause) {owing lifted : Option Floor} (k : Nat) {s : State}
    (hs : Seated true lifted owing s) (hstack : (s.floor f).stack = []) (hk : s.freeSlots f ≤ k) :
    Granted f ((s.floor f).queue.take (s.freeSlots f)) s (grantQueue f c k s) ∧
      ((grantQueue f c k s).floor f).queue = (s.floor f).queue.drop (s.freeSlots f) := by
  have stays (h : (s.floor f).queue.take (s.freeSlots f) = [])
      (hq : (s.floor f).queue.drop (s.freeSlots f) = (s.floor f).queue) :
      Granted f ((s.floor f).queue.take (s.freeSlots f)) s s ∧
        (s.floor f).queue = (s.floor f).queue.drop (s.freeSlots f) := by
    rw [h, hq]
    exact ⟨.refl f s, rfl⟩
  induction k generalizing s with
  | zero =>
    rw [Nat.le_zero.mp hk] at stays ⊢
    exact stays rfl rfl
  | succ k ih =>
    unfold grantQueue
    split
    · next hfree =>
      have hlen := ((slotFree_iff s f).mp hfree).2
      cases hq : (s.floor f).queue with
      | nil =>
        rw [hq] at stays
        dsimp only
        rw [hq]
        exact stays (by simp) (by simp)
      | cons m rest =>
        dsimp only
        have hfits := hs.fits f
        have hm : m ∈ (s.floor f).queue := by rw [hq]; exact List.mem_cons_self
        have hnamed := mem_named_of_queue hm
        have hnd := hfits.nodup_queue rfl
        rw [hq] at hnd
        obtain ⟨hmr, -⟩ := List.nodup_cons.mp hnd
        have hone := Granted.one (f := f) c hs.table (hfits.owned m hnamed)
        have hseated := hs.grant c (hfits.owned m hnamed) (hfits.live_of_mem hnamed) hfree
          (fun _ => Or.inr (hfits.queued_of_mem rfl hm))
        have hrest : ((grant m c s).floor f).queue = rest := by
          rw [hone.queue, hq]
          simp only [List.mem_singleton, List.filter_cons]
          rw [if_neg (by simp)]
          exact List.filter_eq_self.mpr (fun x hx => by
            have : x ≠ m := fun h => hmr (h ▸ hx)
            simpa using this)
        have hslots : s.freeSlots f = (grant m c s).freeSlots f + 1 := by
          unfold State.freeSlots
          rw [settings_of_still hone.still, hone.order, List.length_append, List.length_singleton]
          omega
        obtain ⟨hgranted, hqueue⟩ := ih hseated (hone.stack.trans hstack) (by omega) (fun h hq => by
          rw [h, hq]
          exact ⟨.refl f _, rfl⟩)
        rw [hrest] at hgranted hqueue
        rw [hslots, List.take_succ_cons, List.drop_succ_cons]
        exact ⟨hone.cons hgranted (fun h => hmr (List.take_subset _ _ h)), hqueue⟩
    · next hfree =>
      have hfull := (not_slotFree_iff.mp (by simpa using hfree)).resolve_left (not_not.mpr hstack)
      have hzero : s.freeSlots f = 0 := Nat.sub_eq_zero_of_le hfull
      rw [hzero] at stays ⊢
      exact stays rfl rfl

/-- `m` comes before `n` among the voice candidates (02 R34). -/
def State.opensBefore (s : State) (m n : Nat) : Prop :=
  s.openingOf m < s.openingOf n ∨ s.openingOf m = s.openingOf n ∧ m < n

/-- A floor that grants nobody more, with so many speakers. -/
def State.fullAt (s : State) (f : Floor) (k : Nat) : Prop :=
  s.live f = false ∨ (s.floor f).stack ≠ [] ∨ (s.floor f).settings.openMicLimit ≤ k

theorem chan_of_still {s t : State} (h : t.still = s.still) (c : Nat) : t.chan c = s.chan c := by
  have hc : t.still.chans = s.still.chans := by rw [h]
  have hc : t.chans = s.chans := hc
  unfold State.chan
  rw [hc]

theorem openingOf_of_still {s t : State} (h : t.still = s.still) (n : Nat) : t.openingOf n = s.openingOf n := by
  unfold State.openingOf
  rw [chan_of_still h]

theorem opensBefore_of_still {s t : State} (h : t.still = s.still) (m n : Nat) :
    t.opensBefore m n ↔ s.opensBefore m n := by
  unfold State.opensBefore
  rw [openingOf_of_still h, openingOf_of_still h]

theorem fullAt_of_still {s t : State} {f : Floor} (h : t.still = s.still) (hst : (t.floor f).stack = (s.floor f).stack)
    (k : Nat) : t.fullAt f k ↔ s.fullAt f k := by
  unfold State.fullAt
  rw [live_of_still h, hst, settings_of_still h]

/-- The candidates after a grant are those before it, but the seat that has been granted. -/
theorem Granted.candidates {f : Floor} {m : Nat} {s t : State} (h : Granted f [m] s t) {n : Nat} :
    n ∈ t.candidates f ↔ n ∈ s.candidates f ∧ n ≠ m := by
  rw [mem_candidates, mem_candidates, owns_of_still h.still, chan_of_still h.still, admission_of_still h.still]
  by_cases hn : n = m
  · subst hn
    have speaking : t.standing n = .speaking := by
      rw [State.standing, h.seat n List.mem_cons_self]
      rfl
    simp [speaking]
  · have kept : t.standing n = s.standing n := congrArg SeatRec.floorState (h.other n (by simpa using hn))
    simp [kept, hn]

/-- The voice candidates are granted in their order while slots are free. -/
theorem grantVoices_granted {f : Floor} {owing lifted : Option Floor} (k : Nat) {s : State}
    (hs : Seated true lifted owing s) (hl : s.live f = true) (hk : s.freeSlots f ≤ k) :
    ∃ g, Granted f g s (grantVoices f k s) ∧ (∀ n ∈ g, n ∈ s.candidates f) ∧ g.Pairwise s.opensBefore ∧
      (g ≠ [] → ¬ s.fullAt f ((s.floor f).grantOrder.length + g.length - 1)) ∧
      ∀ n ∈ s.candidates f, n ∉ g →
        s.fullAt f ((s.floor f).grantOrder.length + g.length) ∧ ∀ m ∈ g, s.opensBefore m n := by
  have stays (h : s.candidates f ≠ [] → s.fullAt f (s.floor f).grantOrder.length) :
      ∃ g, Granted f g s s ∧ (∀ n ∈ g, n ∈ s.candidates f) ∧ g.Pairwise s.opensBefore ∧
        (g ≠ [] → ¬ s.fullAt f ((s.floor f).grantOrder.length + g.length - 1)) ∧
        ∀ n ∈ s.candidates f, n ∉ g →
          s.fullAt f ((s.floor f).grantOrder.length + g.length) ∧ ∀ m ∈ g, s.opensBefore m n :=
    ⟨[], .refl f s, fun n hn => (by cases hn), .nil, fun h => absurd rfl h,
      fun n hn _ => ⟨h (List.ne_nil_of_mem hn), fun m hm => by cases hm⟩⟩
  induction k generalizing s with
  | zero => exact stays (fun _ => Or.inr (Or.inr (Nat.sub_eq_zero_iff_le.mp (Nat.le_zero.mp hk))))
  | succ k ih =>
    unfold grantVoices
    split
    · next hfree =>
      obtain ⟨hstack, hlen⟩ := (slotFree_iff s f).mp hfree
      split
      · next m hm =>
        obtain ⟨hmem, hfirst⟩ := firstCandidate_some hm
        obtain ⟨hown, hidle, -⟩ := mem_candidates.mp hmem
        have hone := Granted.one (f := f) .voice hs.table hown
        have hseated := hs.grant .voice hown hl hfree (fun _ => Or.inl hidle)
        have hbefore {n : Nat} (hn : n ∈ s.candidates f) (hnm : n ≠ m) : s.opensBefore m n :=
          (hfirst n hn).imp id (fun h => ⟨h.1, lt_of_le_of_ne h.2 (Ne.symm hnm)⟩)
        have horder : ((grant m .voice s).floor f).grantOrder.length = (s.floor f).grantOrder.length + 1 := by
          rw [hone.order, List.length_append, List.length_singleton]
        have hslots : s.freeSlots f = (grant m .voice s).freeSlots f + 1 := by
          unfold State.freeSlots
          rw [settings_of_still hone.still, horder]
          omega
        obtain ⟨g, hg, hcand, hpair, hroom, hrest⟩ := ih hseated ((live_of_still hone.still f).trans hl) (by omega)
          (fun h => ⟨[], .refl f _, fun n hn => (by cases hn), .nil, fun h => absurd rfl h,
            fun n hn _ => ⟨h (List.ne_nil_of_mem hn), fun m hm => by cases hm⟩⟩)
        have hmg : m ∉ g := fun h => (hone.candidates.mp (hcand m h)).2 rfl
        have hfull (j : Nat) := fullAt_of_still (f := f) hone.still hone.stack j
        refine ⟨m :: g, hone.cons hg hmg, ?_, ?_, fun _ => ?_, fun n hn hng => ?_⟩
        · intro n hn
          rcases List.mem_cons.mp hn with rfl | hn
          · exact hmem
          · exact (hone.candidates.mp (hcand n hn)).1
        · refine List.pairwise_cons.mpr ⟨fun n hn => ?_, hpair.imp (fun h => (opensBefore_of_still hone.still _ _).mp h)⟩
          obtain ⟨hn, hnm⟩ := hone.candidates.mp (hcand n hn)
          exact hbefore hn hnm
        · by_cases hnil : g = []
          · rw [hnil, List.length_singleton, Nat.add_sub_cancel]
            rintro (h | h | h)
            · rw [hl] at h
              cases h
            · exact h hstack
            · omega
          · have := mt (hfull _).mpr (hroom hnil)
            rw [horder] at this
            rwa [List.length_cons, show (s.floor f).grantOrder.length + (g.length + 1) - 1 =
              (s.floor f).grantOrder.length + 1 + g.length - 1 by omega]
        · rw [List.mem_cons, not_or] at hng
          obtain ⟨hfin, hlast⟩ := hrest n (hone.candidates.mpr ⟨hn, hng.1⟩) hng.2
          refine ⟨?_, fun x hx => ?_⟩
          · have := (hfull _).mp hfin
            rw [horder] at this
            rwa [List.length_cons, show (s.floor f).grantOrder.length + (g.length + 1) =
              (s.floor f).grantOrder.length + 1 + g.length by omega]
          · rcases List.mem_cons.mp hx with rfl | hx
            · exact hbefore hn hng.1
            · exact (opensBefore_of_still hone.still _ _).mp (hlast x hx)
      · next hnone => exact stays (fun h => absurd (firstCandidate_none hnone) h)
    · next hfree => exact stays (fun _ => Or.inr (not_slotFree_iff.mp (by simpa using hfree)))

/-- The pass of a VOICE floor, as `grantsVoices` says it of the state before. -/
theorem Granted.grantsVoices {f : Floor} {g : List Nat} {s t : State} (h : Granted f g s t)
    (hm : g ≠ [] → (s.floor f).settings.mode = .voice) (hcand : ∀ n ∈ g, n ∈ s.candidates f)
    (hpair : g.Pairwise s.opensBefore) (hroom : g ≠ [] → ¬ s.fullAt f ((s.floor f).grantOrder.length + g.length - 1))
    (hrest : ∀ n ∈ s.candidates f, n ∉ g →
      s.fullAt f ((s.floor f).grantOrder.length + g.length) ∧ ∀ m ∈ g, s.opensBefore m n) :
    grantsVoices f (s.floor f).grantOrder s t := by
  have candidate (n : Nat) : n ∈ s.candidates f ↔ n ∈ s.floorSeats f ∧ (s.seat n).floorState = .idle ∧
      (s.chan n).gate = .opened ∧ s.admission n = none := by
    rw [mem_candidates, mem_floorSeats]
    rfl
  refine ⟨g, h.order, hpair, fun n hn => ?_, hroom, fun n hn => hrest n ((candidate n).mpr hn)⟩
  obtain ⟨hturn, hrelease⟩ := h.grantedTurn hn
  rw [if_pos (hm (List.ne_nil_of_mem hn))] at hrelease
  exact ⟨(candidate n).mp (hcand n hn), hturn, hrelease⟩

/-- A VOICE floor's pass (02 R34, R36). -/
theorem grantPass_voice {f : Floor} {owing lifted : Option Floor} {s : State} (hs : Seated true lifted owing s)
    (hm : (s.floor f).settings.mode = .voice) (hk : s.freeSlots f ≤ 8) :
    ∃ g, Granted f g s (grantPass f s) ∧ (∀ n ∈ g, n ∈ s.candidates f) ∧
      grantsVoices f (s.floor f).grantOrder s (grantPass f s) := by
  unfold grantPass
  rw [hm]
  dsimp only
  split
  · next hl =>
    obtain ⟨g, hg, hcand, hpair, hroom, hrest⟩ := grantVoices_granted 8 hs hl hk
    exact ⟨g, hg, hcand, hg.grantsVoices (fun _ => hm) hcand hpair hroom hrest⟩
  · next hl =>
    have hfull (k : Nat) : s.fullAt f k := Or.inl (by simpa using hl)
    exact ⟨[], .refl f s, fun n hn => (by cases hn), (Granted.refl f s).grantsVoices (fun _ => hm) (fun n hn => (by cases hn))
      .nil (fun h => absurd rfl h) (fun n _ _ => ⟨hfull _, fun m hm => by cases hm⟩)⟩

/-- A REQUEST floor's pass with auto grant (02 R36). -/
theorem grantPass_auto {f : Floor} {owing lifted : Option Floor} {s : State} (hs : Seated true lifted owing s)
    (hl : s.live f = true) (hstack : (s.floor f).stack = []) (hm : (s.floor f).settings.mode = .request)
    (ha : (s.floor f).settings.autoGrant = true) (hk : s.freeSlots f ≤ 8) :
    Granted f ((s.floor f).queue.take (s.freeSlots f)) s (grantPass f s) ∧
      ((grantPass f s).floor f).queue = (s.floor f).queue.drop (s.freeSlots f) := by
  have hpass : grantPass f s = grantQueue f .auto 8 s := by
    unfold grantPass
    rw [if_pos hl, hm]
    exact if_pos ha
  rw [hpass]
  exact grantQueue_granted .auto 8 hs hstack hk

end Sys2Proof.Machine

namespace Sys2Proof.Machine

/-! ## GRANT and CLOSE_SEAT (02 R37, R38) -/

theorem grantTarget_mem {s : State} {f : Floor} {k n : Nat} (h : s.grantTarget f k = some n) : n ∈ (s.floor f).queue := by
  unfold State.grantTarget at h
  split at h
  · exact List.mem_of_mem_head? h
  · split at h
    · next hc =>
      cases h
      simpa using hc
    · cases h

/-- Settles O8: the grant itself, and a pass that takes nobody off and grants from the queue that the seat has left. -/
theorem grantMakesAQueuedSeatSpeak : Obligations.GrantMakesAQueuedSeatSpeak := by
  intro h a s hr ht hl
  show ∃ t, finish s (handle h (.grant h (.fields a)) (.fields a) grantRequest s) = .next t ∧ _
  have away (c : Code) (hc : grantRequest a s = refusal c s) :=
    handle_refusal h (.grant h (.fields a)) a grantRequest s c hr hc
  split
  · next hf => exact away .range (by simp [grantRequest, hf])
  · next f hf =>
    split
    · next hn => exact away .range (by simp [grantRequest, hf, hn])
    · next hn =>
      split
      · next hb => exact away .state (by simp [grantRequest, hf, hn, hb])
      · next hb =>
        split
        · next htgt => exact away .notQueued (by simp [grantRequest, hf, hn, hb, htgt])
        · next n htgt =>
          split
          · next hfree =>
            have hfree : s.slotFree f = false := by simpa using hfree
            exact away .full (by simp [grantRequest, hf, hn, hb, htgt, hfree])
          · next hfree =>
            have hfree : s.slotFree f = true := by simpa using hfree
            have hdone : grantRequest a s = done (grantPass f (grant n .console s)) := by
              simp [grantRequest, hf, hn, hb, htgt, hfree]
            have hstill := (grantPass_still f _).trans (grant_still n .console s)
            obtain ⟨t, htt, hans, hc⟩ := handle_done h (.grant h (.fields a)) a grantRequest s _ hr hdone
              (pending_of_still hstill)
            have hmode : (s.floor f).settings.mode ≠ .voice := fun hv => by
              apply hb
              unfold State.grantBarred
              rw [hv]
              simp
            have hone := Granted.one (f := f) .console ht.1 ((hl f).1 n (mem_named_of_queue (grantTarget_mem htgt)))
            have hleft : n ∉ ((grant n .console s).floor f).queue := by
              rw [hone.queue]
              simp
            have hspared := (grantPass_spares (n := n) (by rwa [settings_of_still hone.still]) hleft).1
            have horder := grantPass_order f f (grant n .console s)
            obtain ⟨⟨hstand, hturn, -⟩, -⟩ := hone.grantedTurn List.mem_cons_self
            refine ⟨t, htt, hans, ?_, ?_, fun hq => ?_, ?_, (still_of_core hc).trans hstill⟩
            · rw [seat_of_core hc, hspared, hstand]
            · rw [seat_of_core hc, hspared, hturn]
            · rw [floor_of_core hc] at hq
              exact hleft (horder.2 hq)
            · rw [floor_of_core hc, ← hone.order]
              exact horder.1

/-- Settles O9, from what the three operations and the pass after them do. -/
theorem closeSeatTakesASeatOff : Obligations.CloseSeatTakesASeatOff := by
  intro h n s hr
  show ∃ t, finish s (handle h (.closeSeat h (.fields n)) (.fields n) closeSeat s) = .next t ∧ _
  have away (c : Code) (hc : closeSeat n s = refusal c s) :=
    handle_refusal h (.closeSeat h (.fields n)) n closeSeat s c hr hc
  have taken {u : State} (hd : closeSeat n s = done u) (hu : u.still = s.still) :=
    handle_done h (.closeSeat h (.fields n)) n closeSeat s u hr hd (pending_of_still hu)
  dsimp only
  split
  · next hb => exact away .range (by simp [closeSeat, hb])
  · next hb =>
    split
    · next hs => exact away .state (by unfold closeSeat; rw [if_neg hb, if_pos hs])
    · next hs =>
      cases hst : (s.seat n).floorState with
      | priority => exact away .state (by unfold closeSeat; rw [if_neg hb, if_neg hs, hst])
      | priorityWait => exact away .state (by unfold closeSeat; rw [if_neg hb, if_neg hs, hst])
      | idle => exact away .already (by unfold closeSeat; rw [if_neg hb, if_neg hs, hst])
      | queued =>
        obtain ⟨hstill, hacc, hq, hidle⟩ := dequeued_passed .console none hst
        obtain ⟨t, ht, hans, hc⟩ := taken (by unfold closeSeat; rw [if_neg hb, if_neg hs, hst]) hstill
        rw [← still_of_core hc] at hstill
        simp only [← seat_of_core hc, ← floor_of_core hc] at hacc hq hidle
        exact ⟨t, ht, hans, hstill, hacc, hq, hidle⟩
      | speaking =>
        obtain ⟨hstill, hacc, hidle⟩ := closed_passed .console none hst
        obtain ⟨t, ht, hans, hc⟩ := taken (by unfold closeSeat; rw [if_neg hb, if_neg hs, hst]) hstill
        rw [← still_of_core hc] at hstill
        simp only [← seat_of_core hc, ← floor_of_core hc] at hacc hidle
        exact ⟨t, ht, hans, hstill, hacc, hidle⟩
      | suspended =>
        obtain ⟨hstill, hacc, hsusp, hidle⟩ := endSuspended_passed .console none hst
        obtain ⟨t, ht, hans, hc⟩ := taken (by unfold closeSeat; rw [if_neg hb, if_neg hs, hst]) hstill
        rw [← still_of_core hc] at hstill
        simp only [← seat_of_core hc, ← floor_of_core hc] at hacc hsusp hidle
        exact ⟨t, ht, hans, hstill, hacc, hsusp, hidle⟩

end Sys2Proof.Machine

namespace Sys2Proof.Machine

/-! ## Settlements in full (03 R54) -/

/-- The entries of a list that a settlement resumes: under RESUME those whose account has not reached its allowance, from
the head, as far as the slots go. -/
def State.resumes (s : State) (f : Floor) (l : List SuspEntry) : List SuspEntry :=
  if (s.floor f).settings.resumePolicy = .resume then
    (l.filter (fun e => !(s.seat e.seat).exhausted)).take (s.freeSlots f)
  else []

theorem resumable_eq (s : State) (f : Floor) : s.resumable f = s.resumes f (s.floor f).susp := rfl

theorem resumes_sublist (s : State) (f : Floor) (l : List SuspEntry) : (s.resumes f l).Sublist l := by
  unfold State.resumes
  split
  · exact (List.take_sublist _ _).trans List.filter_sublist
  · exact List.nil_sublist l

theorem exhausted_of_still {s t : State} (h : t.still = s.still) (n : Nat) :
    (t.seat n).exhausted = (s.seat n).exhausted := (congrArg SeatRec.exhausted (seat_still h n) :)

/-- What the settling of a list does to its floor and its seats. -/
structure SettlesList (f : Floor) (l r : List SuspEntry) (s t : State) : Prop where
  order : (t.floor f).grantOrder = (s.floor f).grantOrder ++ r.map (·.seat)
  resumed : ∀ e ∈ r, t.seat e.seat = (s.seat e.seat).speaks (s.floor f).settings.mode e.turn
  dropped : ∀ e ∈ l, e ∉ r → t.seat e.seat = ((s.seat e.seat).toState .idle).accountTurn
  still : t.still = s.still

/-- The entry is one that is resumed. -/
def State.resumesNext (s : State) (f : Floor) (e : SuspEntry) : Prop :=
  (s.floor f).settings.resumePolicy = .resume ∧ (s.seat e.seat).exhausted = false ∧ 0 < s.freeSlots f

theorem settleEntry_core_of_resumesNext {f : Floor} {e : SuspEntry} {d : State × List Nat × List Nat}
    (hf : d.1.seatFloor e.seat = f) (h : d.1.resumesNext f e) : (settleEntry f e d).1.core =
      ((d.1.modFloor (d.1.seatFloor e.seat) (fun r =>
          { r with susp := r.susp.filter (·.seat != e.seat), grantOrder := r.grantOrder ++ [e.seat],
                   meeting := r.meeting.restIdle })).modSeat e.seat
        (fun r => r.speaks (d.1.floor f).settings.mode e.turn)).core := by
  obtain ⟨hp, hx, hfree⟩ := h
  unfold settleEntry
  dsimp only
  rw [if_pos (by simpa [hp, hx] using Nat.sub_pos_iff_lt.mp hfree)]
  exact (keyReport_core _ _ _ _ _).trans (Seated.resume_core e hf)

theorem settleEntry_core_of_not {f : Floor} {e : SuspEntry} {d : State × List Nat × List Nat}
    (h : ¬ d.1.resumesNext f e) : (settleEntry f e d).1.core =
      ((d.1.modFloor (d.1.seatFloor e.seat) (fun r => { r with susp := r.susp.filter (·.seat != e.seat) })).modSeat e.seat
        (fun r => (r.toState .idle).accountTurn)).core := by
  unfold settleEntry
  dsimp only
  rw [if_neg (fun hc => h (by
    simp only [Bool.and_eq_true, beq_iff_eq, Bool.not_eq_true', decide_eq_true_eq] at hc
    exact ⟨hc.1.1, hc.1.2, Nat.sub_pos_of_lt hc.2⟩))]
  exact endSuspended_core _ _ _ _

section
variable {f : Floor} {e : SuspEntry} {d : State × List Nat × List Nat} (hl : d.1.seats.length = 48)
  (hown : d.1.owns f e.seat)
include hl hown

/-- A settled entry is resumed, or it is dropped. -/
theorem settleEntry_resumed (h : d.1.resumesNext f e) : SettlesList f [e] [e] d.1 (settleEntry f e d).1 := by
  obtain ⟨hmem, rfl⟩ := hown
  have hcore := settleEntry_core_of_resumesNext rfl h
  refine ⟨?_, fun x hx => ?_, fun x hx hn => absurd hx hn, settleEntry_still _ e d⟩
  · rw [floor_of_core hcore, State.floor_modSeat, State.floor_modFloor_same]
    rfl
  · rw [List.mem_singleton.mp hx, seat_of_core hcore, seat_modSeat_of_mem (by rw [State.modFloor_seats, hl]) hmem,
      State.seat_modFloor]

theorem settleEntry_dropped (h : ¬ d.1.resumesNext f e) : SettlesList f [e] [] d.1 (settleEntry f e d).1 := by
  obtain ⟨hmem, rfl⟩ := hown
  have hcore := settleEntry_core_of_not h
  refine ⟨?_, fun x hx => (by cases hx), fun x hx _ => ?_, settleEntry_still _ e d⟩
  · rw [floor_of_core hcore, State.floor_modSeat, State.floor_modFloor_same]
    simp
  · rw [List.mem_singleton.mp hx, seat_of_core hcore, seat_modSeat_of_mem (by rw [State.modFloor_seats, hl]) hmem,
      State.seat_modFloor]

end

/-- The entries of a list settle one after the other. -/
theorem settleEntries_spec {f : Floor} (l : List SuspEntry) {d : State × List Nat × List Nat}
    (hl : d.1.seats.length = 48) (hown : ∀ e ∈ l, d.1.owns f e.seat) (hnd : (l.map (·.seat)).Nodup) :
    SettlesList f l (d.1.resumes f l) d.1 (l.foldl (fun d e => settleEntry f e d) d).1 := by
  induction l generalizing d with
  | nil =>
    have hnil : d.1.resumes f [] = [] := List.sublist_nil.mp (resumes_sublist d.1 f [])
    rw [hnil]
    exact ⟨by simp, fun e he => (by cases he), fun e he => (by cases he), rfl⟩
  | cons e l ih =>
    obtain ⟨hel, hnd⟩ := List.nodup_cons.mp hnd
    have hstill := settleEntry_still f e d
    have hkept (x : SuspEntry) (hx : x ∈ l) : (settleEntry f e d).1.seat x.seat = d.1.seat x.seat :=
      (settleEntry_passesBy f e (fun h => hel (List.mem_map.mpr ⟨x, hx, h⟩)) d).seat
    have hself (t : State × List Nat × List Nat) :
        (l.foldl (fun d e => settleEntry f e d) t).1.seat e.seat = t.1.seat e.seat :=
      (settleEntries_passesBy f l hel t).seat
    have hrest := ih (d := settleEntry f e d) (by rw [length_of_still hstill, hl])
      (fun x hx => by rw [owns_of_still hstill]; exact hown x (List.mem_cons_of_mem e hx)) hnd
    have hfilter : l.filter (fun x => !((settleEntry f e d).1.seat x.seat).exhausted) =
        l.filter (fun x => !(d.1.seat x.seat).exhausted) :=
      List.filter_congr (fun x _ => by rw [exhausted_of_still hstill])
    have hset := settings_of_still hstill f
    rw [List.foldl_cons]
    by_cases hc : d.1.resumesNext f e
    · have hspec := settleEntry_resumed hl (hown e List.mem_cons_self) hc
      have hslots : d.1.freeSlots f = (settleEntry f e d).1.freeSlots f + 1 := by
        have := hc.2.2
        unfold State.freeSlots at this ⊢
        rw [hset, hspec.order, List.length_append, List.map_singleton, List.length_singleton]
        omega
      have hresumes : d.1.resumes f (e :: l) = e :: (settleEntry f e d).1.resumes f l := by
        unfold State.resumes
        rw [hset, if_pos hc.1, if_pos hc.1, hfilter, hslots, List.filter_cons_of_pos (by simp [hc.2.1]),
          List.take_succ_cons]
      rw [hresumes]
      refine ⟨?_, fun x hx => ?_, fun x hx hn => ?_, hrest.still.trans hstill⟩
      · rw [hrest.order, hspec.order, List.append_assoc]
        rfl
      · rcases List.mem_cons.mp hx with rfl | hx
        · rw [hself, hspec.resumed x List.mem_cons_self]
        · rw [hrest.resumed x hx, hkept x ((resumes_sublist _ f l).subset hx), hset]
      · rw [List.mem_cons, not_or] at hn
        have hx := (List.mem_cons.mp hx).resolve_left hn.1
        rw [hrest.dropped x hx hn.2, hkept x hx]
    · have hspec := settleEntry_dropped hl (hown e List.mem_cons_self) hc
      have hslots : d.1.freeSlots f = (settleEntry f e d).1.freeSlots f := by
        unfold State.freeSlots
        rw [hset, hspec.order, List.map_nil, List.append_nil]
      have hresumes : d.1.resumes f (e :: l) = (settleEntry f e d).1.resumes f l := by
        unfold State.resumes
        rw [hset, hfilter, hslots]
        by_cases hp : (d.1.floor f).settings.resumePolicy = .resume
        · rw [if_pos hp, if_pos hp]
          by_cases hx : (d.1.seat e.seat).exhausted = true
          · rw [List.filter_cons_of_neg (by simp [hx])]
          · have hzero : (settleEntry f e d).1.freeSlots f = 0 := by
              rw [← hslots]
              by_contra hne
              exact hc ⟨hp, by simpa using hx, Nat.pos_of_ne_zero hne⟩
            rw [hzero, List.take_zero, List.take_zero]
        · rw [if_neg hp, if_neg hp]
      rw [hresumes]
      refine ⟨?_, fun x hx => ?_, fun x hx hn => ?_, hrest.still.trans hstill⟩
      · rw [hrest.order, hspec.order, List.map_nil, List.append_nil]
      · rw [hrest.resumed x hx, hkept x ((resumes_sublist _ f l).subset hx), hset]
      · rcases List.mem_cons.mp hx with rfl | hx
        · rw [hself, hspec.dropped x List.mem_cons_self (by simp)]
        · rw [hrest.dropped x hx hn, hkept x hx]

theorem settle_floor {f : Floor} {s : State} (hown : ∀ e ∈ (s.floor f).susp, s.seatFloor e.seat = f) :
    ((settle f s).floor f).susp = [] ∧ ((settle f s).floor f).stack = (s.floor f).stack := by
  rw [settle_eq, grantPass_susp, grantPass_stack, floor_of_core (priorityReport_core _ _ _ _ _ _ _)]
  exact ⟨settledList_susp hown, (settleEntries_floor (s.floor f).susp (d := (s, [], [])) hown).2⟩

end Sys2Proof.Machine

namespace Sys2Proof.Machine

/-! ## Settlements, as `settles` says them (03 R54) -/

/-- Voice grants pass by a seat that is not IDLE. -/
theorem grantVoices_spares {n : Nat} (f : Floor) (k : Nat) {s : State} (h : s.standing n ≠ .idle) :
    (grantVoices f k s).seat n = s.seat n := by
  induction k generalizing s with
  | zero => rfl
  | succ k ih =>
    unfold grantVoices
    split
    · split
      · next m hm =>
        have hne : n ≠ m := by
          rintro rfl
          exact h (mem_candidates.mp (firstCandidate_some hm).1).2.1
        have hseat := grant_seat_ne hne .voice s
        exact (ih (by rwa [State.standing, hseat])).trans hseat
      · rfl
    · rfl

/-- A grant pass passes by a seat that is neither IDLE nor queued. -/
theorem grantPass_spares_busy {n : Nat} {f : Floor} {s : State} (h : s.standing n ≠ .idle)
    (hq : n ∉ (s.floor f).queue) : (grantPass f s).seat n = s.seat n := by
  unfold grantPass
  split
  · split
    · split
      · exact (grantQueue_spares .auto 8 hq).1
      · rfl
    · exact grantVoices_spares f 8 h
    · rfl
    · rfl
  · rfl

theorem not_mem_queue_of_standing {b : Bool} {lifted owing : Option Floor} {s : State} (hs : Seated b lifted owing s)
    (hb : b = true) {n : Nat} {f : Floor} (hn : s.standing n ≠ .queued) : n ∉ (s.floor f).queue :=
  fun hq => hn ((hs.fits f).queued_of_mem hb hq)

/-- A floor with an empty stack settles its list. -/
theorem settle_settles {f : Floor} {lifted : Option Floor} {s : State} (hs : Seated true lifted (some f) s)
    (hstack : (s.floor f).stack = []) : settles f s (settle f s) := by
  have hfits := hs.fits f
  have hown (e : SuspEntry) (he : e ∈ (s.floor f).susp) : s.owns f e.seat := hfits.owned _ (mem_named_of_susp he)
  have hspec : SettlesList f (s.floor f).susp (s.resumes f (s.floor f).susp) s (settledList f s).1 :=
    settleEntries_spec (f := f) (s.floor f).susp (d := (s, [], [])) hs.table hown (hfits.nodup_susp rfl)
  obtain ⟨hsusp, hstack'⟩ := settle_floor (f := f) (s := s) (fun e he => (hown e he).2)
  have hdone := hs.settle hstack
  let w := priorityReport f .settled none none none
    (Fmt.seats (settledList f s).2.1 ++ Fmt.seats (settledList f s).2.2) (settledList f s).1
  have hw : w.core = (settledList f s).1.core := priorityReport_core _ _ _ _ _ _ _
  have hws : Seated true lifted none w := (hs.settledList hstack).of_ledger (ledger_of_core hw)
  have hpass : settle f s = grantPass f w := settle_eq f s
  have hstill : w.still = s.still := (still_of_core hw).trans hspec.still
  have hseat (n : Nat) : w.seat n = (settledList f s).1.seat n := seat_of_core hw n
  refine ⟨hstack'.trans hstack, hsusp, ?_, fun e he => ?_, fun e he hn => ?_⟩
  · rw [resumable_eq, ← hspec.order, ← floor_of_core hw, hpass]
    exact (grantPass_order f f w).1
  · rw [resumable_eq] at he
    have hspeaks : w.seat e.seat = (s.seat e.seat).speaks (s.floor f).settings.mode e.turn :=
      (hseat _).trans (hspec.resumed e he)
    have hstand : w.standing e.seat = .speaking := congrArg SeatRec.floorState hspeaks
    rw [hpass, grantPass_spares_busy (by rw [hstand]; decide)
      (not_mem_queue_of_standing hws rfl (by rw [hstand]; decide)), hspeaks]
    refine ⟨rfl, rfl, ?_, rfl⟩
    unfold SeatRec.speaks
    by_cases hm : (s.floor f).settings.mode = .voice
    · rw [if_pos hm, hm]
      rfl
    · rw [if_neg hm]
      exact if_neg (by simpa using hm)
  · rw [resumable_eq] at hn
    have hdropped : w.seat e.seat = ((s.seat e.seat).toState .idle).accountTurn :=
      (hseat _).trans (hspec.dropped e he hn)
    refine ⟨?_, fun hm => ?_⟩
    · rw [hpass, grantPass_accTurns, hdropped]
      rfl
    · have hstand : w.standing e.seat = .idle := congrArg SeatRec.floorState hdropped
      have hidle : (settle f s).standing e.seat = .idle := by
        rw [State.standing, hpass, (grantPass_spares (by rwa [settings_of_still hstill])
          (not_mem_queue_of_standing hws rfl (by rw [hstand]; decide))).1]
        exact hstand
      refine ⟨hidle, fun hmem => ?_⟩
      have := (hdone.fits f).speaking_of_mem rfl hmem
      rw [hidle] at this
      cases this

/-- A settlement reads the floor's settings, its grant order and its list, and the accounts of the seats on it. -/
theorem settles_of {f : Floor} {s u t : State} (hset : (u.floor f).settings = (s.floor f).settings)
    (hord : (u.floor f).grantOrder = (s.floor f).grantOrder) (hsusp : (u.floor f).susp = (s.floor f).susp)
    (hseat : ∀ e ∈ (s.floor f).susp, u.seat e.seat = s.seat e.seat) (h : settles f u t) : settles f s t := by
  have hres : u.resumable f = s.resumable f := by
    rw [resumable_eq, resumable_eq]
    unfold State.resumes State.freeSlots
    rw [hset, hord, hsusp, List.filter_congr (fun e he => by rw [hseat e he])]
  have hsub (e : SuspEntry) (he : e ∈ s.resumable f) : u.seat e.seat = s.seat e.seat :=
    hseat e ((resumes_sublist s f _).subset he)
  obtain ⟨hst, hsu, hpre, hresumed, hdropped⟩ := h
  rw [hres] at hpre hresumed hdropped
  rw [hord] at hpre
  rw [hset] at hresumed hdropped
  rw [hsusp] at hdropped
  refine ⟨hst, hsu, hpre, fun e he => ?_, fun e he hn => ?_⟩
  · rw [← hsub e he]
    exact hresumed e he
  · rw [← hseat e he]
    exact hdropped e he hn

/-! ## The end of every entry (03 R58) -/

theorem FloorFits.nodup_stack {b : Bool} {lim owed : Prop} {own : Nat → Prop} {st : Nat → FloorState} {chair : Nat → Bool}
    {r : FloorRec} (h : FloorFits b lim owed own st chair r) (hb : b = true) : (r.stack.map (·.holder)).Nodup := by
  refine List.nodup_iff_count_le_one.mpr (fun n => ?_)
  by_cases hn : n ∈ r.stack.map (·.holder)
  · obtain ⟨e, he, rfl⟩ := List.mem_map.mp hn
    have hown := h.owned _ (mem_named_of_stack he)
    have hp := h.once hb _ hown
    rcases (h.lists hb hown).2.2.2.mp hn with hst | hst <;> rw [hst] at hp <;>
      simp only [FloorRec.placesOf, FloorState.places, Prod.mk.injEq] at hp <;> exact hp.2.2.2.le
  · simp [List.count_eq_zero_of_not_mem hn]

theorem seat_forAll_modSeat_off {α : Type} (key : α → Nat) (k : SeatRec → SeatRec) {l : List α} {n : Nat}
    (hn : n ∉ l.map key) (s : State) : (forAll l (fun a => State.modSeat (key a) k) s).seat n = s.seat n := by
  induction l generalizing s with
  | nil => rfl
  | cons c l ih =>
    rw [List.map_cons, List.mem_cons, not_or] at hn
    exact (ih hn.2 _).trans (State.seat_modSeat_ne hn.1 k s)

/-- Seats of a list that each stand in it once are updated once. -/
theorem seat_forAll_modSeat_once {α : Type} (key : α → Nat) (k : SeatRec → SeatRec) {l : List α} {s : State}
    (hl : s.seats.length = 48) (hnd : (l.map key).Nodup) {a : α} (ha : a ∈ l) (hm : key a ∈ allSeats) :
    (forAll l (fun a => State.modSeat (key a) k) s).seat (key a) = k (s.seat (key a)) := by
  induction l generalizing s with
  | nil => cases ha
  | cons c l ih =>
    obtain ⟨hc, hnd⟩ := List.nodup_cons.mp hnd
    rcases List.mem_cons.mp ha with rfl | ha
    · exact (seat_forAll_modSeat_off key k hc _).trans (seat_modSeat_of_mem hl hm k)
    · have hne : key a ≠ key c := fun h => hc (List.mem_map.mpr ⟨a, ha, h⟩)
      exact (ih (by rw [State.modSeat_seats_length, hl]) hnd ha).trans
        (congrArg k (State.seat_modSeat_ne hne k s))

section
variable {f : Floor} {s : State} (hs : Seated true none none s)
include hs

theorem unheld_seat_of_holder {e : HoldEntry} (he : e ∈ (s.floor f).stack) : (unheld f s).seat e.holder =
    if (s.seat e.holder).floorState == .priority then ((s.seat e.holder).toState .idle).accountTurn
    else (s.seat e.holder).toState .idle := by
  have hfits := hs.fits f
  have hone := seat_forAll_modSeat_once HoldEntry.holder (s := s.modFloor f (fun r => { r with stack := [] }))
    (fun r => if r.floorState == .priority then (r.toState .idle).accountTurn else r.toState .idle)
    (by rw [State.modFloor_seats, hs.table]) (hfits.nodup_stack rfl) he (hfits.owned _ (mem_named_of_stack he)).1
  rw [State.seat_modFloor] at hone
  exact hone

theorem unheld_seat_of_suspended {e : SuspEntry} (he : e ∈ (s.floor f).susp) :
    (unheld f s).seat e.seat = s.seat e.seat := by
  have hfits := hs.fits f
  have hst : s.standing e.seat = .suspended := hfits.suspended_of_mem rfl he
  refine (seat_forAll_modSeat_off HoldEntry.holder _ (fun hm => ?_) _).trans (State.seat_modFloor _ _ _ _)
  have := (hfits.lists rfl (hfits.owned _ (mem_named_of_susp he))).2.2.2.mp hm
  rw [hst] at this
  rcases this with h | h <;> cases h

/-- The end of every entry of a floor, with what becomes of its holders and of the suspended seats (03 R54, R58). -/
theorem endAllEntries_settles (why : EndReason) : settles f s (endAllEntries why f s) ∧
    ∀ e ∈ (s.floor f).stack, turnsOf e.holder ((s.seat e.holder).floorState == .priority) s (endAllEntries why f s) ∧
      ((s.floor f).settings.mode ≠ .voice → ((endAllEntries why f s).seat e.holder).floorState = .idle) := by
  obtain ⟨w, hw, heq⟩ := endAllEntries_eq why f s
  have hfloor : w.floor f = { s.floor f with stack := [] } := (floor_of_core hw f).trans (unheld_floor f s)
  have hws : Seated true none (some f) w := (hs.unheld f).of_ledger (ledger_of_core hw)
  rw [heq]
  refine ⟨settles_of (u := w) (by rw [hfloor]) (by rw [hfloor]) (by rw [hfloor])
    (fun e he => (seat_of_core hw _).trans (unheld_seat_of_suspended hs he)) (settle_settles hws (by rw [hfloor])),
    fun e he => ?_⟩
  have hseat : w.seat e.holder = _ := (seat_of_core hw _).trans (unheld_seat_of_holder hs he)
  have hidle : w.standing e.holder = .idle := by
    rw [State.standing, hseat]
    exact releaseHolder_floorState _
  have hown := (hs.fits f).owned _ (mem_named_of_stack he)
  have hpl := (hws.fits f).places_zero rfl (n := e.holder) (by
    rw [owns_of_still ((still_of_core hw).trans (unheld_still f s))]
    exact hown) hidle
  have hnamed : e.holder ∉ (w.floor f).named := (not_mem_named_iff _ _).mpr hpl
  have hsusp : e.holder ∉ (w.floor f).susp.map (·.seat) := fun h =>
    hnamed ((FloorRec.mem_named _ _).mpr (Or.inr (Or.inr (Or.inl h))))
  have hlist := settleEntries_passesBy f (w.floor f).susp hsusp (w, [], [])
  have hkept : (settledList f w).1.seat e.holder = w.seat e.holder := hlist.seat
  rw [settle_eq]
  refine ⟨?_, fun hm => ?_⟩
  · unfold turnsOf
    rw [grantPass_accTurns, seat_of_core (priorityReport_core _ _ _ _ _ _ _), hkept, hseat]
    split <;> rfl
  · have hstill : (settledList f w).1.still = s.still :=
      (settleEntries_still f _ (w, [], [])).trans ((still_of_core hw).trans (unheld_still f s))
    rw [(grantPass_spares ?_ ?_).1, seat_of_core (priorityReport_core _ _ _ _ _ _ _), hkept]
    · exact hidle
    · rwa [floor_of_core (priorityReport_core _ _ _ _ _ _ _), settings_of_still hstill]
    · rw [floor_of_core (priorityReport_core _ _ _ _ _ _ _)]
      exact fun h => hnamed (hlist.named f (mem_named_of_queue h))

end

/-! ## CLEAR_QUEUE and PRIORITY_END (02 R39, 03 R58) -/

theorem modFloor_congr {f : Floor} {g g' : FloorRec → FloorRec} {s : State} (h : g (s.floor f) = g' (s.floor f)) :
    s.modFloor f g = s.modFloor f g' := by
  cases f
  · exact congrArg (fun r => { s with floorA := r }) h
  · exact congrArg (fun r => { s with floorB := r }) h

theorem modFloor_eq_self {f : Floor} {g : FloorRec → FloorRec} {s : State} (h : g (s.floor f) = s.floor f) :
    s.modFloor f g = s :=
  (modFloor_congr (g' := id) h).trans (by cases f <;> rfl)

theorem forAll_modSeat_core_congr {s t : State} (h : t.core = s.core) (k : SeatRec → SeatRec) (l : List Nat) :
    (forAll l (fun n => State.modSeat n k) t).core = (forAll l (fun n => State.modSeat n k) s).core := by
  induction l generalizing s t with
  | nil => exact h
  | cons n l ih => exact ih (modSeat_core_congr h n k)

/-- Seats of one floor are taken from its queue. -/
theorem dequeues_core {f : Floor} (c : KeyCause) {l : List Nat} {s : State} (hl : ∀ n ∈ l, s.seatFloor n = f) :
    (forAll l (fun n => dequeue n c none) s).core = (forAll l (fun n => State.modSeat n (SeatRec.toState .idle))
      (s.modFloor f (fun r => { r with queue := r.queue.filter (· ∉ l) }))).core := by
  induction l generalizing s with
  | nil =>
    exact congrArg State.core (modFloor_eq_self (f := f) (s := s)
      (g := fun r => { r with queue := r.queue.filter (· ∉ ([] : List Nat)) }) (by simp)).symm
  | cons n l ih =>
    have hn := hl n List.mem_cons_self
    have hstep : (dequeue n c none s).core = ((s.modSeat n (SeatRec.toState .idle)).modFloor f
        (fun r => { r with queue := r.queue.filter (· != n) })).core := by
      rw [dequeue_core, hn, modSeat_modFloor]
    refine (ih (fun m hm => ?_)).trans ?_
    · rw [seatFloor_of_still (dequeue_still n c none s)]
      exact hl m (List.mem_cons_of_mem n hm)
    · refine forAll_modSeat_core_congr ((modFloor_core_congr hstep f _).trans ?_) _ l
      rw [modFloor_modFloor, modSeat_modFloor]
      refine modSeat_core_congr (congrArg State.core (modFloor_congr ?_)) n _
      simp only [List.filter_filter, FloorRec.mk.injEq, true_and, and_true]
      refine List.filter_congr (fun m _ => ?_)
      rw [Bool.eq_iff_iff]
      simp [and_comm]

theorem emptyQueue_core {f : Floor} (c : KeyCause) {s : State} (hl : ∀ n ∈ (s.floor f).queue, s.seatFloor n = f) :
    (emptyQueue f c s).core = (forAll (s.floor f).queue (fun n => State.modSeat n (SeatRec.toState .idle))
      (s.modFloor f (fun r => { r with queue := [] }))).core := by
  refine (dequeues_core c hl).trans (congrArg (fun u : State => (forAll (s.floor f).queue
    (fun n => State.modSeat n (SeatRec.toState .idle)) u).core) (modFloor_congr ?_))
  simp

/-- Settles O10: the queue is emptied seat by seat; the entries end together and the list is settled. -/
theorem queueAndStackRequestsEmptyThem : Obligations.QueueAndStackRequestsEmptyThem := by
  refine ⟨fun h k s hr hl => ?_, fun h k s hr hl => ?_⟩
  · show ∃ t, finish s (handle h (.clearQueue h (.fields k)) (.fields k) clearQueue s) = .next t ∧ _
    have away (c : Code) (hc : clearQueue k s = refusal c s) :=
      handle_refusal h (.clearQueue h (.fields k)) k clearQueue s c hr hc
    split
    · next hf => exact away .range (by simp [clearQueue, hf])
    · next f hf =>
      split
      · next hs => exact away .state (by unfold clearQueue; rw [hf]; exact if_pos hs)
      · next hs =>
        obtain ⟨t, ht, hans, hc⟩ := handle_done h (.clearQueue h (.fields k)) k clearQueue s (emptyQueue f .console s) hr
          (by unfold clearQueue; rw [hf]; exact if_neg hs) (pending_of_still (emptyQueue_still f .console s))
        exact ⟨t, ht, hans, hc.trans (emptyQueue_core .console (fun n hn => ((hl f).1 n (mem_named_of_queue hn)).2))⟩
  · show ∃ t, finish s (handle h (.priorityEnd h (.fields k)) (.fields k) priorityEnd s) = .next t ∧ _
    have away (c : Code) (hc : priorityEnd k s = refusal c s) :=
      handle_refusal h (.priorityEnd h (.fields k)) k priorityEnd s c hr hc
    split
    · next hf => exact away .range (by simp [priorityEnd, hf])
    · next f hf =>
      split
      · next hs => exact away .state (by unfold priorityEnd; rw [hf]; exact if_pos hs)
      · next hs =>
        split
        · next hh => exact away .already (by unfold priorityEnd; rw [hf]; exact (if_neg hs).trans (if_pos hh))
        · next hh =>
          have hstill := endAllEntries_still .console f s
          obtain ⟨t, ht, hans, hc⟩ := handle_done h (.priorityEnd h (.fields k)) k priorityEnd s
            (endAllEntries .console f s) hr (by unfold priorityEnd; rw [hf]; exact (if_neg hs).trans (if_neg hh))
            (pending_of_still hstill)
          obtain ⟨w, hw, heq⟩ := endAllEntries_eq .console f s
          have hfloor : w.floor f = { s.floor f with stack := [] } := (floor_of_core hw f).trans (unheld_floor f s)
          have hws : w.still = s.still := (still_of_core hw).trans (unheld_still f s)
          obtain ⟨hsusp, hstack⟩ := settle_floor (f := f) (s := w) (fun e he => by
            rw [hfloor] at he
            rw [seatFloor_of_still hws]
            exact ((hl f).1 _ (mem_named_of_susp he)).2)
          rw [← heq] at hsusp hstack
          refine ⟨t, ht, hans, ?_, ?_, (still_of_core hc).trans hstill, fun htab hst => ?_⟩
          · rw [floor_of_core hc, hstack, hfloor]
          · rw [floor_of_core hc, hsusp]
          · have := endAllEntries_settles (f := f) ((seated_iff true s).mpr ⟨htab.1, hl, fun _ => hst⟩) .console
            simpa only [settles, turnsOf, seat_of_core hc, floor_of_core hc] using this

end Sys2Proof.Machine

namespace Sys2Proof.Machine

/-! ## Turns and accounts (03 R60 to R64) -/

theorem closeTurn_eq (n : Nat) (c : KeyCause) (o : TurnOutcome) (s : State) :
    ∃ w : State, w.core = (close n c none s).core ∧ closeTurn n c o s = grantPass (s.seatFloor n) w :=
  ⟨_, report_core _ _ _, rfl⟩

/-- A speaker whose time is up has its turn accounted. -/
theorem closeTurn_accounts {n : Nat} {s : State} (c : KeyCause) (o : TurnOutcome) (hst : (s.seat n).floorState = .speaking) :
    (closeTurn n c o s).still = s.still ∧ ((closeTurn n c o s).seat n).accTurns = min 255 ((s.seat n).accTurns + 1) := by
  obtain ⟨w, hw, heq⟩ := closeTurn_eq n c o s
  rw [heq]
  refine ⟨(grantPass_still _ _).trans ((still_of_core hw).trans (close_still n c none s)), ?_⟩
  rw [grantPass_accTurns, accTurns_of_ended (by rw [hst]; decide) (by intros; rfl) (hw.trans (close_core n c none s))]

theorem runningTurn_some {s : State} {n : Nat} {r : Turn} (h : s.runningTurn n = some r) :
    (s.seat n).floorState = .speaking ∧ (s.seat n).turn = some r := by
  unfold State.runningTurn at h
  split at h
  · next hst => exact ⟨beq_iff_eq.mp hst, h⟩
  · cases h

theorem warnTurn_core {s : State} {n : Nat} {r : Turn} (h : s.runningTurn n = some r)
    (hw : r.mayWarn (s.floor (s.seatFloor n)).settings.warnLead = true) : (warnTurn n s).core =
      (s.modSeat n (fun x => { x with turn := some (r.warnAt (s.floor (s.seatFloor n)).settings.warnLead) })).core := by
  unfold warnTurn
  dsimp only
  rw [h]
  dsimp only
  rw [if_pos hw]
  exact report_core _ _ _

theorem warnTurn_pending (n : Nat) (s : State) : (warnTurn n s).pending = s.pending := by
  unfold warnTurn
  dsimp only
  split
  · rfl
  · split
    · exact (report_pending _ _ _).trans (State.modSeat_pending n _ s)
    · rfl

theorem expireTurn_pending (n : Nat) (s : State) : (expireTurn n s).pending = s.pending := by
  unfold expireTurn
  split
  · rfl
  · split
    · rfl
    · split
      · exact (pending_of_still (closeTurn_still _ _ _ _)).trans (State.modSeat_pending n _ s)
      · split
        · rfl
        · exact (report_pending _ _ _).trans (State.modSeat_pending n _ s)

/-- The expiry of a turn under NOTIFY. -/
theorem expireTurn_core_of_notify {s : State} {n : Nat} {r : Turn} (h : s.runningTurn n = some r)
    (hr : r.remaining.isSome) (he : r.expired = false) (ha : (s.floor (s.seatFloor n)).settings.expiryAction = .notify) :
    (expireTurn n s).core = (s.modSeat n (fun x => { x with turn := some r.expire })).core := by
  unfold expireTurn
  rw [h]
  dsimp only
  rw [if_neg (by rw [Option.isNone_iff_eq_none]; exact Option.isSome_iff_ne_none.mp hr), ha]
  dsimp only
  rw [if_neg (by rw [he]; decide)]
  exact report_core _ _ _

/-- The expiry of a turn under CLOSE. -/
theorem expireTurn_of_close {s : State} {n : Nat} {r : Turn} (h : s.runningTurn n = some r)
    (hr : r.remaining.isSome) (ha : (s.floor (s.seatFloor n)).settings.expiryAction = .close) :
    (expireTurn n s).still = s.still ∧ ((expireTurn n s).seat n).accTurns = min 255 ((s.seat n).accTurns + 1) := by
  have hturn (x : Turn) : (s.modSeat n (fun r => { r with turn := some x })).still = s.still :=
    modSeat_still n _ (by intros; rfl) s
  have hst (x : Turn) : ((s.modSeat n (fun r => { r with turn := some x })).seat n).floorState = .speaking :=
    (seat_modSeat_keeps SeatRec.floorState (by intros; rfl) n n s).trans (runningTurn_some h).1
  have hacc (x : Turn) : ((s.modSeat n (fun r => { r with turn := some x })).seat n).accTurns = (s.seat n).accTurns :=
    seat_modSeat_keeps SeatRec.accTurns (by intros; rfl) n n s
  unfold expireTurn
  rw [h]
  dsimp only
  rw [if_neg (by rw [Option.isNone_iff_eq_none]; exact Option.isSome_iff_ne_none.mp hr), ha]
  obtain ⟨hstill, hended⟩ := closeTurn_accounts .turnLimit .expired (hst { r with remaining := some 0 })
  exact ⟨hstill.trans (hturn _), hended.trans (by rw [hacc])⟩

/-- A second of the account of a SPEAKING or PRIORITY seat (03 R62, R64). -/
theorem accountSecond_spec {s : State} {n : Nat}
    (h : (s.seat n).floorState = .speaking ∨ (s.seat n).floorState = .priority) :
    let u := s.modSeat n SeatRec.addSecond
    if (s.seat n).floorState = .speaking ∧ (s.seat n).exhausted = false ∧ (u.seat n).exhausted = true then
      (accountSecond n s).still = u.still ∧
        ((accountSecond n s).seat n).accTurns = min 255 ((s.seat n).accTurns + 1)
    else accountSecond n s = u := by
  have hacc : ((s.modSeat n SeatRec.addSecond).seat n).accTurns = (s.seat n).accTurns :=
    seat_modSeat_keeps SeatRec.accTurns (by intros; rfl) n n s
  dsimp only
  unfold accountSecond
  rcases h with hst | hst
  · rw [hst]
    dsimp only
    have hst' : ((s.modSeat n SeatRec.addSecond).seat n).floorState = .speaking :=
      (seat_modSeat_keeps SeatRec.floorState (by intros; rfl) n n s).trans hst
    obtain ⟨hstill, hended⟩ := closeTurn_accounts .allowance .allowance hst'
    split
    · next hc =>
      rw [if_pos (by simp [hc.2.1, hc.2.2])]
      exact ⟨hstill, hended.trans (by rw [hacc])⟩
    · next hc =>
      rw [if_neg (fun hb => hc ⟨rfl, by simpa using hb⟩)]
  · rw [hst, if_neg (fun hc => by cases hc.1)]

/-- A seat that its allowance closes leaves its lists, and no pass takes it up again (03 R64). -/
theorem closeTurn_allowance_releases {n : Nat} {s : State} (hn : n ∈ allSeats) (hl : s.seats.length = 48)
    (hp : s.standsOnce n) (hst : (s.seat n).floorState = .speaking) (he : (s.seat n).exhausted = true) :
    releasedFrom s n (closeTurn n .allowance .allowance s) := by
  obtain ⟨w, hw, heq⟩ := closeTurn_eq n .allowance .allowance s
  have hoff : TakenOff n s w := (close_takenOff hn hl hp hst .allowance none).of_core hw
  have hbarred : s.admission n ≠ none := by
    unfold State.admission
    dsimp only
    rw [he]
    split
    · simp
    · split <;> simp
  rw [heq]
  exact (hoff.andThen (grantPass_passesBy (hoff.ungrantable (Or.inl hbarred))) (grantPass_still _ _)).releasedFrom

/-! ## What is due (03 R60, R61) -/

theorem warnDue_iff (n : Nat) (s : State) : s.warnDue n = true ↔ ∃ r x, s.runningTurn n = some r ∧ r.remaining = some x ∧
    r.warned = false ∧ (s.floor (s.seatFloor n)).settings.warnLead ≠ 0 ∧
    x ≤ (s.floor (s.seatFloor n)).settings.warnLead * 1000 := by
  unfold State.warnDue Turn.mayWarn
  cases s.runningTurn n with
  | none => simp
  | some r =>
    cases hx : r.remaining with
    | none => simp [hx]
    | some x => simp [hx, and_assoc]

theorem expiryDue_iff (n : Nat) (s : State) : s.expiryDue n = true ↔ ∃ r, s.runningTurn n = some r ∧
    r.remaining = some 0 ∧ (r.expired = false ∨ (s.floor (s.seatFloor n)).settings.expiryAction = .close) := by
  unfold State.expiryDue
  cases s.runningTurn n with
  | none => simp
  | some r => simp

/-! ## Wrong-seat displays that have ended (08 R153) -/

theorem plate_modPlate_see {n m : Nat} {s : State} {k : Plate → Plate} (hs : (s.plate n).see = none)
    (hk : n = m → (k (s.plate n)).see = none) : ((s.modPlate m k).plate n).see = none := by
  by_cases h : n = m
  · subst h
    by_cases hn : 1 ≤ n ∧ n ≤ s.sd.plates.length
    · rw [plate_modPlate_same hn.1 hn.2]
      exact hk rfl
    · cases n with
      | zero => rfl
      | succ j =>
        have hj : s.sd.plates.length ≤ j := by
          by_contra hlt
          exact hn ⟨by omega, by omega⟩
        simp only [State.plate, State.modPlate, List.getD_eq_getElem?_getD]
        rw [List.getElem?_eq_none (by rw [List.length_modify]; exact hj)]
        rfl
  · rwa [plate_modPlate_ne h]

theorem refreshPlate_see {n : Nat} (m : Nat) {s : State} (h : (s.plate n).see = none) :
    ((refreshPlate m s).plate n).see = none := by
  have drawn : ((if s.plateOf m == s.plate m then s else s.modPlate m (fun _ => s.plateOf m)).plate n).see = none := by
    split
    · exact h
    · refine plate_modPlate_see h (fun hnm => ?_)
      subst hnm
      unfold State.plateOf
      dsimp only
      split
      · exact h
      · rfl
  unfold refreshPlate drawPlate
  dsimp only
  split
  · split
    · rw [plate_of_plates (handOn_plates _ _)]
      exact drawn
    · exact drawn
  · exact drawn

/-- A nameplate without a wrong-seat text gets none from a refresh. -/
theorem refresh_see {n : Nat} {s : State} (h : (s.plate n).see = none) : ((refresh s).plate n).see = none := by
  rw [plate_of_plates (refresh_plates s)]
  refine forAll_preserves (P := fun t : State => (t.plate n).see = none) (fun m _ _ ht => refreshPlate_see m ht) ?_
  rwa [plate_of_plates (screensAndCameras_plates s)]

/-! ## The steps of the seat timers -/

/-- A warned speaker's lamp. -/
theorem lamp_of_warned {s t : State} {n : Nat} {r : Turn} (hst : (s.seat n).floorState = .speaking) (hw : r.warned = true)
    (hc : t.core = (s.modSeat n (fun x => { x with turn := some r })).core) :
    t.lamp n = if s.pwr.state = .dim ∨ s.pwr.state = .sleep then .off
      else if (s.seat n).refusal.isSome then .blinkRefused else .blinkWarn := by
  have hseat : t.seat n = { s.seat n with turn := some r } :=
    (seat_of_core hc n).trans (seat_modSeat_of_busy (by rw [hst]; decide) _)
  have hpwr : t.pwr = s.pwr := (power_of_core hc).trans (State.modSeat_pwr n _ s)
  have hlamp : (t.seat n).lamp = if (s.seat n).refusal.isSome then .blinkRefused else .blinkWarn := by
    rw [hseat]
    unfold SeatRec.lamp
    dsimp only
    rw [hst]
    simp [hw]
  unfold State.lamp
  rw [hpwr, hlamp]
  cases s.pwr.state <;> simp

section
variable {n : Nat} {s : State}

theorem execTurnWarning_spec {r : Turn} (h : s.runningTurn n = some r)
    (hw : r.mayWarn (s.floor (s.seatFloor n)).settings.warnLead = true) :
    ∃ t, exec (.turnWarning n) s = .next t ∧
      t.core = (s.modSeat n (fun x => { x with turn := some (r.warnAt (s.floor (s.seatFloor n)).settings.warnLead) })).core ∧
      t.lamp n = if s.pwr.state = .dim ∨ s.pwr.state = .sleep then .off
        else if (s.seat n).refusal.isSome then .blinkRefused else .blinkWarn := by
  have hcore := warnTurn_core h hw
  obtain ⟨t, ht, hc, -⟩ := finish_refresh hcore (State.modSeat_pending n _ s)
  exact ⟨t, ht, hc, lamp_of_warned (runningTurn_some h).1 rfl hc⟩

theorem execTurnExpiry_spec {r : Turn} (h : s.runningTurn n = some r) (hr : r.remaining.isSome) (he : r.expired = false) :
    ∃ t, exec (.turnExpiry n) s = .next t ∧ match (s.floor (s.seatFloor n)).settings.expiryAction with
      | .notify => t.core = (s.modSeat n (fun x =>
          { x with turn := some { r with remaining := some 0, expired := true, overtime := 0, overtimeRem := 0 } })).core
      | .close => t.still = s.still ∧ (t.seat n).accTurns = min 255 ((s.seat n).accTurns + 1) := by
  cases ha : (s.floor (s.seatFloor n)).settings.expiryAction with
  | notify =>
    obtain ⟨t, ht, hc, -⟩ := finish_refresh (expireTurn_core_of_notify h hr he ha) (State.modSeat_pending n _ s)
    exact ⟨t, ht, hc⟩
  | close =>
    obtain ⟨hstill, hacc⟩ := expireTurn_of_close h hr ha
    obtain ⟨t, ht, hc, -⟩ := finish_refresh (u := expireTurn n s) rfl (pending_of_still hstill)
    exact ⟨t, ht, (still_of_core hc).trans hstill, by rw [seat_of_core hc, hacc]⟩

theorem execOvertimeSecond_spec {r : Turn} (h : s.runningTurn n = some r) (he : r.expired = true) :
    exec (.overtimeSecond n) s = .next (s.modSeat n (fun x =>
      { x with turn := some { r with overtime := min (r.overtime + 1) 65535, overtimeRem := 0 } })) := by
  show execOvertimeSecond n s = _
  unfold execOvertimeSecond
  rw [h]
  dsimp only
  rw [Turn.addOvertime, if_pos he]
  exact finish_of_pending s _ (State.modSeat_pending n _ s)

theorem execAccountSecond_spec (h : (s.seat n).floorState = .speaking ∨ (s.seat n).floorState = .priority) :
    ∃ t, exec (.accountSecond n) s = .next t ∧
      let u := s.modSeat n SeatRec.addSecond
      if (s.seat n).floorState = .speaking ∧ (s.seat n).exhausted = false ∧ (u.seat n).exhausted = true then
        t.still = u.still ∧ (t.seat n).accTurns = min 255 ((s.seat n).accTurns + 1)
      else t.core = u.core := by
  have hspec := accountSecond_spec h
  have hpending : (accountSecond n s).pending = s.pending := by
    dsimp only at hspec
    split at hspec
    · exact (pending_of_still hspec.1).trans (State.modSeat_pending n _ s)
    · rw [hspec, State.modSeat_pending]
  obtain ⟨t, ht, hc, -⟩ := finish_refresh (u := accountSecond n s) rfl hpending
  refine ⟨t, ht, ?_⟩
  dsimp only at hspec ⊢
  split
  · next hx =>
    rw [if_pos hx] at hspec
    exact ⟨(still_of_core hc).trans hspec.1, by rw [seat_of_core hc, hspec.2]⟩
  · next hx =>
    rw [if_neg hx] at hspec
    rw [hc, hspec]

theorem execSeeSeatDisplayEnd_spec (h : (s.plate n).see.isSome) :
    ∃ t, exec (.seeSeatDisplayEnd n) s = .next t ∧ (t.plate n).see = none ∧ t.core = s.core := by
  have hcore : (owePlate n (s.modPlate n (fun p => { p with see := none, count := 0 }))).core = s.core := by
    rw [owePlate_core]
    cases n <;> rfl
  have hsee : ((owePlate n (s.modPlate n (fun p => { p with see := none, count := 0 }))).plate n).see = none := by
    have held : 1 ≤ n ∧ n ≤ s.sd.plates.length := by
      cases n with
      | zero => cases h
      | succ k =>
        refine ⟨by omega, ?_⟩
        by_contra hlt
        rw [State.plate, List.getD_eq_getElem?_getD, List.getElem?_eq_none (by omega)] at h
        cases h
    have hplate := plate_modPlate_same held.1 held.2 (fun p => { p with see := none, count := 0 })
    exact (congrArg Plate.see hplate :)
  refine ⟨refresh _, ?_, refresh_see hsee, (refresh_core _).trans hcore⟩
  show finish s (if (s.plate n).see.isSome then _ else s) = _
  rw [if_pos h]
  exact finish_of_pending s _ (by rw [refresh_pending, pending_of_core hcore])

end

/-- Settles O36, from the specification of each step and of what is due. -/
theorem seatTimersKeepTime : Obligations.SeatTimersKeepTime := by
  refine ⟨⟨fun n s r h hw => execTurnWarning_spec h hw, fun n s r h hr he => execTurnExpiry_spec h hr he,
    fun n s r h he => execOvertimeSecond_spec h he, fun n s h => execAccountSecond_spec h⟩,
    ⟨fun n s => finish_of_pending s _ (State.modSeat_pending n _ s), fun n s _ h => execSeeSeatDisplayEnd_spec h⟩,
    fun s => ⟨?_, rfl⟩, fun n s => ⟨warnDue_iff n s, expiryDue_iff n s, ?_, ?_, rfl⟩, fun n s hn ht _ hp hst he => ?_⟩
  · split
    · next h =>
      obtain ⟨hspent, hturns⟩ := h
      show forAll _ judgeTurn (forAll (allSeats.filter (allowanceReached s (moveOn s))) _ (moveOn s)) = moveOn s
      rw [hturns, show allSeats.filter (allowanceReached s (moveOn s)) = [] from hspent]
      rfl
    · rfl
  · exact finish_of_pending s _ (by rw [refresh_pending, warnTurn_pending])
  · exact finish_of_pending s _ (by rw [refresh_pending, expireTurn_pending])
  · exact ⟨closeTurn_still _ _ _ s, closeTurn_allowance_releases hn ht.1 hp hst he⟩

end Sys2Proof.Machine

namespace Sys2Proof.Machine

/-! ## The evaluation of a channel (04 R69 to R73) -/

/-- The table of 04 R73. -/
theorem evaluate_spec (g : GateSettings) (now : Nat) (c : Chan) (hg : g.inRange) :
    let band := bandOf c.msPeak
    let d := c.evaluate g now
    d.band = band ∧ d.peak = min c.peak band ∧ d.msPeak = 0 ∧
    match c.gate with
    | .closed => if band ≤ g.openBand then d.gate = .opened ∧ d.opening = some now
        else d.gate = .closed ∧ d.opening = c.opening
    | .opened => d.opening = c.opening ∧
        if g.closeBand ≤ band then d.gate = .hang ∧ d.hang = some 0 else d.gate = .opened
    | .hang => d.opening = c.opening ∧
        if band ≤ g.openBand then d.gate = .opened ∧ d.hang = none
        else if g.hangTime ≤ c.hang.getD 0 + 1 then d.gate = .closed ∧ d.hang = none
        else d.gate = .hang ∧ d.hang = some (c.hang.getD 0 + 1) := by
  obtain ⟨-, -, -, hhang, -⟩ := hg
  have hzero : ¬ g.hangTime ≤ 0 := by omega
  unfold Chan.evaluate Chan.regions Chan.hangStep
  dsimp only
  cases hc : c.gate with
  | closed =>
    by_cases hb : bandOf c.msPeak ≤ g.openBand
    · simp [hb]
    · simp [hb]
  | opened =>
    by_cases hb : g.closeBand ≤ bandOf c.msPeak
    · simp [hb, hzero]
    · simp [hb]
  | hang =>
    by_cases hb : bandOf c.msPeak ≤ g.openBand
    · simp [hb]
    · by_cases hh : g.hangTime ≤ c.hang.getD 0 + 1
      · simp [hb, hh]
      · simp [hb, hh]

/-! ## VOICE_EVALUATION (04 R68, R73) -/

theorem chan_modChan_ne {a c : Nat} (h : a ≠ c) (k : Chan → Chan) (s : State) : (s.modChan c k).chan a = s.chan a := by
  cases c with
  | zero => rfl
  | succ j => cases a with
    | zero => rfl
    | succ i =>
      have hij : j ≠ i := fun e => h (by rw [e])
      simp only [State.chan, State.modChan, List.getD_eq_getElem?_getD, List.getElem?_modify_ne _ _ hij]

theorem chan_modChan_same {c : Nat} {s : State} (h1 : 1 ≤ c) (hc : c ≤ s.chans.length) (k : Chan → Chan) :
    (s.modChan c k).chan c = k (s.chan c) := by
  cases c with
  | zero => exact absurd h1 (by decide)
  | succ j =>
    have hj : j < s.chans.length := hc
    simp only [State.chan, State.modChan, List.getD_eq_getElem?_getD, List.getElem?_modify_eq,
      List.getElem?_eq_getElem hj, Option.map_eq_map, Option.map_some, Option.getD_some]

theorem chans_of_core {s t : State} (h : t.core = s.core) : t.chans = s.chans := (congrArg State.chans h :)

theorem chan_of_core {s t : State} (h : t.core = s.core) (c : Nat) : t.chan c = s.chan c :=
  chan_of_still (still_of_core h) c

/-- The hub but for its channels. -/
def State.besideChans (s : State) : State := { s.core with chans := [] }

theorem besideChans_modChan (c : Nat) (k : Chan → Chan) (s : State) :
    (s.modChan c k).besideChans = s.besideChans := by
  cases c <;> rfl

theorem besideChans_of_core {s t : State} (h : t.core = s.core) : t.besideChans = s.besideChans :=
  congrArg (fun u : State => { u with chans := [] }) h

theorem core_of_besideChans {s t : State} (h : t.besideChans = s.besideChans) :
    t.core = ({ s with chans := t.chans } : State).core :=
  congrArg (fun u : State => { u with chans := t.chans }) h

theorem evaluateChan_core (c : Nat) (s : State) : (evaluateChan c s).core = (if s.chanRunning c then
    s.modChan c (Chan.evaluate (s.floor (s.chanFloor c)).gate s.now) else s).core := by
  unfold evaluateChan
  dsimp only
  split
  · split
    · exact reportIf_core _ _ _ _
    · exact reportIf_core _ _ _ _
    · exact reportIf_core _ _ _ _
    · rfl
  · rfl

theorem evaluateChan_besideChans (c : Nat) (s : State) : (evaluateChan c s).besideChans = s.besideChans := by
  refine (besideChans_of_core (evaluateChan_core c s)).trans ?_
  split
  · exact besideChans_modChan _ _ _
  · rfl

/-- What the evaluation of a channel reads stands beside the channels. -/
theorem chanRunning_of_besideChans {s t : State} (h : t.besideChans = s.besideChans) (c : Nat) :
    t.chanRunning c = s.chanRunning c ∧ (t.floor (t.chanFloor c)).gate = (s.floor (s.chanFloor c)).gate ∧ t.now = s.now := by
  have hcore := core_of_besideChans h
  have hseat (n : Nat) : t.seat n = s.seat n := seat_of_core (s := { s with chans := t.chans }) hcore n
  have hline1 : t.line1 = s.line1 := (congrArg State.line1 hcore :)
  have hline2 : t.line2 = s.line2 := (congrArg State.line2 hcore :)
  have hpart : t.part = s.part := (congrArg State.part hcore :)
  have hpwr : t.pwr = s.pwr := (congrArg State.pwr hcore :)
  have hfloor (f : Floor) : t.floor f = s.floor f := floor_of_core (s := { s with chans := t.chans }) hcore f
  have hline (l : Nat) : t.line l = s.line l := by
    unfold State.line
    rw [hline1, hline2]
  refine ⟨?_, ?_, (congrArg State.now hcore :)⟩
  · unfold State.chanRunning State.chanBound
    rw [hseat, hline, hpwr]
  · unfold State.chanFloor State.seatFloor State.lineFloor
    rw [hseat, hline, hpart, hfloor]

/-- The evaluation of channels, each once. -/
theorem evaluateChans_spec {l : List Nat} (hnd : l.Nodup) (hl : ∀ c ∈ l, c ∈ allChans) {s : State}
    (hs : s.chans.length = 50) :
    (forAll l evaluateChan s).besideChans = s.besideChans ∧ ∀ c, (forAll l evaluateChan s).chan c =
      if c ∈ l ∧ s.chanRunning c = true then (s.chan c).evaluate (s.floor (s.chanFloor c)).gate s.now else s.chan c := by
  induction l generalizing s with
  | nil => exact ⟨rfl, fun c => by simp [forAll]⟩
  | cons a l ih =>
    obtain ⟨ha, hnd⟩ := List.nodup_cons.mp hnd
    have hbeside := evaluateChan_besideChans a s
    have hlen : (evaluateChan a s).chans.length = 50 := by
      rw [chans_of_core (evaluateChan_core a s), ← hs]
      split
      · cases a with
        | zero => rfl
        | succ j => exact List.length_modify _ _ _
      · rfl
    obtain ⟨hall, hchans⟩ := ih hnd (fun c hc => hl c (List.mem_cons_of_mem a hc)) hlen
    refine ⟨hall.trans hbeside, fun c => (hchans c).trans ?_⟩
    obtain ⟨hrun, hgate, hnow⟩ := chanRunning_of_besideChans hbeside c
    rw [hrun, hgate, hnow, chan_of_core (evaluateChan_core a s)]
    by_cases hca : c = a
    · subst hca
      obtain ⟨h1, h2⟩ := List.mem_range'_1.mp (hl c List.mem_cons_self)
      by_cases hr : s.chanRunning c = true
      · rw [if_neg (fun h => ha h.1), if_pos hr, if_pos ⟨List.mem_cons_self, hr⟩,
          chan_modChan_same h1 (by omega)]
      · rw [if_neg (fun h => hr h.2), if_neg hr, if_neg (fun h => hr h.2)]
    · have hkept : (if s.chanRunning a = true then
          s.modChan a (Chan.evaluate (s.floor (s.chanFloor a)).gate s.now) else s).chan c = s.chan c := by
        split
        · exact chan_modChan_ne hca _ _
        · rfl
      rw [hkept]
      simp only [List.mem_cons, hca, false_or]

theorem gateUpdate_still (f : Floor) (s : State) : (gateUpdate f s).still = s.still := by
  unfold gateUpdate
  split
  · dsimp only
    rw [grantPass_still, releaseVoices, closes_still]
    exact forAll_still (fun n t => modSeat_still n _ (by intros; rfl) t) _ s
  · rfl

theorem judgeCamera_core (k : Nat) (s : State) : (judgeCamera k s).core = s.core := by
  unfold judgeCamera
  dsimp only
  split
  · split <;> exact modCamera_core k _ (by intros; rfl) s
  · rfl

theorem moveShot_core (k : Nat) (s : State) : (moveShot k s).core = s.core := by
  have taken (x : Option Nat) : (takeShot k x s).core = s.core :=
    (aim_core _ _ _).trans (modCamera_core k _ (by intros; rfl) s)
  unfold moveShot
  split
  · exact taken _
  · split
    · exact taken _
    · split
      · exact taken _
      · rfl

/-- Beside the channels, the evaluation changes what the floor controllers own. -/
theorem evaluateVoices_still (s : State) : (evaluateVoices s).still = (forAll allChans evaluateChan s).still := by
  unfold evaluateVoices
  dsimp only
  rw [still_of_core (reports_core _ (fun k t => (moveShot_core k _).trans (judgeCamera_core k t)) _), gateUpdate_still, gateUpdate_still]

/-- VOICE_EVALUATION (04 R68, R73). -/
theorem execVoiceEvaluation_spec {s : State} (h : TablesWhole s) : ∃ t, exec .voiceEvaluation s = .next t ∧
    (∀ c ∈ allChans, t.chan c =
      if s.chanRunning c then (s.chan c).evaluate (s.floor (s.chanFloor c)).gate s.now else s.chan c) ∧
    t.still = ({ s with chans := t.chans } : State).still := by
  obtain ⟨hbeside, hchans⟩ :=
    evaluateChans_spec (l := allChans) List.nodup_range' (fun _ hc => hc) (s := s) h.2.1
  have hcore := core_of_besideChans hbeside
  obtain ⟨u, hu⟩ : ∃ u, u = forAll allChans evaluateChan s := ⟨_, rfl⟩
  rw [← hu] at hchans hcore
  have hstill : (evaluateVoices s).still = ({ s with chans := u.chans } : State).still :=
    (evaluateVoices_still s).trans (by rw [← hu]; exact still_of_core hcore)
  have hpending : (evaluateVoices s).pending = s.pending :=
    pending_of_still (s := { s with chans := u.chans }) hstill
  obtain ⟨t, ht, hc, -⟩ := finish_refresh (s := s) (u := evaluateVoices s) rfl hpending
  have htstill := (still_of_core hc).trans hstill
  have htchans : t.chans = u.chans := (congrArg State.chans htstill :)
  refine ⟨t, ht, fun c hcm => ?_, by rw [htstill, htchans]⟩
  have hsame : t.chan c = u.chan c := by
    unfold State.chan
    rw [htchans]
  rw [hsame, hchans c]
  simp only [hcm, true_and]

theorem execHangExpiry_spec {s : State} {c : Nat} (hr : s.chanRunning c = true) (hg : (s.chan c).gate = .hang) :
    ∃ t, exec (.hangExpiry c) s = .next t ∧
      t.core = (s.modChan c (fun r => { r with gate := .closed, hang := none })).core := by
  have hcore : (deliver (gateReport c .hangExpiry (s.modChan c (fun r => { r with gate := .closed, hang := none })))).core =
      (s.modChan c (fun r => { r with gate := .closed, hang := none })).core :=
    (deliver_core _).trans (reportIf_core _ _ _ _)
  refine ⟨_, ?_, hcore⟩
  show finish s (if s.chanRunning c && (s.chan c).gate == .hang then _ else s) = _
  rw [if_pos (by rw [hr, hg]; rfl)]
  exact finish_of_pending s _ ((pending_of_core hcore).trans (State.modChan_pending c _ s))

/-- A voice grant pass passes by a seat whose gate is not OPEN. -/
theorem grantVoices_spares_gate {n : Nat} {f : Floor} (k : Nat) {s : State} (h : (s.chan n).gate ≠ .opened) :
    (grantVoices f k s).seat n = s.seat n ∧
      ∀ g, n ∈ ((grantVoices f k s).floor g).grantOrder → n ∈ (s.floor g).grantOrder := by
  induction k generalizing s with
  | zero => exact ⟨rfl, fun _ => id⟩
  | succ k ih =>
    unfold grantVoices
    split
    · split
      · next m hm =>
        have hne : n ≠ m := by
          rintro rfl
          exact h (mem_candidates.mp (firstCandidate_some hm).1).2.2.1
        obtain ⟨hseat, horder⟩ := ih (s := grant m .voice s) (by rwa [chan_of_still (grant_still m .voice s)])
        refine ⟨hseat.trans (grant_seat_ne hne .voice s), fun g hg => ?_⟩
        have hg := horder g hg
        rw [grant_floor] at hg
        split at hg
        · exact (List.mem_append.mp hg).resolve_right (by simpa using hne)
        · exact hg
      · exact ⟨rfl, fun _ => id⟩
    · exact ⟨rfl, fun _ => id⟩

/-- VOICE_RELEASE of a speaker whose gate is not OPEN (02 R35). -/
theorem execVoiceRelease_spec {s : State} {n : Nat} (hst : (s.seat n).floorState = .speaking)
    (hr : (s.seat n).release.isSome) (hm : (s.floor (s.seatFloor n)).settings.mode = .voice)
    (hg : (s.chan n).gate ≠ .opened) : ∃ t, exec (.voiceRelease n) s = .next t ∧ t.still = s.still ∧
      (t.seat n).floorState = .idle ∧ (t.seat n).accTurns = min 255 ((s.seat n).accTurns + 1) ∧
      n ∉ (t.floor (s.seatFloor n)).grantOrder := by
  obtain ⟨hstill, hacc, -⟩ := closed_passed .voiceRelease none hst
  have hclose := close_still n .voiceRelease none s
  have hfloor := close_floor (n := n) (s := s) rfl .voiceRelease none
  have hspared : ((grantPass (s.seatFloor n) (close n .voiceRelease none s)).seat n) =
        (close n .voiceRelease none s).seat n ∧
      ∀ g, n ∈ ((grantPass (s.seatFloor n) (close n .voiceRelease none s)).floor g).grantOrder →
        n ∈ ((close n .voiceRelease none s).floor g).grantOrder := by
    unfold grantPass
    rw [settings_of_still hclose, hm]
    dsimp only
    split
    · exact grantVoices_spares_gate 8 (by rwa [chan_of_still hclose])
    · exact ⟨rfl, fun _ => id⟩
  obtain ⟨t, ht, hc, -⟩ := finish_refresh (s := s)
    (u := grantPass (s.seatFloor n) (close n .voiceRelease none s)) rfl (pending_of_still hstill)
  refine ⟨t, ?_, (still_of_core hc).trans hstill, ?_, by rw [seat_of_core hc, hacc], fun hmem => ?_⟩
  · show finish s (if (s.seat n).floorState == .speaking && (s.seat n).release.isSome then _ else s) = _
    rw [if_pos (by rw [hst, hr]; rfl)]
    exact ht
  · rw [seat_of_core hc, hspared.1]
    exact idle_of_left (by rw [hst]; decide) (by intros; rfl) (close_core n .voiceRelease none s)
  · rw [floor_of_core hc] at hmem
    have := hspared.2 _ hmem
    rw [hfloor] at this
    simp at this

end Sys2Proof.Machine

namespace Sys2Proof.Machine

/-! ## Seats that leave their lists, several at once (02 R35, R41, R42) -/

/-- Operations on the seats of a list, each once, make of each seat what its own operation makes of it. -/
theorem forAll_seat_of_mem {op : Nat → State → State} {k : SeatRec → SeatRec}
    (hop : ∀ n t, (t.seat n).floorState ≠ .idle → (op n t).seat n = k (t.seat n))
    (hne : ∀ m n t, n ≠ m → (op m t).seat n = t.seat n) {l : List Nat} (hnd : l.Nodup) {n : Nat} (hn : n ∈ l) {s : State}
    (h : (s.seat n).floorState ≠ .idle) : (forAll l op s).seat n = k (s.seat n) := by
  induction l generalizing s with
  | nil => cases hn
  | cons m l ih =>
    obtain ⟨hm, hnd⟩ := List.nodup_cons.mp hnd
    rcases List.mem_cons.mp hn with rfl | hn
    · exact (forAll_seat_of_not_mem hne hm _).trans (hop n s h)
    · have hnm := hne m n s (ne_of_mem_of_not_mem hn hm)
      exact (ih hnd hn (by rwa [hnm])).trans (by rw [hnm])

/-- A seat that stops speaking, or gives up its suspended turn. -/
def SeatRec.turnDone (r : SeatRec) : SeatRec := (r.toState .idle).accountTurn

theorem close_seat {n : Nat} {s : State} (h : (s.seat n).floorState ≠ .idle) (c : KeyCause) (sub : Option SubCause) :
    (close n c sub s).seat n = (s.seat n).turnDone := by
  rw [seat_of_core (close_core n c sub s), seat_modSeat_of_busy (by rwa [State.seat_modFloor]), State.seat_modFloor]
  rfl

theorem endSuspended_seat {n : Nat} {s : State} (h : (s.seat n).floorState ≠ .idle) (c : KeyCause) (sub : Option SubCause) :
    (endSuspended n c sub s).seat n = (s.seat n).turnDone := by
  rw [seat_of_core (endSuspended_core n c sub s), seat_modSeat_of_busy (by rwa [State.seat_modFloor]), State.seat_modFloor]
  rfl

theorem dequeue_seat {n : Nat} {s : State} (h : (s.seat n).floorState ≠ .idle) (c : KeyCause) (sub : Option SubCause) :
    (dequeue n c sub s).seat n = (s.seat n).toState .idle := by
  rw [seat_of_core (dequeue_core n c sub s), seat_modSeat_of_busy (by rwa [State.seat_modFloor]), State.seat_modFloor]

/-- Seats of `f` have been closed; each was in its floor's grant order. -/
structure Closed (f : Floor) (l : List Nat) (s t : State) : Prop where
  floor : t.floor f = { s.floor f with grantOrder := (s.floor f).grantOrder.filter (· ∉ l) }
  floors : ∀ e, e ≠ f → t.floor e = s.floor e
  seat : ∀ n ∈ l, t.seat n = (s.seat n).turnDone
  other : ∀ n, n ∉ l → t.seat n = s.seat n
  still : t.still = s.still

theorem closes_floor_ne {f e : Floor} (hef : e ≠ f) (c : KeyCause) {l : List Nat} {s : State}
    (hl : ∀ n ∈ l, s.seatFloor n = f) : (forAll l (fun n => close n c none) s).floor e = s.floor e := by
  induction l generalizing s with
  | nil => rfl
  | cons m l ih =>
    have hstill := close_still m c none s
    refine (ih (fun n hn => (seatFloor_of_still hstill n).trans (hl n (List.mem_cons_of_mem m hn)))).trans ?_
    rw [floor_of_core (close_core m c none s), State.floor_modSeat, State.floor_modFloor_ne]
    rwa [hl m List.mem_cons_self]

theorem closes_closed {f : Floor} (c : KeyCause) {l : List Nat} (hnd : l.Nodup) {s : State}
    (hl : ∀ n ∈ l, s.seatFloor n = f ∧ (s.seat n).floorState ≠ .idle) :
    Closed f l s (forAll l (fun n => close n c none) s) where
  floor := closes_floor c (fun n hn => (hl n hn).1)
  floors _ he := closes_floor_ne he c (fun n hn => (hl n hn).1)
  seat n hn := forAll_seat_of_mem (fun _ _ h => close_seat h c none) (fun _ _ t h => close_seat_ne h c none t) hnd hn (hl n hn).2
  other _ hn := forAll_seat_of_not_mem (fun _ _ t h => close_seat_ne h c none t) hn s
  still := closes_still c l s

/-- The speakers of a floor that a rule closes. -/
theorem Seated.closes_closed {lifted owing : Option Floor} {s : State} (hs : Seated true lifted owing s) {f : Floor}
    (c : KeyCause) {l : List Nat} (hnd : l.Nodup) (hl : ∀ n ∈ l, n ∈ (s.floor f).grantOrder) :
    Closed f l s (forAll l (fun n => Machine.close n c none) s) ∧
      Seated true lifted owing (forAll l (fun n => Machine.close n c none) s) := by
  have hfits := hs.fits f
  have speaks (n : Nat) (hn : n ∈ l) : s.standing n = .speaking := hfits.speaking_of_mem rfl (hl n hn)
  refine ⟨Machine.closes_closed c hnd (fun n hn => ⟨(hfits.owned n (mem_named_of_grantOrder (hl n hn))).2, ?_⟩),
    hs.closes c (fun _ => hnd) (fun _ => speaks)⟩
  have hst : (s.seat n).floorState = .speaking := speaks n hn
  rw [hst]
  decide

/-! ## What a voice pass reads (02 R34) -/

/-- States that read alike to a voice pass have the same candidates, so the pass of the one is the pass of the other. -/
theorem grantsVoices_of {f : Floor} {kept : List Nat} {r s t : State} (hstill : s.still = r.still)
    (hstack : (s.floor f).stack = (r.floor f).stack)
    (hread : ∀ n, (s.chan n).gate = .opened → s.admission n = none →
      ((s.seat n).floorState = .idle ↔ (r.seat n).floorState = .idle) ∧ (s.seat n).accTurns = (r.seat n).accTurns)
    (h : grantsVoices f kept s t) : grantsVoices f kept r t := by
  have hseats : s.floorSeats f = r.floorSeats f := by
    unfold State.floorSeats
    exact List.filter_congr (fun n _ => by rw [seatFloor_of_still hstill])
  have candidate (n : Nat) : (n ∈ s.floorSeats f ∧ (s.seat n).floorState = .idle ∧ (s.chan n).gate = .opened ∧
      s.admission n = none) ↔ (n ∈ r.floorSeats f ∧ (r.seat n).floorState = .idle ∧ (r.chan n).gate = .opened ∧
      r.admission n = none) := by
    rw [hseats, ← chan_of_still hstill, ← admission_of_still hstill]
    refine and_congr_right fun _ => ⟨fun ⟨hi, hg, ha⟩ => ⟨(hread n hg ha).1.mp hi, hg, ha⟩,
      fun ⟨hi, hg, ha⟩ => ⟨(hread n hg ha).1.mpr hi, hg, ha⟩⟩
  obtain ⟨g, horder, hpair, hall, hroom, hrest⟩ := h
  simp only [chan_of_still hstill, live_of_still hstill, hstack, settings_of_still hstill] at hpair hroom hrest
  refine ⟨g, horder, hpair, fun n hn => ?_, hroom, fun n hn hng => hrest n ?_ hng⟩
  · obtain ⟨hc, ⟨hst, hturn, hacc⟩, hrel⟩ := hall n hn
    refine ⟨(candidate n).mp hc, ⟨hst, ?_, ?_⟩, hrel⟩
    · rw [hturn, settings_of_still hstill]
    · exact hacc.trans (hread n hc.2.2.1 hc.2.2.2).2
  · have := (candidate n).mpr hn
    rwa [chan_of_still hstill] at this

end Sys2Proof.Machine

namespace Sys2Proof.Machine

/-! ## The gate update (02 R34, R35) -/

/-- The speakers of the floor whose voice release time has run out (02 R35). -/
def State.overdue (s : State) (f : Floor) : List Nat :=
  (s.floorSeats f).filter (fun n => (s.seat n).floorState == .speaking && s.releaseOver f n)

theorem mem_overdue {lifted owing : Option Floor} {s : State} (hs : Seated true lifted owing s) {f : Floor} {n : Nat} :
    n ∈ s.overdue f ↔ n ∈ (s.floor f).grantOrder ∧ s.releaseOver f n = true := by
  have hfits := hs.fits f
  rw [State.overdue, List.mem_filter, mem_floorSeats, Bool.and_eq_true, beq_iff_eq]
  refine ⟨fun ⟨hown, hst, ho⟩ => ⟨(hfits.lists rfl hown).2.1.mpr hst, ho⟩, fun ⟨hn, ho⟩ => ?_⟩
  have hown := hfits.owned n (mem_named_of_grantOrder hn)
  exact ⟨hown, (hfits.lists rfl hown).2.1.mp hn, ho⟩

theorem releaseVoices_closed {lifted owing : Option Floor} {s : State} (hs : Seated true lifted owing s) (f : Floor) :
    Closed f (s.overdue f) s (releaseVoices f s) ∧ Seated true lifted owing (releaseVoices f s) :=
  hs.closes_closed .voiceRelease ((allSeats_nodup.filter _).filter _) (fun _ hn => ((mem_overdue hs).mp hn).1)

theorem freeSlots_le {s : State} (h : SettingsInRange s) (f : Floor) : s.freeSlots f ≤ 8 := by
  obtain ⟨⟨⟨-, hlimit⟩, -⟩, -⟩ := ((settingsInRange_iff s).mp h).1 f
  exact (Nat.sub_le _ _).trans hlimit

/-- The seats that a voice grant pass cannot take. -/
theorem not_mem_of_candidates {f : Floor} {g : List Nat} {s : State} (hcand : ∀ n ∈ g, n ∈ s.candidates f) {n : Nat}
    (h : (s.seat n).floorState ≠ .idle ∨ (s.chan n).gate ≠ .opened) : n ∉ g := by
  intro hn
  obtain ⟨-, hidle, hgate, -⟩ := mem_candidates.mp (hcand n hn)
  exact h.elim (fun h => h hidle) (fun h => h hgate)

theorem Granted.queue_of_candidates {f : Floor} {g : List Nat} {lifted owing : Option Floor} {s t : State}
    (h : Granted f g s t) (hs : Seated true lifted owing s) (hcand : ∀ n ∈ g, n ∈ s.candidates f) :
    (t.floor f).queue = (s.floor f).queue := by
  rw [h.queue]
  refine List.filter_eq_self.mpr (fun n hn => decide_eq_true (not_mem_of_candidates hcand (Or.inl ?_)))
  have hst : (s.seat n).floorState = .queued := (hs.fits f).queued_of_mem rfl hn
  rw [hst]
  decide

/-- The release counts of a gate update. -/
def releaseCounts (l : List Nat) (s : State) : State :=
  forAll l (fun n => State.modSeat n (SeatRec.releaseStep (s.chan n).gate)) s

theorem releaseCounts_eq {l : List Nat} {s r : State} (h : s.still = r.still) :
    forAll l (fun n t => t.modSeat n (SeatRec.releaseStep (t.chan n).gate)) s =
      forAll l (fun n => State.modSeat n (SeatRec.releaseStep (r.chan n).gate)) s := by
  induction l generalizing s with
  | nil => rfl
  | cons m l ih =>
    refine (ih (s := s.modSeat m (SeatRec.releaseStep (s.chan m).gate)) ((modSeat_still m _ (by intros; rfl) s).trans h)).trans ?_
    rw [chan_of_still h]
    rfl

theorem gateUpdate_voice {f : Floor} {s : State} (hm : (s.floor f).settings.mode = .voice) :
    gateUpdate f s = grantPass f (releaseVoices f (releaseCounts (s.floor f).grantOrder s)) := by
  unfold gateUpdate
  rw [if_pos (by rw [hm]; rfl)]
  dsimp only
  rw [releaseCounts_eq rfl]
  rfl

theorem gateUpdate_of_ne {f : Floor} {s : State} (hm : (s.floor f).settings.mode ≠ .voice) : gateUpdate f s = s :=
  if_neg (by simpa using hm)

theorem releaseCounts_ledger (l : List Nat) (s : State) : (releaseCounts l s).ledger = s.ledger :=
  forAll_ledger (fun n t => modSeat_ledger n (by intros; rfl) t) l s

theorem releaseCounts_still (l : List Nat) (s : State) : (releaseCounts l s).still = s.still :=
  forAll_still (fun n t => modSeat_still n _ (by intros; rfl) t) l s

theorem releaseCounts_floor (l : List Nat) (f : Floor) (s : State) : (releaseCounts l s).floor f = s.floor f :=
  floor_forAll_modSeat l _ f s

theorem releaseCounts_seat {l : List Nat} (hnd : l.Nodup) {s : State} (hl : s.seats.length = 48) {n : Nat} (hn : n ∈ l)
    (hm : n ∈ allSeats) : (releaseCounts l s).seat n = (s.seat n).releaseStep (s.chan n).gate := by
  obtain ⟨h1, h2⟩ := List.mem_range'_1.mp hm
  exact seat_forAll_modSeat_of_named id (fun n => SeatRec.releaseStep (s.chan n).gate) (by rwa [List.map_id]) hn s h1
    (by rw [hl]; exact Nat.le_of_lt_succ h2)

theorem releaseStep_release (g : GateState) (r : SeatRec) : (r.releaseStep g).release =
    r.release.map (fun x => if g = .closed then x + 1 else 0) := by
  unfold SeatRec.releaseStep
  simp only [beq_iff_eq]

/-- A count that has reached the release time has risen, so its gate is CLOSED. -/
theorem closed_of_count {g : GateState} {x : Option Nat} {k : Nat} (hk : 1 ≤ k)
    (h : k * 1000 ≤ (x.map (fun x => if g = .closed then x + 1 else 0)).getD 0) : g = .closed := by
  by_contra hne
  cases x with
  | none => simp at h; omega
  | some x => simp [hne] at h; omega

/-- The gate update of a VOICE floor (02 R34, R35). -/
theorem gateUpdate_spec {f : Floor} {s : State} (hm : (s.floor f).settings.mode = .voice) (hs : Seated true none none s)
    (hr : SettingsInRange s) :
    let t := gateUpdate f s
    let r := s.floor f
    let count (n : Nat) : Option Nat :=
      (s.seat n).release.map (fun x => if (s.chan n).gate = .closed then x + 1 else 0)
    let runOut (n : Nat) : Bool := r.settings.voiceRelease * 1000 ≤ (count n).getD 0
    let kept := r.grantOrder.filter (fun n => !runOut n)
    t.still = s.still ∧ (t.floor f).queue = r.queue ∧ (t.floor f).stack = r.stack ∧ (t.floor f).susp = r.susp ∧
      (∀ n ∈ kept, (t.seat n).floorState = .speaking ∧ (t.seat n).release = count n ∧
        (t.seat n).turn = (s.seat n).turn ∧ turnsOf n false s t) ∧
      (∀ n ∈ r.grantOrder, runOut n = true → (t.seat n).floorState = .idle ∧ turnsOf n true s t) ∧
      grantsVoices f kept s t := by
  intro t r count runOut kept
  have hfits := hs.fits f
  have hcounted := hs.of_ledger (releaseCounts_ledger r.grantOrder s)
  obtain ⟨hclosed, hseated⟩ := releaseVoices_closed hcounted f
  have hstill : (releaseVoices f (releaseCounts r.grantOrder s)).still = s.still :=
    hclosed.still.trans (releaseCounts_still _ s)
  have hoverdue (n : Nat) : n ∈ (releaseCounts r.grantOrder s).overdue f ↔ n ∈ r.grantOrder ∧ runOut n = true := by
    rw [mem_overdue hcounted, releaseCounts_floor]
    refine and_congr_right fun hn => ?_
    unfold State.releaseOver
    rw [releaseCounts_floor, releaseCounts_seat (hfits.nodup_grantOrder rfl) hs.table hn
      (hfits.owned n (mem_named_of_grantOrder hn)).1, releaseStep_release]
  obtain ⟨g, hg, hcand, hgrants⟩ := grantPass_voice (f := f) hseated
    (by rw [settings_of_still hstill]; exact hm) (freeSlots_le (settingsInRange_of_still hstill hr) f)
  have ht : t = grantPass f (releaseVoices f (releaseCounts r.grantOrder s)) := gateUpdate_voice hm
  rw [← ht] at hg hgrants
  have horder : ((releaseVoices f (releaseCounts r.grantOrder s)).floor f).grantOrder = kept := by
    rw [hclosed.floor, releaseCounts_floor]
    refine List.filter_congr (fun n hn => ?_)
    have hn : n ∈ r.grantOrder := hn
    rw [Bool.eq_iff_iff, decide_eq_true_iff, hoverdue]
    simp [hn]
  have hstands (n : Nat) (h : n ∉ r.grantOrder ∨ runOut n = false) :
      (releaseVoices f (releaseCounts r.grantOrder s)).seat n = (releaseCounts r.grantOrder s).seat n :=
    hclosed.other n (fun h' => by
      obtain ⟨hn, ho⟩ := (hoverdue n).mp h'
      exact h.elim (fun h => h hn) (fun h => by rw [h] at ho; cases ho))
  have hcounts (n : Nat) (hn : n ∈ r.grantOrder) :
      (releaseCounts r.grantOrder s).seat n = (s.seat n).releaseStep (s.chan n).gate :=
    releaseCounts_seat (hfits.nodup_grantOrder rfl) hs.table hn (hfits.owned n (mem_named_of_grantOrder hn)).1
  have hspeaks (n : Nat) (hn : n ∈ r.grantOrder) : (s.seat n).floorState = .speaking := hfits.speaking_of_mem rfl hn
  have hgate (n : Nat) (ho : runOut n = true) : (s.chan n).gate = .closed := by
    obtain ⟨-, -, -, ⟨hrel, -⟩, -⟩ := (((settingsInRange_iff s).mp hr).1 f).1
    exact closed_of_count hrel (by simpa [runOut, count] using ho)
  have hspared (n : Nat) (h : ((releaseVoices f (releaseCounts r.grantOrder s)).seat n).floorState ≠ .idle ∨
      (s.chan n).gate ≠ .opened) : t.seat n = (releaseVoices f (releaseCounts r.grantOrder s)).seat n := by
    rw [← chan_of_still hstill] at h
    exact hg.other n (not_mem_of_candidates hcand h)
  refine ⟨hg.still.trans hstill, ?_, ?_, ?_, fun n hn => ?_, fun n hn ho => ?_, ?_⟩
  · rw [hg.queue_of_candidates hseated hcand, hclosed.floor, releaseCounts_floor]
  · rw [hg.stack, hclosed.floor, releaseCounts_floor]
  · rw [hg.susp, hclosed.floor, releaseCounts_floor]
  · obtain ⟨hn, ho⟩ := List.mem_filter.mp hn
    have hseat := (hstands n (Or.inr (by simpa using ho))).trans (hcounts n hn)
    have hst : ((releaseVoices f (releaseCounts r.grantOrder s)).seat n).floorState = .speaking := by
      rw [hseat]
      exact hspeaks n hn
    have hall := (hspared n (Or.inl (by rw [hst]; decide))).trans hseat
    unfold turnsOf
    rw [hall]
    exact ⟨hspeaks n hn, releaseStep_release _ _, rfl, rfl⟩
  · have hall := (hspared n (Or.inr (by rw [hgate n ho]; decide))).trans
      ((hclosed.seat n ((hoverdue n).mpr ⟨hn, ho⟩)).trans (by rw [hcounts n hn]))
    unfold turnsOf
    rw [hall]
    exact ⟨rfl, rfl⟩
  · rw [horder] at hgrants
    refine grantsVoices_of hstill (by rw [hclosed.floor, releaseCounts_floor]) (fun n ho _ => ?_) hgrants
    rw [chan_of_still hstill] at ho
    by_cases hn : n ∈ r.grantOrder
    · have hrun : runOut n = false := by
        by_contra h
        rw [hgate n (by simpa using h)] at ho
        cases ho
      rw [hstands n (Or.inr hrun), hcounts n hn]
      exact ⟨Iff.rfl, rfl⟩
    · rw [hstands n (Or.inl hn), releaseCounts, seat_forAll_modSeat_not_mem hn]
      exact ⟨Iff.rfl, rfl⟩

/-! ## The grant pass (02 R36) -/

theorem grantPass_of_not_live {f : Floor} {s : State} (h : s.live f = false) : grantPass f s = s :=
  if_neg (by rw [h]; decide)

theorem grantPass_of_no_slot {f : Floor} {s : State} (h : s.slotFree f = false) : grantPass f s = s := by
  have voices (k : Nat) : grantVoices f k s = s := by
    cases k with
    | zero => rfl
    | succ k => exact if_neg (by rw [h]; decide)
  unfold grantPass
  rw [grantQueue_of_full .auto 8 h, voices]
  split
  · split
    · exact ite_self _
    · rfl
    · rfl
    · rfl
  · rfl

theorem grantPass_of_no_auto {f : Floor} {s : State} (hm : (s.floor f).settings.mode = .request)
    (ha : (s.floor f).settings.autoGrant = false) : grantPass f s = s := by
  unfold grantPass
  split
  · rw [hm]
    exact if_neg (by rw [ha]; decide)
  · rfl

/-- Settles O37: the table of 04 R73, the commanded steps, the gate update and the grant pass. -/
theorem voicesAreEvaluated : Obligations.VoicesAreEvaluated := by
  refine ⟨fun g now c hg => evaluate_spec g now c hg, ⟨fun s => execVoiceEvaluation_spec,
    fun c s => execHangExpiry_spec, fun n s => execVoiceRelease_spec⟩, fun f s => ⟨gateUpdate_of_ne, ?_⟩,
    fun f s => ⟨?_, ?_⟩⟩
  · intro hm ht hr hp ho
    exact gateUpdate_spec hm ((seated_iff true s).mpr ⟨ht.1, hp, fun _ => ho⟩) hr
  · rintro (h | h | h | h | ⟨hm, ha⟩)
    · exact grantPass_of_not_live h
    · exact grantPass_of_no_slot h
    · exact grantPass_of_quiet (Or.inl h)
    · exact grantPass_of_quiet (Or.inr h)
    · exact grantPass_of_no_auto hm ha
  · intro hl hstack ht hr hp ho
    have hs : Seated true none none s := (seated_iff true s).mpr ⟨ht.1, hp, fun _ => ho⟩
    refine ⟨grantPass_still f s, fun hm ha => ?_, fun hm => ?_⟩
    · obtain ⟨hg, hq⟩ := grantPass_auto hs hl hstack hm ha (freeSlots_le hr f)
      exact ⟨hg.order, hq, fun n hn => (hg.grantedTurn hn).1, hg.other⟩
    · obtain ⟨g, hg, hcand, hgrants⟩ := grantPass_voice hs hm (freeSlots_le hr f)
      refine ⟨hgrants, fun n hn => hg.other n ?_⟩
      rcases hn with hn | hn
      · rw [hg.order, List.mem_append, not_or] at hn
        exact hn.2
      · have hst : (s.seat n).floorState = .speaking := (hs.fits f).speaking_of_mem rfl hn
        exact not_mem_of_candidates hcand (Or.inl (by rw [hst]; decide))

end Sys2Proof.Machine

namespace Sys2Proof.Machine

/-! ## FLOOR_SET: the lists of the floor, whatever the seats (02 R41, R42) -/

/-- The queue and the grant order of `f` name its own seats; under `cap`, no more of them speak than the limit allows. -/
structure Listed (f : Floor) (cap : Prop) (s : State) : Prop where
  owned : ∀ n, n ∈ (s.floor f).queue ∨ n ∈ (s.floor f).grantOrder → s.seatFloor n = f
  limit : cap → (s.floor f).grantOrder.length ≤ (s.floor f).settings.openMicLimit

/-- Seats have only left the queue and the grant order of `f`. -/
structure Thinned (f : Floor) (s t : State) : Prop where
  still : t.still = s.still
  queue : (t.floor f).queue.Sublist (s.floor f).queue
  order : (t.floor f).grantOrder.Sublist (s.floor f).grantOrder

namespace Thinned

variable {f : Floor} {s t u : State}

theorem refl (f : Floor) (s : State) : Thinned f s s := ⟨rfl, .refl _, .refl _⟩

theorem trans (h : Thinned f s t) (k : Thinned f t u) : Thinned f s u :=
  ⟨k.still.trans h.still, k.queue.trans h.queue, k.order.trans h.order⟩

theorem forAll {α : Type} {op : α → State → State} (h : ∀ a s, Thinned f s (op a s)) (l : List α) (s : State) :
    Thinned f s (forAll l op s) := by
  induction l generalizing s with
  | nil => exact refl f s
  | cons a l ih => exact (h a s).trans (ih (op a s))

/-- A seat leaves a list of its floor. -/
theorem of_core {n : Nat} {e : Floor} {g : FloorRec → FloorRec} {k : SeatRec → SeatRec}
    (hs : t.still = s.still) (h : t.core = ((s.modFloor e g).modSeat n k).core)
    (hg : ∀ r, ((g r).queue.Sublist r.queue) ∧ (g r).grantOrder.Sublist r.grantOrder) : Thinned f s t := by
  have hfloor : t.floor f = if f = e then g (s.floor f) else s.floor f := by
    rw [floor_of_core h, State.floor_modSeat]
    split
    · next he => rw [he, State.floor_modFloor_same]
    · next he => rw [State.floor_modFloor_ne he]
  refine ⟨hs, ?_, ?_⟩ <;> rw [hfloor] <;> split
  · exact (hg _).1
  · exact .refl _
  · exact (hg _).2
  · exact .refl _

theorem dequeue (n : Nat) (c : KeyCause) (s : State) : Thinned f s (dequeue n c none s) :=
  of_core (dequeue_still n c none s) (dequeue_core n c none s) (fun _ => ⟨List.filter_sublist, .refl _⟩)

theorem close (n : Nat) (c : KeyCause) (s : State) : Thinned f s (close n c none s) :=
  of_core (close_still n c none s) (close_core n c none s) (fun _ => ⟨.refl _, List.filter_sublist⟩)

theorem endSuspended (n : Nat) (c : KeyCause) (s : State) : Thinned f s (endSuspended n c none s) :=
  of_core (endSuspended_still n c none s) (endSuspended_core n c none s) (fun _ => ⟨.refl _, .refl _⟩)

theorem setReleases (e : Floor) (x : Option Nat) (s : State) : Thinned f s (setReleases e x s) := by
  refine forAll (fun n t => ?_) _ s
  refine ⟨modSeat_still n _ (by intros; rfl) t, ?_, ?_⟩ <;> rw [State.floor_modSeat]

theorem emptyQueue (e : Floor) (c : KeyCause) (s : State) : Thinned f s (emptyQueue e c s) :=
  forAll (fun n t => dequeue n c t) _ s

theorem changeToChairOnly (e : Floor) (s : State) : Thinned f s (changeToChairOnly e s) :=
  (forAll (fun n t => close n .mode t) _ s).trans (forAll (fun n t => endSuspended n .mode t) _ _)

theorem judgeReleases (e : Floor) (old new : FloorSettings) (s : State) : Thinned f s (judgeReleases e old new s) := by
  unfold Machine.judgeReleases
  split
  · exact forAll (fun n t => close n .voiceRelease t) _ s
  · exact refl f s

end Thinned

namespace Listed

variable {f : Floor} {cap : Prop} {s t : State}

theorem thinned (h : Listed f cap s) (k : Thinned f s t) : Listed f cap t := by
  refine ⟨fun n hn => ?_, fun hc => ?_⟩
  · rw [seatFloor_of_still k.still]
    exact h.owned n (hn.imp (fun hn => k.queue.subset hn) (fun hn => k.order.subset hn))
  · rw [settings_of_still k.still]
    exact k.order.length_le.trans (h.limit hc)

/-- A grant takes a seat of the floor while a slot is free. -/
theorem grant (h : Listed f cap s) {n : Nat} (hn : s.seatFloor n = f) (hfree : s.slotFree f = true) (c : KeyCause) :
    Listed f cap (grant n c s) := by
  have hstill := grant_still n c s
  have hfloor := grant_floor n c f s
  rw [if_pos hn.symm] at hfloor
  refine ⟨fun m hm => ?_, fun _ => ?_⟩
  · rw [seatFloor_of_still hstill]
    rw [hfloor] at hm
    rcases hm with hm | hm
    · exact h.owned m (Or.inl (List.mem_filter.mp hm).1)
    · rcases List.mem_append.mp hm with hm | hm
      · exact h.owned m (Or.inr hm)
      · rwa [List.mem_singleton.mp hm]
  · rw [settings_of_still hstill, hfloor]
    simpa using ((slotFree_iff s f).mp hfree).2

theorem grantQueue (h : Listed f cap s) (c : KeyCause) (k : Nat) : Listed f cap (grantQueue f c k s) := by
  induction k generalizing s with
  | zero => exact h
  | succ k ih =>
    unfold Machine.grantQueue
    split
    · next hfree =>
      split
      · next m rest hq => exact ih (h.grant (h.owned m (Or.inl (by rw [hq]; exact List.mem_cons_self))) hfree c)
      · exact h
    · exact h

theorem grantVoices (h : Listed f cap s) (k : Nat) : Listed f cap (grantVoices f k s) := by
  induction k generalizing s with
  | zero => exact h
  | succ k ih =>
    unfold Machine.grantVoices
    split
    · next hfree =>
      split
      · next m hm => exact ih (h.grant (mem_candidates.mp (firstCandidate_some hm).1).1.2 hfree .voice)
      · exact h
    · exact h

theorem grantPass (h : Listed f cap s) : Listed f cap (grantPass f s) := by
  unfold Machine.grantPass
  split
  · split
    · split
      · exact h.grantQueue .auto 8
      · exact h
    · exact h.grantVoices 8
    · exact h
    · exact h
  · exact h

theorem changeMode (h : Listed f cap s) (old new : Mode) : Listed f cap (changeMode f old new s) := by
  unfold Machine.changeMode
  split
  · exact h
  · refine grantPass ?_
    have freed : Listed f cap (if old == .voice then setReleases f none s else s) := by
      split
      · exact h.thinned (.setReleases f none s)
      · exact h
    cases new with
    | openMic => exact (freed.grantQueue .mode 8).thinned (.emptyQueue f .mode _)
    | request => exact freed
    | chairOnly => exact freed.thinned (.changeToChairOnly f _)
    | voice => exact (freed.thinned (.emptyQueue f .mode _)).thinned (.setReleases f (some 0) _)

/-- The tail has been closed (02 R42). -/
theorem closeOverLimit (h : Listed f cap s) : Listed f True (closeOverLimit f s) := by
  have hthin : Thinned f s (Machine.closeOverLimit f s) := .forAll (fun n t => .close n .limit t) _ s
  refine ⟨(h.thinned hthin).owned, fun _ => ?_⟩
  have htail (n : Nat) (hn : n ∈ ((s.floor f).grantOrder.drop (s.floor f).settings.openMicLimit).reverse) :
      s.seatFloor n = f := h.owned n (Or.inr ((List.drop_sublist _ _).subset (List.mem_reverse.mp hn)))
  show ((Machine.forAll _ _ s).floor f).grantOrder.length ≤ ((Machine.forAll _ _ s).floor f).settings.openMicLimit
  rw [closes_floor .limit htail]
  exact length_without_drop _ _

end Listed

/-- The floor with its new settings. -/
def State.withSettings (s : State) (f : Floor) (x : FloorSettings) : State :=
  s.modFloor f (fun r => { r with settings := x })

theorem withSettings_floor (f : Floor) (x : FloorSettings) (s : State) :
    (s.withSettings f x).floor f = { s.floor f with settings := x } := State.floor_modFloor_same f _ s

theorem withSettings_listed {f : Floor} {s : State} (hl : ListsPlaced s) (x : FloorSettings) :
    Listed f False (s.withSettings f x) := by
  refine ⟨fun n hn => ?_, fun h => h.elim⟩
  rw [withSettings_floor] at hn
  rw [State.withSettings, seatFloor_modFloor]
  exact ((hl f).1 n (hn.elim mem_named_of_queue mem_named_of_grantOrder)).2

theorem applyFloorSet_eq (f : Floor) (a : FloorSettingsArg) (s : State) :
    applyFloorSet f a s = grantPass f (judgeReleases f (s.floor f).settings (a.write (s.floor f).settings)
      (closeOverLimit f (changeMode f (s.floor f).settings.mode (a.write (s.floor f).settings).mode
        (s.withSettings f (a.write (s.floor f).settings))))) := rfl

/-- No more seats speak than the new limit allows. -/
theorem applyFloorSet_limit {s : State} (hl : ListsPlaced s) (f : Floor) (a : FloorSettingsArg) :
    ((applyFloorSet f a s).floor f).grantOrder.length ≤ (a.write (s.floor f).settings).openMicLimit := by
  have h : Listed f True (applyFloorSet f a s) := by
    rw [applyFloorSet_eq]
    exact (((withSettings_listed hl _).changeMode _ _).closeOverLimit.thinned (.judgeReleases f _ _ _)).grantPass
  have hlimit := h.limit trivial
  rwa [settings_of_still (applyFloorSet_still f a s), State.floor_modFloor_same] at hlimit

theorem emptyQueue_floor {f : Floor} {s : State} (h : Listed f False s) (c : KeyCause) :
    (emptyQueue f c s).floor f = { s.floor f with queue := [] } := by
  rw [floor_of_core (emptyQueue_core c (fun n hn => h.owned n (Or.inl hn))), floor_forAll_modSeat,
    State.floor_modFloor_same]

/-- A change of mode to OPEN or VOICE leaves the queue empty. -/
theorem applyFloorSet_queue {s : State} (hl : ListsPlaced s) (f : Floor) (a : FloorSettingsArg)
    (hm : (s.floor f).settings.mode ≠ (a.write (s.floor f).settings).mode)
    (hnew : (a.write (s.floor f).settings).mode = .openMic ∨ (a.write (s.floor f).settings).mode = .voice) :
    ((applyFloorSet f a s).floor f).queue = [] := by
  have hlisted := withSettings_listed (f := f) hl (a.write (s.floor f).settings)
  rw [applyFloorSet_eq]
  generalize (a.write (s.floor f).settings) = new at *
  generalize s.withSettings f new = u at *
  have changed : ((changeMode f (s.floor f).settings.mode new.mode u).floor f).queue = [] := by
    unfold changeMode
    rw [if_neg (by simpa using hm)]
    dsimp only
    have freed : Listed f False (if (s.floor f).settings.mode == .voice then setReleases f none u else u) := by
      split
      · exact hlisted.thinned (.setReleases f none u)
      · exact hlisted
    refine List.subset_nil.mp (List.Subset.trans (grantPass_order f f _).2 ?_)
    rcases hnew with hnew | hnew <;> rw [hnew]
    · show ((emptyQueue f .mode _).floor f).queue ⊆ []
      rw [emptyQueue_floor (freed.grantQueue .mode 8)]
      exact List.Subset.refl _
    · refine List.Subset.trans (Thinned.setReleases f (some 0) _).queue.subset ?_
      rw [emptyQueue_floor freed]
      exact List.Subset.refl _
  refine List.subset_nil.mp (List.Subset.trans (grantPass_order f f _).2 ?_)
  refine List.Subset.trans (Thinned.judgeReleases f _ _ _).queue.subset ?_
  rw [← changed]
  exact (Thinned.forAll (fun n t => .close n .limit t) _ _).queue.subset

end Sys2Proof.Machine

namespace Sys2Proof.Machine

/-! ## The two passes of FLOOR_SET (02 R41, R42) -/

theorem closeOverLimit_eq_self {f : Floor} {s : State}
    (h : (s.floor f).grantOrder.length ≤ (s.floor f).settings.openMicLimit) : closeOverLimit f s = s := by
  unfold closeOverLimit
  dsimp only
  rw [List.drop_eq_nil_of_le h]
  rfl

/-- What a full floor is: it is no longer live, or has no slot free. -/
theorem grantPass_of_full {f : Floor} {s : State} (h : s.fullAt f (s.floor f).grantOrder.length) : grantPass f s = s := by
  rcases h with h | h
  · exact grantPass_of_not_live h
  · exact grantPass_of_no_slot (not_slotFree_iff.mpr h)

theorem grantPass_of_no_candidate {f : Floor} {s : State} (hm : (s.floor f).settings.mode = .voice)
    (h : s.candidates f = []) : grantPass f s = s := by
  have voices (k : Nat) : grantVoices f k s = s := by
    cases k with
    | zero => rfl
    | succ k =>
      unfold grantVoices
      rw [firstCandidate_eq, h]
      exact ite_self _
  unfold grantPass
  rw [hm, voices]
  exact ite_self _

theorem grantPass_of_no_request {f : Floor} {s : State} (hm : (s.floor f).settings.mode = .request)
    (h : (s.floor f).queue = []) : grantPass f s = s := by
  unfold grantPass
  rw [hm, grantQueue_of_empty .auto 8 h]
  dsimp only
  rw [ite_self, ite_self]

/-- A second pass grants nobody. -/
theorem grantPass_again {f : Floor} {lifted owing : Option Floor} {s : State} (hs : Seated true lifted owing s)
    (hk : s.freeSlots f ≤ 8) : grantPass f (grantPass f s) = grantPass f s := by
  by_cases hfull : s.fullAt f (s.floor f).grantOrder.length
  · rw [grantPass_of_full hfull, grantPass_of_full hfull]
  · simp only [State.fullAt, not_or, Bool.not_eq_false, not_not, not_le] at hfull
    obtain ⟨hl, hstack, hlen⟩ := hfull
    have hsettings := settings_of_still (grantPass_still f s) f
    cases hm : (s.floor f).settings.mode with
    | openMic => rw [grantPass_of_quiet (Or.inl hm), grantPass_of_quiet (Or.inl hm)]
    | chairOnly => rw [grantPass_of_quiet (Or.inr hm), grantPass_of_quiet (Or.inr hm)]
    | request =>
      by_cases ha : (s.floor f).settings.autoGrant = true
      · obtain ⟨hg, hq⟩ := grantPass_auto hs hl hstack hm ha hk
        by_cases hmany : s.freeSlots f ≤ (s.floor f).queue.length
        · refine grantPass_of_full ((fullAt_of_still hg.still hg.stack _).mpr (Or.inr (Or.inr ?_)))
          rw [hg.order, List.length_append, List.length_take, min_eq_left hmany]
          unfold State.freeSlots
          omega
        · refine grantPass_of_no_request (by rw [hsettings, hm]) ?_
          rw [hq, List.drop_eq_nil_of_le (by omega)]
      · rw [grantPass_of_no_auto hm (by simpa using ha), grantPass_of_no_auto hm (by simpa using ha)]
    | voice =>
      have hpass : grantPass f s = grantVoices f 8 s := by
        unfold grantPass
        rw [if_pos hl, hm]
      rw [hpass] at hsettings ⊢
      obtain ⟨g, hg, -, -, -, hrest⟩ := grantVoices_granted 8 hs hl hk
      generalize grantVoices f 8 s = t at *
      by_cases hnone : t.candidates f = []
      · exact grantPass_of_no_candidate (by rw [hsettings, hm]) hnone
      · obtain ⟨n, hn⟩ := List.exists_mem_of_ne_nil _ hnone
        have hng : n ∉ g := by
          intro hmem
          have hidle : (t.seat n).floorState = .idle := (mem_candidates.mp hn).2.1
          rw [hg.seat n hmem] at hidle
          cases hidle
        have hcand : n ∈ s.candidates f := by
          obtain ⟨hown, hidle, hgate, hadm⟩ := mem_candidates.mp hn
          rw [owns_of_still hg.still] at hown
          rw [chan_of_still hg.still] at hgate
          rw [admission_of_still hg.still] at hadm
          refine mem_candidates.mpr ⟨hown, ?_, hgate, hadm⟩
          rwa [State.standing, ← hg.other n hng]
        refine grantPass_of_full ((fullAt_of_still hg.still hg.stack _).mpr ?_)
        rw [hg.order, List.length_append]
        exact (hrest n hcand hng).1

/-- A pass before the closing of the tail does nothing, or does what the last pass does. -/
theorem closeOverLimit_grantPass {f : Floor} {s : State}
    (hown : ∀ n, n ∈ (s.floor f).queue ∨ n ∈ (s.floor f).grantOrder → s.seatFloor n = f) :
    closeOverLimit f (grantPass f s) = (if (s.floor f).grantOrder.length ≤ (s.floor f).settings.openMicLimit then
      grantPass f s else closeOverLimit f s) := by
  split
  · next h => exact closeOverLimit_eq_self ((Listed.mk hown (cap := True) (fun _ => h)).grantPass.limit trivial)
  · next h => rw [grantPass_of_full (Or.inr (Or.inr (by omega)))]

theorem grantPass_closeOverLimit_grantPass {f : Floor} {lifted owing : Option Floor} {s : State}
    (hs : Seated true lifted owing s) (hk : s.freeSlots f ≤ 8) :
    grantPass f (closeOverLimit f (grantPass f s)) = grantPass f (closeOverLimit f s) := by
  rw [closeOverLimit_grantPass (fun n hn => ((hs.fits f).owned n (hn.elim mem_named_of_queue mem_named_of_grantOrder)).2)]
  split
  · next h => rw [grantPass_again hs hk, closeOverLimit_eq_self h]
  · rfl

/-! ## Grants from the queue, hold or not -/

/-- The slots that a grant from the queue can fill. -/
def State.slots (s : State) (f : Floor) : Nat := if (s.floor f).stack = [] then s.freeSlots f else 0

theorem grantQueue_fills {f : Floor} {lifted owing : Option Floor} {s : State} (hs : Seated true lifted owing s)
    (hk : s.freeSlots f ≤ 8) (c : KeyCause) :
    Granted f ((s.floor f).queue.take (s.slots f)) s (grantQueue f c 8 s) ∧
      ((grantQueue f c 8 s).floor f).queue = (s.floor f).queue.drop (s.slots f) := by
  unfold State.slots
  split
  · next h => exact grantQueue_granted c 8 hs h hk
  · next h =>
    rw [grantQueue_of_full c 8 (not_slotFree_iff.mpr (Or.inl h))]
    exact ⟨.refl f s, rfl⟩

/-- The pass of a REQUEST floor. -/
theorem grantPass_fills {f : Floor} {lifted owing : Option Floor} {s : State} (hs : Seated true lifted owing s)
    (hk : s.freeSlots f ≤ 8) (hm : (s.floor f).settings.mode = .request) :
    let given := if (s.floor f).settings.autoGrant then (s.floor f).queue.take (s.slots f) else []
    Granted f given s (grantPass f s) ∧ ((grantPass f s).floor f).queue = (s.floor f).queue.drop given.length := by
  dsimp only
  by_cases ha : (s.floor f).settings.autoGrant = true
  · rw [if_pos ha]
    have short : ((s.floor f).queue.take (s.slots f)).length = s.slots f ∨ (s.floor f).queue.length ≤ s.slots f := by
      rw [List.length_take]
      omega
    have rest : (s.floor f).queue.drop ((s.floor f).queue.take (s.slots f)).length =
        (s.floor f).queue.drop (s.slots f) := by
      rcases short with h | h
      · rw [h]
      · rw [List.take_of_length_le h, List.drop_length, List.drop_eq_nil_of_le h]
    rw [rest]
    by_cases hl : s.live f = true
    · have hpass : grantPass f s = grantQueue f .auto 8 s := by
        unfold grantPass
        rw [if_pos hl, hm]
        exact if_pos ha
      rw [hpass]
      exact grantQueue_fills hs hk .auto
    · have hnone : (s.floor f).queue = [] := List.eq_nil_iff_forall_not_mem.mpr (fun n hn => by
        have := mem_named_of_queue hn
        rw [(hs.fits f).closed (Bool.eq_false_iff.mpr hl : s.live f = false)] at this
        cases this)
      rw [grantPass_of_no_request hm hnone, hnone, List.take_nil, List.drop_nil]
      exact ⟨.refl f s, rfl⟩
  · rw [if_neg ha, grantPass_of_no_auto hm (by simpa using ha)]
    exact ⟨.refl f s, rfl⟩

end Sys2Proof.Machine

namespace Sys2Proof.Machine

/-! ## What a change of mode makes of the seats before the pass (02 R41) -/

/-- The release counts of the floor's speakers have been written. -/
structure Counted (f : Floor) (k : SeatRec → SeatRec) (s t : State) : Prop where
  floor : ∀ e, t.floor e = s.floor e
  seat : ∀ n ∈ (s.floor f).grantOrder, t.seat n = k (s.seat n)
  other : ∀ n, n ∉ (s.floor f).grantOrder → t.seat n = s.seat n
  still : t.still = s.still

/-- The queue of a floor has been emptied. -/
structure Emptied (f : Floor) (s t : State) : Prop where
  floor : t.floor f = { s.floor f with queue := [] }
  floors : ∀ e, e ≠ f → t.floor e = s.floor e
  seat : ∀ n ∈ (s.floor f).queue, t.seat n = (s.seat n).toState .idle
  other : ∀ n, n ∉ (s.floor f).queue → t.seat n = s.seat n
  still : t.still = s.still

section
variable {f : Floor} {lifted owing : Option Floor} {s : State} (hs : Seated true lifted owing s)
include hs

theorem setReleases_counted (x : Option Nat) :
    Counted f (fun r => { r with release := x }) s (setReleases f x s) where
  floor e := floor_forAll_modSeat _ _ e s
  seat n hn := by
    have hfits := hs.fits f
    obtain ⟨h1, h2⟩ := List.mem_range'_1.mp (hfits.owned n (mem_named_of_grantOrder hn)).1
    exact seat_forAll_modSeat_of_named id (fun _ r => { r with release := x })
      (by rw [List.map_id]; exact hfits.nodup_grantOrder rfl) hn s h1 (by rw [hs.table]; exact Nat.le_of_lt_succ h2)
  other n hn := seat_forAll_modSeat_not_mem hn _ s
  still := setReleases_still f x s

theorem emptyQueue_emptied (c : KeyCause) : Emptied f s (emptyQueue f c s) := by
  have hfits := hs.fits f
  have hcore := emptyQueue_core c (fun n hn => (hfits.owned n (mem_named_of_queue hn)).2)
  refine ⟨?_, fun e he => ?_, fun n hn => ?_, fun n hn => ?_, emptyQueue_still f c s⟩
  · rw [floor_of_core hcore, floor_forAll_modSeat, State.floor_modFloor_same]
  · rw [floor_of_core hcore, floor_forAll_modSeat, State.floor_modFloor_ne he]
  · refine forAll_seat_of_mem (fun n t h => dequeue_seat h c none) (fun m n t h => dequeue_seat_ne h c none t)
      (hfits.nodup_queue rfl) hn ?_
    have hst : (s.seat n).floorState = .queued := hfits.queued_of_mem rfl hn
    rw [hst]
    decide
  · exact forAll_seat_of_not_mem (fun m n t h => dequeue_seat_ne h c none t) hn s

/-- The seats of a floor stand in one of its lists each. -/
theorem apart_of_grantOrder {n : Nat} (hn : n ∈ (s.floor f).grantOrder) :
    n ∉ (s.floor f).queue ∧ n ∉ (s.floor f).susp.map (·.seat) ∧ (s.seat n).floorState = .speaking := by
  have hfits := hs.fits f
  have hst : s.standing n = .speaking := hfits.speaking_of_mem rfl hn
  obtain ⟨hq, -, hsusp, -⟩ := hfits.lists rfl (hfits.owned n (mem_named_of_grantOrder hn))
  rw [hq, hsusp, hst]
  exact ⟨by decide, by decide, hst⟩

theorem apart_of_queue {n : Nat} (hn : n ∈ (s.floor f).queue) :
    n ∉ (s.floor f).grantOrder ∧ n ∉ (s.floor f).susp.map (·.seat) ∧ (s.seat n).floorState = .queued := by
  have hfits := hs.fits f
  have hst : s.standing n = .queued := hfits.queued_of_mem rfl hn
  obtain ⟨-, ho, hsusp, -⟩ := hfits.lists rfl (hfits.owned n (mem_named_of_queue hn))
  rw [ho, hsusp, hst]
  exact ⟨by decide, by decide, hst⟩

theorem apart_of_susp {n : Nat} (hn : n ∈ (s.floor f).susp.map (·.seat)) :
    n ∉ (s.floor f).queue ∧ n ∉ (s.floor f).grantOrder ∧ (s.seat n).floorState = .suspended := by
  have hfits := hs.fits f
  obtain ⟨e, he, rfl⟩ := List.mem_map.mp hn
  have hst : s.standing e.seat = .suspended := hfits.suspended_of_mem rfl he
  obtain ⟨hq, ho, -, -⟩ := hfits.lists rfl (hfits.owned e.seat (mem_named_of_susp he))
  rw [hq, ho, hst]
  exact ⟨by decide, by decide, hst⟩

end

/-- A floor whose mode leaves VOICE cancels the release counts (02 R41). -/
def freed (f : Floor) (cancels : Bool) (s : State) : State := if cancels then setReleases f none s else s

/-- What that does to the record of a speaker. -/
def SeatRec.freed (cancels : Bool) (r : SeatRec) : SeatRec := { r with release := if cancels then none else r.release }

theorem freed_counted {f : Floor} {lifted owing : Option Floor} {s : State} (hs : Seated true lifted owing s) (cancels : Bool) :
    Counted f (SeatRec.freed cancels) s (freed f cancels s) := by
  cases cancels with
  | false => exact ⟨fun _ => rfl, fun _ _ => rfl, fun _ _ => rfl, rfl⟩
  | true => exact setReleases_counted hs none

theorem freed_seated {f : Floor} {lifted owing : Option Floor} {s : State} (hs : Seated true lifted owing s) (cancels : Bool) :
    Seated true lifted owing (freed f cancels s) := by
  cases cancels with
  | false => exact hs
  | true => exact hs.setReleases f none

/-- What the change to a mode makes of the floor's lists. -/
def converted (f : Floor) : Mode → State → State
  | .voice => changeToVoice f
  | .chairOnly => changeToChairOnly f
  | .openMic => changeToOpen f
  | .request => id

/-- What the change of mode makes of the floor and its seats before the pass that ends it. -/
def prepared (f : Floor) (old new : Mode) (s : State) : State :=
  if old = new then s else converted f new (freed f (old == .voice) s)

theorem prepared_of_ne {f : Floor} {old new : Mode} (h : old ≠ new) (s : State) :
    prepared f old new s = converted f new (freed f (old == .voice) s) := if_neg h

theorem prepared_same (f : Floor) (m : Mode) (s : State) : prepared f m m s = s := if_pos rfl

theorem changeMode_eq (f : Floor) (old new : Mode) (s : State) : changeMode f old new s =
    if old = new then prepared f old new s else grantPass f (prepared f old new s) := by
  by_cases h : old = new
  · rw [if_pos h, h, prepared_same]
    exact if_pos (beq_self_eq_true _)
  · rw [if_neg h, prepared_of_ne h]
    unfold changeMode
    rw [if_neg (by simpa using h)]
    cases new <;> rfl

theorem converted_seated {f : Floor} {lifted owing : Option Floor} {s : State} (hs : Seated true lifted owing s)
    (new : Mode) : Seated true lifted owing (converted f new s) := by
  cases new with
  | openMic => exact (hs.grantQueue f .mode 8).emptyQueue f .mode
  | request => exact hs
  | chairOnly => exact hs.changeToChairOnly f
  | voice => exact (hs.emptyQueue f .mode).setReleases f (some 0)

theorem prepared_seated {f : Floor} {lifted owing : Option Floor} {s : State} (hs : Seated true lifted owing s)
    (old new : Mode) : Seated true lifted owing (prepared f old new s) := by
  unfold prepared
  split
  · exact hs
  · exact converted_seated (freed_seated hs _) new

theorem prepared_still (f : Floor) (old new : Mode) (s : State) : (prepared f old new s).still = s.still := by
  have h := changeMode_still f old new s
  rw [changeMode_eq] at h
  split at h
  · exact h
  · rwa [grantPass_still] at h

end Sys2Proof.Machine

namespace Sys2Proof.Machine

/-! ## The speakers beyond the limit, and those judged against a new release time (02 R21, R42) -/

/-- The speakers beyond the limit, latest first. -/
def State.beyond (s : State) (f : Floor) : List Nat :=
  ((s.floor f).grantOrder.drop (s.floor f).settings.openMicLimit).reverse

theorem take_of_without_drop {l : List Nat} (h : l.Nodup) (k : Nat) : l.filter (· ∉ (l.drop k).reverse) = l.take k := by
  have happ := List.nodup_append.mp ((List.take_append_drop k l).symm ▸ h : (l.take k ++ l.drop k).Nodup)
  obtain ⟨-, -, hdisj⟩ := happ
  have htake : (l.take k).filter (· ∉ (l.drop k).reverse) = l.take k :=
    List.filter_eq_self.mpr (fun n hn => by
      simpa using fun hd => hdisj n hn n hd rfl)
  have hdrop : (l.drop k).filter (· ∉ (l.drop k).reverse) = [] := by
    simp [List.filter_eq_nil_iff]
  calc l.filter (· ∉ (l.drop k).reverse)
      = (l.take k ++ l.drop k).filter (· ∉ (l.drop k).reverse) := by rw [List.take_append_drop]
    _ = l.take k := by rw [List.filter_append, htake, hdrop, List.append_nil]

theorem not_mem_drop_of_take {l : List Nat} (h : l.Nodup) {k n : Nat} (hn : n ∈ l.take k) : n ∉ l.drop k := by
  rw [← take_of_without_drop h k, List.mem_filter] at hn
  simpa using hn.2

theorem mem_drop_of_not_take {l : List Nat} {k n : Nat} (hn : n ∈ l) (ht : n ∉ l.take k) : n ∈ l.drop k := by
  rw [← List.take_append_drop k l, List.mem_append] at hn
  exact hn.resolve_left ht

section
variable {f : Floor} {lifted owing : Option Floor} {s : State} (hs : Seated true lifted owing s)
include hs

theorem closeOverLimit_closed : Closed f (s.beyond f) s (closeOverLimit f s) ∧
    ((closeOverLimit f s).floor f).grantOrder = (s.floor f).grantOrder.take (s.floor f).settings.openMicLimit := by
  have hnd := (hs.fits f).nodup_grantOrder rfl
  have hclosed : Closed f (s.beyond f) s (closeOverLimit f s) :=
    (hs.closes_closed .limit (List.nodup_reverse.mpr (hnd.sublist (List.drop_sublist _ _)))
      (fun n hn => (List.drop_sublist _ _).subset (List.mem_reverse.mp hn))).1
  refine ⟨hclosed, ?_⟩
  rw [hclosed.floor]
  exact take_of_without_drop hnd _

/-- Nobody's count has run out. -/
theorem releaseVoices_of_quiet (hr : 1 ≤ (s.floor f).settings.voiceRelease)
    (h : ∀ n ∈ (s.floor f).grantOrder, (s.seat n).release.getD 0 = 0) : releaseVoices f s = s := by
  have hnone : s.overdue f = [] := List.eq_nil_iff_forall_not_mem.mpr (fun n hn => by
    obtain ⟨hn, ho⟩ := (mem_overdue hs).mp hn
    unfold State.releaseOver at ho
    rw [h n hn, decide_eq_true_iff] at ho
    omega)
  show forAll (s.overdue f) _ s = s
  rw [hnone]
  rfl

end

theorem judgeReleases_of_ne {f : Floor} {old new : FloorSettings} (h : new.mode ≠ .voice) (s : State) :
    judgeReleases f old new s = s := by
  unfold judgeReleases
  rw [if_neg (by simp [h])]

theorem judgeReleases_of_quiet {f : Floor} {lifted owing : Option Floor} {old new : FloorSettings} {s : State}
    (hs : Seated true lifted owing s) (hr : 1 ≤ (s.floor f).settings.voiceRelease)
    (h : ∀ n ∈ (s.floor f).grantOrder, (s.seat n).release.getD 0 = 0) : judgeReleases f old new s = s := by
  unfold judgeReleases
  split
  · exact releaseVoices_of_quiet hs hr h
  · rfl

/-! ## The changes of mode, seat by seat (02 R41) -/

theorem withSettings_seated {f : Floor} {s : State} (hs : Seated true none none s) (x : FloorSettings) :
    Seated true (some f) none (s.withSettings f x) := hs.writeSettings x

theorem withSettings_seat (f : Floor) (x : FloorSettings) (n : Nat) (s : State) :
    (s.withSettings f x).seat n = s.seat n := State.seat_modFloor f _ n s

/-- The speakers of a floor that has changed to VOICE have a release count of 0, and the queue is empty (02 R41). -/
structure Voiced (f : Floor) (s t : State) : Prop where
  floor : t.floor f = { s.floor f with queue := [] }
  floors : ∀ e, e ≠ f → t.floor e = s.floor e
  order : ∀ n ∈ (s.floor f).grantOrder, t.seat n = { s.seat n with release := some 0 }
  queue : ∀ n ∈ (s.floor f).queue, t.seat n = (s.seat n).toState .idle
  other : ∀ n, n ∉ (s.floor f).grantOrder → n ∉ (s.floor f).queue → t.seat n = s.seat n
  still : t.still = s.still

theorem changeToVoice_voiced {f : Floor} {lifted owing : Option Floor} {s : State} (hs : Seated true lifted owing s)
    (cancels : Bool) : Voiced f s (changeToVoice f (freed f cancels s)) := by
  have hF := freed_counted (f := f) hs cancels
  have hFs := freed_seated (f := f) hs cancels
  generalize freed f cancels s = x at *
  have hE := emptyQueue_emptied (f := f) hFs .mode
  have hEs := hFs.emptyQueue f .mode
  have hC := setReleases_counted (f := f) hEs (some 0)
  have order : ((emptyQueue f .mode x).floor f).grantOrder = (s.floor f).grantOrder := by rw [hE.floor, hF.floor]
  have queue : (x.floor f).queue = (s.floor f).queue := by rw [hF.floor]
  refine ⟨?_, fun e he => ?_, fun n hn => ?_, fun n hn => ?_, fun n ho hq => ?_, ?_⟩
  · rw [changeToVoice, hC.floor, hE.floor, hF.floor]
  · rw [changeToVoice, hC.floor, hE.floors e he, hF.floor]
  · rw [changeToVoice, hC.seat n (by rwa [order]), hE.other n (by rw [queue]; exact (apart_of_grantOrder hs hn).1),
      hF.seat n hn]
    rfl
  · have ho := (apart_of_queue hs hn).1
    rw [changeToVoice, hC.other n (by rwa [order]), hE.seat n (by rwa [queue]), hF.other n ho]
  · rw [changeToVoice, hC.other n (by rwa [order]), hE.other n (by rwa [queue]), hF.other n ho]
  · exact hC.still.trans (hE.still.trans hF.still)

/-! ## FLOOR_SET as one pass (02 R21, R41, R42) -/

/-- An accepted FLOOR_SET, its passes put together. -/
def floorSetRun (f : Floor) (new : FloorSettings) (s : State) : State :=
  grantPass f (judgeReleases f (s.floor f).settings new
    (closeOverLimit f (prepared f (s.floor f).settings.mode new.mode (s.withSettings f new))))

theorem release_of_voiced {f : Floor} {s y : State} (h : Voiced f s y) {n : Nat} (hn : n ∈ (y.floor f).grantOrder) : y.seat n = { s.seat n with release := some 0 } := by
  rw [h.floor] at hn
  exact h.order n hn

/-- The judgement that follows a change to VOICE finds no count run out. -/
theorem judgeReleases_of_voiced {f : Floor} {owing : Option Floor} {old new : FloorSettings} {s y : State}
    (hy : Seated true (some f) owing y) (h : Voiced f s y)
    (hr : 1 ≤ (s.floor f).settings.voiceRelease) :
    judgeReleases f old new (closeOverLimit f y) = closeOverLimit f y := by
  obtain ⟨hclosed, horder⟩ := closeOverLimit_closed (f := f) hy
  refine judgeReleases_of_quiet hy.closeOverLimit ?_ (fun n hn => ?_)
  · rw [settings_of_still (hclosed.still.trans h.still)]
    exact hr
  · rw [horder] at hn
    have hout : n ∉ y.beyond f := by
      rw [State.beyond, List.mem_reverse]
      exact not_mem_drop_of_take ((hy.fits f).nodup_grantOrder rfl) hn
    rw [hclosed.other n hout, release_of_voiced h ((List.take_sublist _ _).subset hn)]
    rfl

theorem applyFloorSet_run {s : State} (hs : Seated true none none s) (hin : SettingsInRange s) (f : Floor)
    (a : FloorSettingsArg) : applyFloorSet f a s = floorSetRun f (a.write (s.floor f).settings) s := by
  have hnew := floorSettings_write_inRange a (((settingsInRange_iff s).mp hin).1 f).1
  rw [applyFloorSet_eq, floorSetRun, changeMode_eq]
  generalize a.write (s.floor f).settings = new at *
  generalize (s.floor f).settings = old
  have hu := withSettings_seated (f := f) hs new
  have hset : ((s.withSettings f new).floor f).settings = new := by rw [withSettings_floor]
  generalize s.withSettings f new = u at *
  by_cases hm : old.mode = new.mode
  · rw [if_pos hm]
  · rw [if_neg hm]
    have hy := prepared_seated (f := f) hu old.mode new.mode
    have hk : (prepared f old.mode new.mode u).freeSlots f ≤ 8 := by
      unfold State.freeSlots
      rw [settings_of_still (prepared_still f old.mode new.mode u), hset]
      exact (Nat.sub_le _ _).trans hnew.1.2
    by_cases hv : new.mode = .voice
    · have hvoiced : Voiced f u (prepared f old.mode new.mode u) := by
        rw [prepared_of_ne hm, hv]
        exact changeToVoice_voiced hu _
      have hrel : 1 ≤ (u.floor f).settings.voiceRelease := by
        rw [hset]
        exact hnew.2.2.2.1.1
      have hvm : ((prepared f old.mode new.mode u).floor f).settings.mode = .voice := by
        rw [settings_of_still (prepared_still f old.mode new.mode u), hset, hv]
      generalize prepared f old.mode new.mode u = y at *
      have hquiet : judgeReleases f old new (closeOverLimit f (grantPass f y)) = closeOverLimit f (grantPass f y) := by
        rw [closeOverLimit_grantPass (fun n hn =>
          ((hy.fits f).owned n (hn.elim mem_named_of_queue mem_named_of_grantOrder)).2)]
        split
        · obtain ⟨g, hg, hcand, -⟩ := grantPass_voice hy hvm hk
          refine judgeReleases_of_quiet (hy.grantPass f) ?_ (fun n hn => ?_)
          · rw [settings_of_still (hg.still.trans hvoiced.still)]
            exact hrel
          · rw [hg.order, List.mem_append] at hn
            by_cases hng : n ∈ g
            · rw [(hg.grantedTurn hng).2, if_pos hvm]
              rfl
            · rw [hg.other n hng, release_of_voiced hvoiced (hn.resolve_right hng)]
              rfl
        · exact judgeReleases_of_voiced hy hvoiced hrel
      rw [hquiet, judgeReleases_of_voiced hy hvoiced hrel, grantPass_closeOverLimit_grantPass hy hk]
    · rw [judgeReleases_of_ne hv, judgeReleases_of_ne hv, grantPass_closeOverLimit_grantPass hy hk]

end Sys2Proof.Machine

namespace Sys2Proof.Machine

/-! ## FLOOR_SET outside VOICE (02 R41, R42) -/

/-- The speakers within the new limit stay, the others have been closed, `given` have been granted, and beside them only
`left` have changed. -/
structure Taken (f : Floor) (new : FloorSettings) (cancels : Bool) (given left : List Nat) (s t : State) : Prop where
  susp : (t.floor f).susp = (s.floor f).susp
  stack : (t.floor f).stack = (s.floor f).stack
  order : (t.floor f).grantOrder = (s.floor f).grantOrder.take new.openMicLimit ++ given
  stays : ∀ n ∈ (s.floor f).grantOrder.take new.openMicLimit, t.seat n = (s.seat n).freed cancels
  beyond : ∀ n ∈ (s.floor f).grantOrder.drop new.openMicLimit, (t.seat n).floorState = .idle ∧ turnsOf n true s t
  granted : ∀ n ∈ given, grantedTurn f n (s.withSettings f new) t ∧ (t.seat n).release = none
  other : ∀ n, n ∉ (s.floor f).grantOrder → n ∉ given → n ∉ left → t.seat n = s.seat n
  floors : ∀ e, e ≠ f → t.floor e = s.floor e

/-- A closed speaker is IDLE with its turn accounted, whatever the change of mode made of its release count. -/
theorem turnDone_freed {n : Nat} {s t : State} {cancels : Bool} (h : t.seat n = ((s.seat n).freed cancels).turnDone) :
    (t.seat n).floorState = .idle ∧ turnsOf n true s t := by
  unfold turnsOf
  rw [h]
  exact ⟨rfl, rfl⟩

/-- Speakers added within the limit are not beyond it. -/
theorem take_append_within {l g : List Nat} {k : Nat} (h : g.length ≤ k - l.length) :
    (l ++ g).take k = l.take k ++ g ∧ (l ++ g).drop k = l.drop k := by
  rw [List.take_append, List.drop_append, List.take_of_length_le h, List.drop_eq_nil_of_le h, List.append_nil]
  exact ⟨rfl, rfl⟩

/-- The floor has its new settings, and its speakers' release counts are cancelled or not. -/
structure Cancelled (f : Floor) (new : FloorSettings) (cancels : Bool) (s x : State) : Prop where
  floor : x.floor f = { s.floor f with settings := new }
  floors : ∀ e, e ≠ f → x.floor e = s.floor e
  seat : ∀ n ∈ (s.floor f).grantOrder, x.seat n = (s.seat n).freed cancels
  other : ∀ n, n ∉ (s.floor f).grantOrder → x.seat n = s.seat n
  still : x.still = (s.withSettings f new).still
  seated : Seated true (some f) none x

section
variable {f : Floor} {s : State} (hs : Seated true none none s) (new : FloorSettings)
include hs

theorem Taken.standing {cancels : Bool} {given left : List Nat} {t : State} {new : FloorSettings}
    (h : Taken f new cancels given left s t)
    (hg : ∀ n ∈ given, n ∈ (s.floor f).queue) (hl : ∀ n ∈ left, n ∈ (s.floor f).queue) :
    (t.floor f).susp = (s.floor f).susp ∧ (t.floor f).stack = (s.floor f).stack ∧
      ∀ n ∈ (s.floor f).susp.map (·.seat), t.seat n = s.seat n := by
  refine ⟨h.susp, h.stack, fun n hn => ?_⟩
  obtain ⟨hq, ho, -⟩ := apart_of_susp hs hn
  exact h.other n ho (fun hm => hq (hg n hm)) (fun hm => hq (hl n hm))

theorem freed_cancelled (cancels : Bool) : Cancelled f new cancels s (freed f cancels (s.withSettings f new)) := by
  have hu := withSettings_seated (f := f) hs new
  have hF := freed_counted (f := f) hu cancels
  have horder : ((s.withSettings f new).floor f).grantOrder = (s.floor f).grantOrder := by rw [withSettings_floor]
  refine ⟨?_, fun e he => ?_, fun n hn => ?_, fun n hn => ?_, hF.still, freed_seated hu cancels⟩
  · rw [hF.floor, withSettings_floor]
  · rw [hF.floor, State.withSettings, State.floor_modFloor_ne he]
  · rw [hF.seat n (by rwa [horder]), withSettings_seat]
  · rw [hF.other n (by rwa [horder]), withSettings_seat]

/-- The floor with its new settings, release counts cancelled or not, and the tail closed. -/
theorem limited_taken {new : FloorSettings} {cancels : Bool} {x : State} (hx : Cancelled f new cancels s x) :
    Taken f new cancels [] [] s (closeOverLimit f x) ∧ Seated true none none (closeOverLimit f x) ∧
    (closeOverLimit f x).still = (s.withSettings f new).still ∧
    ((closeOverLimit f x).floor f).queue = (s.floor f).queue := by
  obtain ⟨hclosed, horder⟩ := closeOverLimit_closed (f := f) hx.seated
  have hbeyond (n : Nat) : n ∈ x.beyond f ↔ n ∈ (s.floor f).grantOrder.drop new.openMicLimit := by
    rw [State.beyond, List.mem_reverse, hx.floor]
  refine ⟨⟨?_, ?_, ?_, fun n hn => ?_, fun n hn => ?_, fun n hn => (by cases hn), fun n hn _ _ => ?_, fun e he => ?_⟩,
    hx.seated.closeOverLimit, hclosed.still.trans hx.still, ?_⟩
  · rw [hclosed.floor, hx.floor]
  · rw [hclosed.floor, hx.floor]
  · rw [horder, hx.floor, List.append_nil]
  · have hout := not_mem_drop_of_take ((hs.fits f).nodup_grantOrder rfl) hn
    rw [hclosed.other n (by rwa [hbeyond]), hx.seat n ((List.take_sublist _ _).subset hn)]
  · refine turnDone_freed (cancels := cancels) ?_
    rw [hclosed.seat n ((hbeyond n).mpr hn), hx.seat n ((List.drop_sublist _ _).subset hn)]
  · rw [hclosed.other n (by rw [hbeyond]; exact fun h => hn ((List.drop_sublist _ _).subset h)), hx.other n hn]
  · rw [hclosed.floors e he, hx.floors e he]
  · rw [hclosed.floor, hx.floor]

/-- Then seats of the queue are granted. -/
theorem limited_granted {new : FloorSettings} {cancels : Bool} {given : List Nat} {x t : State} (hm : new.mode ≠ .voice)
    (hx : Cancelled f new cancels s x) (hg : Granted f given (closeOverLimit f x) t)
    (hq : ∀ n ∈ given, n ∈ (s.floor f).queue) : Taken f new cancels given [] s t := by
  obtain ⟨hc, -, hstill, -⟩ := limited_taken hs hx
  generalize closeOverLimit f x = c at *
  have hset : (c.floor f).settings = new := by rw [settings_of_still hstill, withSettings_floor]
  have hout (n : Nat) (hn : n ∈ (s.floor f).grantOrder) : n ∉ given :=
    fun h => (apart_of_grantOrder hs hn).1 (hq n h)
  refine ⟨hg.susp.trans hc.susp, hg.stack.trans hc.stack, ?_, fun n hn => ?_, fun n hn => ?_, fun n hn => ?_,
    fun n hn hn' hl => ?_, fun e he => (hg.floors e he).trans (hc.floors e he)⟩
  · rw [hg.order, hc.order, List.append_nil]
  · rw [hg.other n (hout n ((List.take_sublist _ _).subset hn)), hc.stays n hn]
  · have hsame := hg.other n (hout n ((List.drop_sublist _ _).subset hn))
    have hclosed := hc.beyond n hn
    unfold turnsOf at hclosed ⊢
    rwa [hsame]
  · obtain ⟨⟨hst, hturn, hacc⟩, hrel⟩ := hg.grantedTurn hn
    rw [hset] at hturn hrel
    have hbefore : c.seat n = s.seat n := hc.other n (apart_of_queue hs (hq n hn)).1 (by simp) (by simp)
    refine ⟨⟨hst, ?_, ?_⟩, by rw [hrel, if_neg hm]⟩
    · rw [hturn, withSettings_floor]
    · unfold turnsOf at hacc ⊢
      rw [hacc, hbefore, withSettings_seat]
  · rw [hg.other n hn', hc.other n hn (by simp) hl]

/-- A change to OPEN: the queue is granted as far as it goes, and the rest of it is IDLE. -/
theorem opened_taken {new : FloorSettings} {cancels : Bool} {x : State} (hx : Cancelled f new cancels s x)
    (hm : new.mode ≠ .voice) (hlimit : new.openMicLimit ≤ 8) :
    let t := closeOverLimit f (changeToOpen f x)
    let free := if (s.floor f).stack = [] then new.openMicLimit - (s.floor f).grantOrder.length else 0
    Taken f new cancels ((s.floor f).queue.take free) (s.floor f).queue s t ∧ (t.floor f).queue = [] ∧
      ∀ n ∈ (s.floor f).queue.drop free, (t.seat n).floorState = .idle ∧ turnsOf n false s t := by
  intro t free
  have hfree : x.slots f = free := by
    unfold State.slots State.freeSlots
    rw [hx.floor]
  have hk : x.freeSlots f ≤ 8 := by
    unfold State.freeSlots
    rw [hx.floor]
    exact (Nat.sub_le _ _).trans hlimit
  obtain ⟨hg, hrest⟩ := grantQueue_fills (f := f) hx.seated hk .mode
  have hqs := hx.seated.grantQueue f .mode 8
  have hE := emptyQueue_emptied (f := f) hqs .mode
  obtain ⟨hclosed, horder⟩ := closeOverLimit_closed (f := f) (hqs.emptyQueue f .mode)
  have ht : t = closeOverLimit f (emptyQueue f .mode (grantQueue f .mode 8 x)) := rfl
  rw [← ht] at hclosed horder
  rw [hfree, hx.floor] at hg hrest
  dsimp only at hg hrest
  generalize grantQueue f .mode 8 x = q at *
  generalize emptyQueue f .mode q = e at *
  generalize t = t at *
  have hlen : ((s.floor f).queue.take free).length ≤ new.openMicLimit - (s.floor f).grantOrder.length := by
    refine (List.length_take_le _ _).trans ?_
    show (if _ then _ else _) ≤ _
    split
    · exact Nat.le_refl _
    · exact Nat.zero_le _
  obtain ⟨htake, hdrop⟩ := take_append_within hlen
  have hsettings : (e.floor f).settings = new := by rw [settings_of_still (hE.still.trans hg.still), hx.floor]
  have hspeakers : (e.floor f).grantOrder = (s.floor f).grantOrder ++ (s.floor f).queue.take free := by
    rw [hE.floor, hg.order, hx.floor]
  rw [hsettings, hspeakers, htake] at horder
  have hbeyond (n : Nat) : n ∈ e.beyond f ↔ n ∈ (s.floor f).grantOrder.drop new.openMicLimit := by
    rw [State.beyond, List.mem_reverse, hsettings, hspeakers, hdrop]
  have hspeaker (n : Nat) (hn : n ∈ (s.floor f).grantOrder) : e.seat n = (s.seat n).freed cancels := by
    have hq := (apart_of_grantOrder hs hn).1
    rw [hE.other n (by rw [hrest]; exact fun h => hq ((List.drop_sublist _ _).subset h)),
      hg.other n (fun h => hq ((List.take_sublist _ _).subset h)), hx.seat n hn]
  have hstays (n : Nat) (hn : n ∉ (s.floor f).grantOrder) : t.seat n = e.seat n :=
    hclosed.other n (by rw [hbeyond]; exact fun h => hn ((List.drop_sublist _ _).subset h))
  refine ⟨⟨?_, ?_, horder, fun n hn => ?_, fun n hn => ?_, fun n hn => ?_, fun n hn _ hl => ?_, fun d hd => ?_⟩, ?_,
    fun n hn => ?_⟩
  · rw [hclosed.floor, hE.floor, hg.susp, hx.floor]
  · rw [hclosed.floor, hE.floor, hg.stack, hx.floor]
  · have hout := not_mem_drop_of_take ((hs.fits f).nodup_grantOrder rfl) hn
    rw [hclosed.other n (by rwa [hbeyond]), hspeaker n ((List.take_sublist _ _).subset hn)]
  · refine turnDone_freed (cancels := cancels) ?_
    rw [hclosed.seat n ((hbeyond n).mpr hn), hspeaker n ((List.drop_sublist _ _).subset hn)]
  · have hq : n ∈ (s.floor f).queue := (List.take_sublist _ _).subset hn
    have ho := (apart_of_queue hs hq).1
    have hlater := not_mem_drop_of_take ((hs.fits f).nodup_queue rfl) hn
    have hseat : t.seat n = q.seat n := by rw [hstays n ho, hE.other n (by rwa [hrest])]
    obtain ⟨⟨hst, hturn, hacc⟩, hrel⟩ := hg.grantedTurn hn
    rw [hx.floor] at hturn hrel
    unfold grantedTurn turnsOf at *
    rw [hseat, withSettings_floor, withSettings_seat]
    refine ⟨⟨hst, hturn, ?_⟩, hrel.trans (if_neg hm)⟩
    rw [hacc, hx.other n ho]
  · rw [hstays n hn, hE.other n (by rw [hrest]; exact fun h => hl ((List.drop_sublist _ _).subset h)),
      hg.other n (fun h => hl ((List.take_sublist _ _).subset h)), hx.other n hn]
  · rw [hclosed.floors d hd, hE.floors d hd, hg.floors d hd, hx.floors d hd]
  · rw [hclosed.floor, hE.floor]
  · have ho := (apart_of_queue hs ((List.drop_sublist _ _).subset hn)).1
    have hlater : n ∉ (s.floor f).queue.take free :=
      fun h => not_mem_drop_of_take ((hs.fits f).nodup_queue rfl) h hn
    have hseat : t.seat n = (s.seat n).toState .idle := by
      rw [hstays n ho, hE.seat n (by rwa [hrest]), hg.other n hlater, hx.other n ho]
    unfold turnsOf
    rw [hseat]
    exact ⟨rfl, rfl⟩

end

end Sys2Proof.Machine

namespace Sys2Proof.Machine

/-! ## FLOOR_SET to VOICE (02 R34, R41, R42) -/

namespace Closed

variable {f : Floor} {l l' : List Nat} {s t u : State}

theorem refl (f : Floor) (s : State) : Closed f [] s s :=
  ⟨by simp, fun _ _ => rfl, fun n hn => (by cases hn), fun _ _ => rfl, rfl⟩

theorem trans (h : Closed f l s t) (k : Closed f l' t u) (hd : ∀ n ∈ l', n ∉ l) : Closed f (l ++ l') s u where
  floor := by
    rw [k.floor, h.floor]
    simp only [List.filter_filter, FloorRec.mk.injEq, true_and, and_true]
    refine List.filter_congr (fun n _ => ?_)
    rw [Bool.eq_iff_iff]
    simp [and_comm]
  floors e he := (k.floors e he).trans (h.floors e he)
  seat n hn := by
    by_cases hl : n ∈ l'
    · rw [k.seat n hl, h.other n (hd n hl)]
    · rw [k.other n hl, h.seat n ((List.mem_append.mp hn).resolve_right hl)]
  other n hn := by
    rw [List.mem_append, not_or] at hn
    rw [k.other n hn.2, h.other n hn.1]
  still := k.still.trans h.still

theorem congr (h : Closed f l s t) (hl : ∀ n, n ∈ l' ↔ n ∈ l) : Closed f l' s t where
  floor := by simp only [h.floor, hl]
  floors := h.floors
  seat n hn := h.seat n ((hl n).mp hn)
  other n hn := h.other n (fun h' => hn ((hl n).mpr h'))
  still := h.still

end Closed

/-- The floor has its new settings; if it has changed to VOICE, its queue is empty and the counts of its speakers are 0. -/
structure Ready (f : Floor) (new : FloorSettings) (changed : Bool) (s y : State) : Prop where
  floor : y.floor f = { s.floor f with settings := new, queue := if changed then [] else (s.floor f).queue }
  floors : ∀ e, e ≠ f → y.floor e = s.floor e
  order : ∀ n ∈ (s.floor f).grantOrder,
    y.seat n = { s.seat n with release := if changed then some 0 else (s.seat n).release }
  queue : ∀ n ∈ (if changed then (s.floor f).queue else []), y.seat n = (s.seat n).toState .idle
  other : ∀ n, n ∉ (s.floor f).grantOrder → n ∉ (if changed then (s.floor f).queue else []) → y.seat n = s.seat n
  still : y.still = (s.withSettings f new).still
  seated : Seated true (some f) none y

section
variable {f : Floor} {s : State} (hs : Seated true none none s)
include hs

theorem ready_unchanged (new : FloorSettings) : Ready f new false s (s.withSettings f new) :=
  ⟨withSettings_floor f new s, fun _ he => State.floor_modFloor_ne he _ s, fun n _ => withSettings_seat f new n s,
    fun _ hn => (by cases hn), fun n _ _ => withSettings_seat f new n s, rfl, withSettings_seated hs new⟩

theorem ready_changed (new : FloorSettings) (cancels : Bool) :
    Ready f new true s (changeToVoice f (freed f cancels (s.withSettings f new))) := by
  have hu := withSettings_seated (f := f) hs new
  have h := changeToVoice_voiced (f := f) hu cancels
  have hfloor := withSettings_floor f new s
  refine ⟨?_, fun e he => ?_, fun n hn => ?_, fun n hn => ?_, fun n ho hq => ?_, h.still,
    converted_seated (freed_seated hu cancels) .voice⟩
  · rw [h.floor, hfloor]
    rfl
  · rw [h.floors e he, State.withSettings, State.floor_modFloor_ne he]
  · rw [h.order n (by rwa [hfloor]), withSettings_seat]
    rfl
  · rw [h.queue n (by rwa [hfloor]), withSettings_seat]
  · rw [h.other n (by rwa [hfloor]) (by rwa [hfloor]), withSettings_seat]

/-- What stands before the pass that ends a FLOOR_SET to VOICE, or one that leaves the floor in it. -/
theorem prepared_ready {new : FloorSettings} (hm : new.mode = .voice) :
    Ready f new ((s.floor f).settings.mode != new.mode) s
      (prepared f (s.floor f).settings.mode new.mode (s.withSettings f new)) := by
  by_cases h : (s.floor f).settings.mode = new.mode
  · rw [h, prepared_same, bne_self_eq_false]
    exact ready_unchanged hs new
  · rw [prepared_of_ne h, bne_iff_ne.mpr h, hm]
    exact ready_changed hs new _

end

/-- The speaker's count has reached a release time newly written (02 R21). -/
def State.runsOut (s : State) (f : Floor) (new : FloorSettings) (changed : Bool) (n : Nat) : Bool :=
  !changed && (s.floor f).settings.voiceRelease != new.voiceRelease && new.voiceRelease * 1000 ≤ (s.seat n).release.getD 0

/-- The speakers that a FLOOR_SET to VOICE leaves. -/
def State.keeps (s : State) (f : Floor) (new : FloorSettings) (changed : Bool) : List Nat :=
  ((s.floor f).grantOrder.take new.openMicLimit).filter (fun n => !s.runsOut f new changed n)

/-- The speakers that it closes. -/
def State.loses (s : State) (f : Floor) (new : FloorSettings) (changed : Bool) : List Nat :=
  (s.floor f).grantOrder.filter (fun n => !(s.keeps f new changed).contains n)

theorem mem_keeps {s : State} {f : Floor} {new : FloorSettings} {changed : Bool} {n : Nat} :
    n ∈ s.keeps f new changed ↔ n ∈ (s.floor f).grantOrder.take new.openMicLimit ∧ s.runsOut f new changed n = false := by
  simp [State.keeps]

theorem mem_loses {s : State} {f : Floor} {new : FloorSettings} {changed : Bool} {n : Nat} :
    n ∈ s.loses f new changed ↔ n ∈ (s.floor f).grantOrder ∧ n ∉ s.keeps f new changed := by
  simp [State.loses]

section
variable {f : Floor} {new : FloorSettings} {changed : Bool} {s y : State} (hs : Seated true none none s)
  (hy : Ready f new changed s y) (hm : new.mode = .voice) (hr : 1 ≤ new.voiceRelease)
include hs hy hm hr

/-- The closing of the tail and the judgement leave the kept speakers. -/
theorem judged_closed :
    Closed f (s.loses f new changed) y (judgeReleases f (s.floor f).settings new (closeOverLimit f y)) ∧
    ((judgeReleases f (s.floor f).settings new (closeOverLimit f y)).floor f).grantOrder = s.keeps f new changed ∧
    Seated true none none (judgeReleases f (s.floor f).settings new (closeOverLimit f y)) := by
  have hnd := (hs.fits f).nodup_grantOrder rfl
  obtain ⟨hclosed, horder⟩ := closeOverLimit_closed (f := f) hy.seated
  have hc := hy.seated.closeOverLimit
  have hsettings : ((closeOverLimit f y).floor f).settings = new := by
    rw [settings_of_still (hclosed.still.trans hy.still), withSettings_floor]
  rw [hy.floor] at horder
  dsimp only at horder
  have hbeyond (n : Nat) : n ∈ y.beyond f ↔ n ∈ (s.floor f).grantOrder.drop new.openMicLimit := by
    rw [State.beyond, List.mem_reverse, hy.floor]
  generalize closeOverLimit f y = c at *
  have hwithin (n : Nat) (hn : n ∈ (s.floor f).grantOrder.take new.openMicLimit) :
      c.seat n = { s.seat n with release := if changed then some 0 else (s.seat n).release } := by
    have hout := not_mem_drop_of_take hnd hn
    rw [hclosed.other n (by rwa [hbeyond]), hy.order n ((List.take_sublist _ _).subset hn)]
  obtain ⟨l, hl, hjudged, hseated⟩ : ∃ l, (∀ n, n ∈ l ↔ n ∈ (s.floor f).grantOrder.take new.openMicLimit ∧
      s.runsOut f new changed n = true) ∧ Closed f l c (judgeReleases f (s.floor f).settings new c) ∧
      Seated true none none (judgeReleases f (s.floor f).settings new c) := by
    unfold judgeReleases
    rw [hm, beq_self_eq_true, Bool.true_and]
    split
    · next hdiff =>
      obtain ⟨hcl, hse⟩ := releaseVoices_closed hc f
      refine ⟨_, fun n => ?_, hcl, hse⟩
      rw [mem_overdue hc, horder]
      refine and_congr_right fun hn => ?_
      unfold State.releaseOver State.runsOut
      rw [hwithin n hn, hsettings, hdiff]
      cases changed with
      | false => simp
      | true =>
        have hpos : ¬ new.voiceRelease * 1000 ≤ 0 := by omega
        simp [hpos]
    · next hdiff =>
      refine ⟨[], fun n => ?_, .refl f c, hc⟩
      unfold State.runsOut
      rw [Bool.eq_false_iff.mpr hdiff]
      simp
  have hboth : Closed f (s.loses f new changed) y (judgeReleases f (s.floor f).settings new c) := by
    refine (hclosed.trans hjudged (fun n hn => ?_)).congr (fun n => ?_)
    · rw [hbeyond]
      exact not_mem_drop_of_take hnd ((hl n).mp hn).1
    · rw [List.mem_append, hbeyond, hl, mem_loses, mem_keeps]
      constructor
      · rintro ⟨ho, hk⟩
        by_cases ht : n ∈ (s.floor f).grantOrder.take new.openMicLimit
        · exact Or.inr ⟨ht, by simpa [ht] using hk⟩
        · exact Or.inl (mem_drop_of_not_take ho ht)
      · rintro (hd | ⟨ht, hrun⟩)
        · exact ⟨(List.drop_sublist _ _).subset hd, fun hk => not_mem_drop_of_take hnd hk.1 hd⟩
        · exact ⟨(List.take_sublist _ _).subset ht, fun hk => by rw [hrun] at hk; cases hk.2⟩
  refine ⟨hboth, ?_, hseated⟩
  rw [hjudged.floor]
  dsimp only
  rw [horder]
  refine List.filter_congr (fun n hn => ?_)
  rw [Bool.eq_iff_iff, decide_eq_true_iff, hl]
  simp [hn]

end

/-- The floor before the pass, as the obligation says it: the closed speakers have their turns accounted, and the
dropped queue is IDLE. -/
def State.leavers (s : State) (gone dropped : List Nat) : State :=
  forAll gone (fun n => State.modSeat n (fun x => (x.toState .idle).accountTurn))
    (forAll dropped (fun n => State.modSeat n (SeatRec.toState .idle)) s)

/-- What those leavers are, seat by seat. -/
theorem leavers_spec {gone dropped : List Nat} {s : State} (hl : s.seats.length = 48) (hg : gone.Nodup)
    (hd : dropped.Nodup) (hgm : ∀ n ∈ gone, n ∈ allSeats) (hdm : ∀ n ∈ dropped, n ∈ allSeats)
    (hgd : ∀ n ∈ gone, n ∉ dropped) :
    (∀ n ∈ gone, (s.leavers gone dropped).seat n = (s.seat n).turnDone) ∧
    (∀ n ∈ dropped, (s.leavers gone dropped).seat n = (s.seat n).toState .idle) ∧
    (∀ n, n ∉ gone → n ∉ dropped → (s.leavers gone dropped).seat n = s.seat n) ∧
    (s.leavers gone dropped).still = s.still ∧ ∀ f, (s.leavers gone dropped).floor f = s.floor f := by
  have hlen : (forAll dropped (fun n => State.modSeat n (SeatRec.toState .idle)) s).seats.length = 48 :=
    (length_forAll_modSeat id (fun _ => SeatRec.toState .idle) dropped s).trans hl
  have bounds {n : Nat} (hn : n ∈ allSeats) : 1 ≤ n ∧ n ≤ 48 := by
    obtain ⟨h1, h2⟩ := List.mem_range'_1.mp hn
    exact ⟨h1, by omega⟩
  refine ⟨fun n hn => ?_, fun n hn => ?_, fun n hng hnd => ?_, ?_, fun f => ?_⟩
  · obtain ⟨h1, h2⟩ := bounds (hgm n hn)
    refine (seat_forAll_modSeat_of_named id (fun _ => SeatRec.turnDone) (by rwa [List.map_id]) hn _ h1
      (by rw [hlen]; exact h2)).trans ?_
    rw [id, seat_forAll_modSeat_not_mem (hgd n hn)]
  · obtain ⟨h1, h2⟩ := bounds (hdm n hn)
    refine (seat_forAll_modSeat_not_mem (fun h => hgd n h hn) (fun _ => SeatRec.turnDone) _).trans ?_
    exact seat_forAll_modSeat_of_named id (fun _ => SeatRec.toState .idle) (by rwa [List.map_id]) hn s h1
      (by rw [hl]; exact h2)
  · exact (seat_forAll_modSeat_not_mem hng (fun _ => SeatRec.turnDone) _).trans
      (seat_forAll_modSeat_not_mem hnd (fun _ => SeatRec.toState .idle) s)
  · exact (forAll_still (fun n t => modSeat_still n _ (by intros; rfl) t) gone _).trans
      (forAll_still (fun n t => modSeat_still n _ (by intros; rfl) t) dropped s)
  · exact (floor_forAll_modSeat gone (fun _ => SeatRec.turnDone) f _).trans
      (floor_forAll_modSeat dropped (fun _ => SeatRec.toState .idle) f s)

end Sys2Proof.Machine

namespace Sys2Proof.Machine

section
variable {f : Floor} {new : FloorSettings} {changed : Bool} {s y t : State} (hs : Seated true none none s)
  (hy : Ready f new changed s y) (hm : new.mode = .voice) (hin : new.inRange)
  (ht : t = grantPass f (judgeReleases f (s.floor f).settings new (closeOverLimit f y)))
include hs hy hm hin ht

/-- A FLOOR_SET to VOICE (02 R21, R34, R41, R42). -/
theorem voice_taken :
    let r := s.floor f
    let dropped := if changed then r.queue else []
    ((t.floor f).susp = r.susp ∧ (t.floor f).stack = r.stack ∧ ∀ n ∈ r.susp.map (·.seat), t.seat n = s.seat n) ∧
    (t.floor f).queue = (if changed then [] else r.queue) ∧
    (∀ n ∈ s.keeps f new changed,
      t.seat n = { s.seat n with release := if changed then some 0 else (s.seat n).release }) ∧
    (∀ n ∈ s.loses f new changed, turnsOf n true s t ∧ (n ∉ (t.floor f).grantOrder → (t.seat n).floorState = .idle)) ∧
    (∀ n ∈ dropped, turnsOf n false s t ∧ (n ∉ (t.floor f).grantOrder → (t.seat n).floorState = .idle)) ∧
    grantsVoices f (s.keeps f new changed) ((s.withSettings f new).leavers (s.loses f new changed) dropped) t ∧
    (∀ n, n ∉ r.queue → n ∉ r.grantOrder → n ∉ (t.floor f).grantOrder → t.seat n = s.seat n) ∧
    ∀ e, e ≠ f → t.floor e = s.floor e := by
  intro r dropped
  have hfits := hs.fits f
  obtain ⟨hclosed, horder, hseated⟩ := judged_closed hs hy hm hin.2.2.2.1.1
  have hstill := hclosed.still.trans hy.still
  generalize judgeReleases f (s.floor f).settings new (closeOverLimit f y) = j at *
  have hsettings : (j.floor f).settings = new := by rw [settings_of_still hstill, withSettings_floor]
  obtain ⟨g, hg, hcand, hgrants⟩ := grantPass_voice (f := f) hseated (by rw [hsettings, hm])
    (by unfold State.freeSlots; rw [hsettings]; exact (Nat.sub_le _ _).trans hin.1.2)
  rw [← ht] at hg hgrants
  have hdropped (n : Nat) (hn : n ∈ dropped) : n ∈ r.queue := by
    cases changed with
    | false => exact absurd hn List.not_mem_nil
    | true => exact hn
  have hlost (n : Nat) (hn : n ∈ s.loses f new changed) : n ∈ r.grantOrder := (mem_loses.mp hn).1
  have jkeeps (n : Nat) (hn : n ∈ s.keeps f new changed) :
      j.seat n = { s.seat n with release := if changed then some 0 else (s.seat n).release } := by
    rw [hclosed.other n (fun h => (mem_loses.mp h).2 hn), hy.order n ((List.take_sublist _ _).subset (mem_keeps.mp hn).1)]
  have jloses (n : Nat) (hn : n ∈ s.loses f new changed) :
      (j.seat n).floorState = .idle ∧ (j.seat n).accTurns = min 255 ((s.seat n).accTurns + 1) := by
    rw [hclosed.seat n hn, hy.order n (hlost n hn)]
    exact ⟨rfl, rfl⟩
  have jdropped (n : Nat) (hn : n ∈ dropped) : j.seat n = (s.seat n).toState .idle := by
    have ho := (apart_of_queue hs (hdropped n hn)).1
    rw [hclosed.other n (fun h => ho (hlost n h)), hy.queue n hn]
  have jother (n : Nat) (ho : n ∉ r.grantOrder) (hd : n ∉ dropped) : j.seat n = s.seat n := by
    rw [hclosed.other n (fun h => ho (hlost n h)), hy.other n ho hd]
  have hidle (n : Nat) (h : n ∉ (t.floor f).grantOrder) : t.seat n = j.seat n := by
    rw [hg.order, List.mem_append, not_or] at h
    exact hg.other n h.2
  have hturns (n : Nat) : (t.seat n).accTurns = (j.seat n).accTurns := by rw [ht, grantPass_accTurns]
  have hbusy (n : Nat) (h : (j.seat n).floorState ≠ .idle) : t.seat n = j.seat n :=
    hg.other n (not_mem_of_candidates hcand (Or.inl h))
  refine ⟨⟨?_, ?_, fun n hn => ?_⟩, ?_, fun n hn => ?_, fun n hn => ⟨?_, fun h => ?_⟩, fun n hn => ⟨?_, fun h => ?_⟩, ?_,
    fun n hq ho h => ?_, fun e he => ?_⟩
  · rw [hg.susp, hclosed.floor, hy.floor]
  · rw [hg.stack, hclosed.floor, hy.floor]
  · obtain ⟨hq, ho, hst⟩ := apart_of_susp hs hn
    have hj := jother n ho (fun h => hq (hdropped n h))
    rw [hbusy n (by rw [hj, hst]; decide), hj]
  · rw [hg.queue_of_candidates hseated hcand, hclosed.floor, hy.floor]
  · have hst := (apart_of_grantOrder hs ((List.take_sublist _ _).subset (mem_keeps.mp hn).1)).2.2
    have hj := jkeeps n hn
    rw [hbusy n (by rw [hj, hst]; decide), hj]
  · exact (hturns n).trans (jloses n hn).2
  · rw [hidle n h, (jloses n hn).1]
  · exact (hturns n).trans (by rw [jdropped n hn]; rfl)
  · rw [hidle n h, jdropped n hn]
    rfl
  · have hu := withSettings_seated (f := f) hs new
    obtain ⟨vloses, vdropped, vother, vstill, vfloor⟩ := leavers_spec (gone := s.loses f new changed) (dropped := dropped)
      (s := s.withSettings f new) hu.table ((hfits.nodup_grantOrder rfl).filter _)
      (by
        show List.Nodup (if changed then _ else _)
        split
        · exact hfits.nodup_queue rfl
        · exact .nil)
      (fun n hn => (hfits.owned n (mem_named_of_grantOrder (hlost n hn))).1)
      (fun n hn => (hfits.owned n (mem_named_of_queue (hdropped n hn))).1)
      (fun n hn hd => (apart_of_queue hs (hdropped n hd)).1 (hlost n hn))
    rw [horder] at hgrants
    refine grantsVoices_of (hstill.trans vstill.symm) ?_ (fun n _ _ => ?_) hgrants
    · rw [hclosed.floor, hy.floor, vfloor, withSettings_floor]
    · by_cases hl : n ∈ s.loses f new changed
      · rw [(jloses n hl).1, (jloses n hl).2, vloses n hl, withSettings_seat]
        exact ⟨Iff.rfl, rfl⟩
      · by_cases hd : n ∈ dropped
        · rw [jdropped n hd, vdropped n hd, withSettings_seat]
          exact ⟨Iff.rfl, rfl⟩
        · rw [vother n hl hd, withSettings_seat]
          by_cases ho : n ∈ r.grantOrder
          · rw [jkeeps n (by by_contra hk; exact hl (mem_loses.mpr ⟨ho, hk⟩))]
            exact ⟨Iff.rfl, rfl⟩
          · rw [jother n ho hd]
            exact ⟨Iff.rfl, rfl⟩
  · rw [hidle n h, jother n ho (fun hd => hq (hdropped n hd))]
  · rw [hg.floors e he, hclosed.floors e he, hy.floors e he]

end

end Sys2Proof.Machine

namespace Sys2Proof.Machine

/-! ## FLOOR_SET to CHAIR_ONLY (02 R41, R42) -/

/-- Seats of the suspension list have been given up. -/
structure GivenUp (f : Floor) (l : List Nat) (s t : State) : Prop where
  floor : t.floor f = { s.floor f with susp := (s.floor f).susp.filter (·.seat ∉ l) }
  floors : ∀ e, e ≠ f → t.floor e = s.floor e
  seat : ∀ n ∈ l, t.seat n = (s.seat n).turnDone
  other : ∀ n, n ∉ l → t.seat n = s.seat n
  still : t.still = s.still

theorem endSuspended_floor (n : Nat) (c : KeyCause) (e : Floor) (s : State) : (endSuspended n c none s).floor e =
    if e = s.seatFloor n then { s.floor e with susp := (s.floor e).susp.filter (·.seat != n) } else s.floor e := by
  rw [floor_of_core (endSuspended_core n c none s), State.floor_modSeat]
  split
  · next h => rw [h, State.floor_modFloor_same]
  · next h => rw [State.floor_modFloor_ne h]

theorem endSuspendeds_floor {f : Floor} (c : KeyCause) {l : List Nat} {s : State} (hl : ∀ n ∈ l, s.seatFloor n = f) :
    (forAll l (fun n => endSuspended n c none) s).floor f =
      { s.floor f with susp := (s.floor f).susp.filter (·.seat ∉ l) } ∧
    ∀ e, e ≠ f → (forAll l (fun n => endSuspended n c none) s).floor e = s.floor e := by
  induction l generalizing s with
  | nil => exact ⟨by simp [forAll], fun _ _ => rfl⟩
  | cons m l ih =>
    have hm := hl m List.mem_cons_self
    obtain ⟨hsame, hne⟩ := ih (s := endSuspended m c none s) (fun n hn =>
      (seatFloor_of_still (endSuspended_still m c none s) n).trans (hl n (List.mem_cons_of_mem m hn)))
    refine ⟨hsame.trans ?_, fun e he => (hne e he).trans ?_⟩
    · rw [endSuspended_floor, if_pos hm.symm]
      simp only [List.filter_filter, FloorRec.mk.injEq, true_and, and_true]
      refine List.filter_congr (fun x _ => ?_)
      rw [Bool.eq_iff_iff]
      simp [and_comm]
    · rw [endSuspended_floor, if_neg (by rw [hm]; exact he)]

theorem endSuspendeds_givenUp {f : Floor} (c : KeyCause) {l : List Nat} (hnd : l.Nodup) {s : State}
    (hl : ∀ n ∈ l, s.seatFloor n = f ∧ (s.seat n).floorState ≠ .idle) :
    GivenUp f l s (forAll l (fun n => endSuspended n c none) s) := by
  obtain ⟨hsame, hne⟩ := endSuspendeds_floor c (fun n hn => (hl n hn).1)
  exact ⟨hsame, hne, fun n hn => forAll_seat_of_mem (fun _ _ h => endSuspended_seat h c none)
      (fun _ _ t h => endSuspended_seat_ne h c none t) hnd hn (hl n hn).2,
    fun n hn => forAll_seat_of_not_mem (fun _ _ t h => endSuspended_seat_ne h c none t) hn s,
    forAll_still (fun n t => endSuspended_still n c none t) l s⟩

/-- A change to OPEN or CHAIR_ONLY ends in passes that grant nobody. -/
theorem applyFloorSet_of_quiet {f : Floor} {a : FloorSettingsArg} {s : State} {new : FloorSettings}
    (hnew : a.write (s.floor f).settings = new) (hm : new.mode = .openMic ∨ new.mode = .chairOnly) :
    applyFloorSet f a s = closeOverLimit f (prepared f (s.floor f).settings.mode new.mode (s.withSettings f new)) := by
  have quiet {t : State} (h : t.still = (s.withSettings f new).still) : grantPass f t = t := by
    refine grantPass_of_quiet ?_
    rw [settings_of_still h, withSettings_floor]
    exact hm
  have hv : new.mode ≠ .voice := by
    rintro hv
    rw [hv] at hm
    rcases hm with hm | hm <;> cases hm
  have hp := prepared_still f (s.floor f).settings.mode new.mode (s.withSettings f new)
  have hmode : changeMode f (s.floor f).settings.mode new.mode (s.withSettings f new) =
      prepared f (s.floor f).settings.mode new.mode (s.withSettings f new) := by
    rw [changeMode_eq, quiet hp, ite_self]
  rw [applyFloorSet_eq, hnew, hmode, judgeReleases_of_ne hv]
  exact quiet ((closes_still _ _ _).trans hp)

def State.chairs (s : State) (l : List Nat) : List Nat := l.filter (fun n => s.chairSeat n)

def State.commons (s : State) (l : List Nat) : List Nat := l.filter (fun n => !s.chairSeat n)

theorem mem_chairs {s : State} {l : List Nat} {n : Nat} : n ∈ s.chairs l ↔ n ∈ l ∧ s.chairSeat n = true := List.mem_filter

theorem mem_commons {s : State} {l : List Nat} {n : Nat} : n ∈ s.commons l ↔ n ∈ l ∧ s.chairSeat n = false := by
  simp [State.commons]

/-- The speakers and the suspended seats that are no chair seats have left. -/
structure Chaired (f : Floor) (new : FloorSettings) (cancels : Bool) (s y : State) : Prop where
  floor : y.floor f = { s.floor f with
    settings := new
    grantOrder := s.chairs (s.floor f).grantOrder
    susp := (s.floor f).susp.filter (fun e => s.chairSeat e.seat) }
  floors : ∀ e, e ≠ f → y.floor e = s.floor e
  stays : ∀ n ∈ s.chairs (s.floor f).grantOrder, y.seat n = (s.seat n).freed cancels
  closed : ∀ n ∈ s.commons (s.floor f).grantOrder, y.seat n = ((s.seat n).freed cancels).turnDone
  givenUp : ∀ n ∈ s.commons ((s.floor f).susp.map (·.seat)), y.seat n = (s.seat n).turnDone
  other : ∀ n, n ∉ (s.floor f).grantOrder → n ∉ s.commons ((s.floor f).susp.map (·.seat)) → y.seat n = s.seat n
  seated : Seated true (some f) none y

theorem without_commons (s : State) (l : List Nat) : l.filter (· ∉ s.commons l) = s.chairs l := by
  refine List.filter_congr (fun n hn => ?_)
  rw [Bool.eq_iff_iff, decide_eq_true_iff, mem_commons]
  simp [hn]

section
variable {f : Floor} {new : FloorSettings} {cancels : Bool} {s x : State} (hs : Seated true none none s)
  (hx : Cancelled f new cancels s x)
include hs hx

theorem changeToChairOnly_chaired : Chaired f new cancels s (changeToChairOnly f x) := by
  have hfits := hs.fits f
  have hchair : x.chairSeat = s.chairSeat := by
    funext n
    have hrole := congrFun (chairSeat_of_still hx.still) n
    rw [hrole]
    exact congrArg (fun r : SeatRec => r.role.isChair) (withSettings_seat f new n s)
  have hyeq : changeToChairOnly f x = forAll (s.commons ((s.floor f).susp.map (·.seat)))
      (fun n => endSuspended n .mode none) (forAll (s.commons (s.floor f).grantOrder) (fun n => close n .mode none) x) := by
    unfold State.commons
    rw [← hchair]
    unfold changeToChairOnly
    rw [hx.floor]
    rfl
  have horder : (x.floor f).grantOrder = (s.floor f).grantOrder := by rw [hx.floor]
  obtain ⟨hclosed, -⟩ := hx.seated.closes_closed (f := f) .mode (l := s.commons (s.floor f).grantOrder)
    ((hfits.nodup_grantOrder rfl).filter _) (fun n hn => by rw [horder]; exact (mem_commons.mp hn).1)
  have hsuspended (n : Nat) (hn : n ∈ s.commons ((s.floor f).susp.map (·.seat))) :
      n ∉ (s.floor f).grantOrder ∧ s.seatFloor n = f ∧ (s.seat n).floorState = .suspended := by
    have hn := (mem_commons.mp hn).1
    obtain ⟨-, ho, hst⟩ := apart_of_susp hs hn
    obtain ⟨e, he, rfl⟩ := List.mem_map.mp hn
    exact ⟨ho, (hfits.owned _ (mem_named_of_susp he)).2, hst⟩
  have hgiven := endSuspendeds_givenUp (f := f) .mode (l := s.commons ((s.floor f).susp.map SuspEntry.seat))
    ((hfits.nodup_susp rfl).filter _) (s := forAll (s.commons (s.floor f).grantOrder) (fun n => close n .mode none) x) (fun n hn => by
      obtain ⟨ho, hown, hst⟩ := hsuspended n hn
      rw [seatFloor_of_still (hclosed.still.trans hx.still), hclosed.other n (fun h => ho (mem_commons.mp h).1),
        hx.other n ho, hst]
      exact ⟨(seatFloor_modFloor _ _ n s).trans hown, by decide⟩)
  have hys := hx.seated.changeToChairOnly f
  rw [hyeq] at hys ⊢
  have hspeaker (n : Nat) (hn : n ∈ (s.floor f).grantOrder) : n ∉ s.commons ((s.floor f).susp.map (·.seat)) :=
    fun h => (hsuspended n h).1 hn
  refine ⟨?_, fun e he => ?_, fun n hn => ?_, fun n hn => ?_, fun n hn => ?_, fun n ho hn => ?_, hys⟩
  · rw [hgiven.floor, hclosed.floor, hx.floor]
    simp only [FloorRec.mk.injEq, true_and, and_true]
    refine ⟨without_commons s _, List.filter_congr (fun e he => ?_)⟩
    rw [Bool.eq_iff_iff, decide_eq_true_iff, mem_commons]
    simp [List.mem_map_of_mem (f := SuspEntry.seat) he]
  · rw [hgiven.floors e he, hclosed.floors e he, hx.floors e he]
  · obtain ⟨hn, hc⟩ := mem_chairs.mp hn
    rw [hgiven.other n (hspeaker n hn), hclosed.other n (fun h => by
      rw [(mem_commons.mp h).2] at hc
      cases hc), hx.seat n hn]
  · have ho := (mem_commons.mp hn).1
    rw [hgiven.other n (hspeaker n ho), hclosed.seat n hn, hx.seat n ho]
  · have ho := (hsuspended n hn).1
    rw [hgiven.seat n hn, hclosed.other n (fun h => ho (mem_commons.mp h).1), hx.other n ho]
  · rw [hgiven.other n hn, hclosed.other n (fun h => ho (mem_commons.mp h).1), hx.other n ho]

/-- The chair seats within the limit stay, the other speakers and the other suspended seats have left. -/
theorem chaired_taken :
    let r := s.floor f
    let t := closeOverLimit f (changeToChairOnly f x)
    (t.floor f).grantOrder = (s.chairs r.grantOrder).take new.openMicLimit ∧
    (t.floor f).susp = r.susp.filter (fun e => s.chairSeat e.seat) ∧ (t.floor f).queue = r.queue ∧
    (t.floor f).stack = r.stack ∧
    (∀ n ∈ (t.floor f).grantOrder, t.seat n = (s.seat n).freed cancels) ∧
    (∀ n ∈ r.grantOrder, n ∉ (t.floor f).grantOrder → t.seat n = ((s.seat n).freed cancels).turnDone) ∧
    (∀ n ∈ s.commons (r.susp.map (·.seat)), t.seat n = (s.seat n).turnDone) ∧
    (∀ n, n ∉ r.grantOrder → n ∉ s.commons (r.susp.map (·.seat)) → t.seat n = s.seat n) ∧
    ∀ e, e ≠ f → t.floor e = s.floor e := by
  intro r t
  have hy := changeToChairOnly_chaired hs hx
  have ht : t = closeOverLimit f (changeToChairOnly f x) := rfl
  generalize changeToChairOnly f x = y at *
  obtain ⟨hclosed, horder⟩ := closeOverLimit_closed (f := f) hy.seated
  rw [← ht] at hclosed horder
  clear_value t
  have hnd : (s.chairs r.grantOrder).Nodup := ((hs.fits f).nodup_grantOrder rfl).filter _
  rw [hy.floor] at horder
  dsimp only at horder
  have hbeyond (n : Nat) : n ∈ y.beyond f ↔ n ∈ (s.chairs r.grantOrder).drop new.openMicLimit := by
    rw [State.beyond, List.mem_reverse, hy.floor]
  have houtside (n : Nat) (hn : n ∉ r.grantOrder) : n ∉ y.beyond f := by
    rw [hbeyond]
    exact fun h => hn (mem_chairs.mp ((List.drop_sublist _ _).subset h)).1
  refine ⟨horder, ?_, ?_, ?_, fun n hn => ?_, fun n hn hout => ?_, fun n hn => ?_, fun n ho hn => ?_, fun e he => ?_⟩
  · rw [hclosed.floor, hy.floor]
  · rw [hclosed.floor, hy.floor]
  · rw [hclosed.floor, hy.floor]
  · rw [horder] at hn
    have hout := not_mem_drop_of_take hnd hn
    rw [hclosed.other n (by rwa [hbeyond]), hy.stays n ((List.take_sublist _ _).subset hn)]
  · rw [horder] at hout
    by_cases hc : n ∈ s.chairs r.grantOrder
    · rw [hclosed.seat n ((hbeyond n).mpr (mem_drop_of_not_take hc hout)), hy.stays n hc]
    · have hcommon : n ∈ s.commons r.grantOrder :=
        mem_commons.mpr ⟨hn, by simpa [mem_chairs, hn] using hc⟩
      rw [hclosed.other n (by rw [hbeyond]; exact fun h => hc ((List.drop_sublist _ _).subset h)), hy.closed n hcommon]
  · have ho := (apart_of_susp hs (mem_commons.mp hn).1).2.1
    rw [hclosed.other n (houtside n ho), hy.givenUp n hn]
  · rw [hclosed.other n (houtside n ho), hy.other n ho hn]
  · rw [hclosed.floors e he, hy.floors e he]

end

end Sys2Proof.Machine

namespace Sys2Proof.Machine

/-! ## FLOOR_SET, mode by mode -/

/-- What FLOOR_SET leaves: the seats off the floor's lists, and the other floor. -/
def confined (f : Floor) (s t : State) : Prop :=
  (∀ n, n ∉ (s.floor f).queue → n ∉ (s.floor f).grantOrder → n ∉ (s.floor f).susp.map (·.seat) →
    n ∉ (t.floor f).grantOrder → t.seat n = s.seat n) ∧ ∀ e, e ≠ f → t.floor e = s.floor e

theorem Taken.confined {f : Floor} {new : FloorSettings} {cancels : Bool} {given left : List Nat} {s t : State}
    (h : Taken f new cancels given left s t) (hl : ∀ n ∈ left, n ∈ (s.floor f).queue) : confined f s t := by
  refine ⟨fun n hq ho _ ht => h.other n ho (fun hg => ht ?_) (fun hm => hq (hl n hm)), h.floors⟩
  rw [h.order]
  exact List.mem_append_right _ hg

/-- The release counts are cancelled when the mode leaves VOICE. -/
def cancelsCounts (old new : FloorSettings) : Bool := old.mode != new.mode && old.mode == .voice

/-- The slots that a FLOOR_SET has for the queue. -/
def State.slotsUnder (s : State) (f : Floor) (new : FloorSettings) : Nat :=
  if (s.floor f).stack = [] then new.openMicLimit - (s.floor f).grantOrder.length else 0

section
variable {f : Floor} {s : State} {new : FloorSettings} (hs : Seated true none none s)
include hs

theorem prepared_cancelled (h : (s.floor f).settings.mode = new.mode ∨ new.mode = .request) :
    Cancelled f new (cancelsCounts (s.floor f).settings new) s
      (prepared f (s.floor f).settings.mode new.mode (s.withSettings f new)) := by
  by_cases hm : (s.floor f).settings.mode = new.mode
  · rw [cancelsCounts, hm, prepared_same, bne_self_eq_false]
    exact freed_cancelled hs new false
  · rw [cancelsCounts, bne_iff_ne.mpr hm, prepared_of_ne hm, h.resolve_left hm]
    exact freed_cancelled hs new ((s.floor f).settings.mode == .voice)

/-- A FLOOR_SET to REQUEST, or in it. -/
theorem run_of_request (hm : new.mode = .request) (hlimit : new.openMicLimit ≤ 8) :
    let given := if new.autoGrant then (s.floor f).queue.take (s.slotsUnder f new) else []
    Taken f new (cancelsCounts (s.floor f).settings new) given [] s (floorSetRun f new s) ∧
      ((floorSetRun f new s).floor f).queue = (s.floor f).queue.drop given.length ∧ ∀ n ∈ given, n ∈ (s.floor f).queue := by
  have hx := prepared_cancelled (f := f) (new := new) hs (Or.inr hm)
  obtain ⟨htaken, hseated, hstill, hqueue⟩ := limited_taken hs hx
  have hset : ((closeOverLimit f (prepared f (s.floor f).settings.mode new.mode (s.withSettings f new))).floor f).settings =
      new := by rw [settings_of_still hstill, withSettings_floor]
  have hrun : floorSetRun f new s = grantPass f
      (closeOverLimit f (prepared f (s.floor f).settings.mode new.mode (s.withSettings f new))) := by
    rw [floorSetRun, judgeReleases_of_ne (by rw [hm]; decide)]
  have hslots : (closeOverLimit f (prepared f (s.floor f).settings.mode new.mode (s.withSettings f new))).slots f =
      s.slotsUnder f new := by
    unfold State.slots State.freeSlots State.slotsUnder
    rw [htaken.stack, htaken.order, hset, List.append_nil, List.length_take]
    split <;> omega
  obtain ⟨hg, hq⟩ := grantPass_fills (f := f) hseated
    (by unfold State.freeSlots; rw [hset]; exact (Nat.sub_le _ _).trans hlimit) (by rw [hset]; exact hm)
  rw [hset, hqueue, hslots, ← hrun] at hg hq
  have hgiven : ∀ n ∈ (if new.autoGrant then (s.floor f).queue.take (s.slotsUnder f new) else []),
      n ∈ (s.floor f).queue := by
    intro n hn
    split at hn
    · exact (List.take_sublist _ _).subset hn
    · cases hn
  exact ⟨limited_granted hs (by rw [hm]; decide) hx hg hgiven, hq, hgiven⟩

/-- A FLOOR_SET that leaves the floor in its mode, before the pass that ends it. -/
theorem run_of_same (hsame : (s.floor f).settings.mode = new.mode) :
    Taken f new (cancelsCounts (s.floor f).settings new) [] [] s
        (closeOverLimit f (prepared f (s.floor f).settings.mode new.mode (s.withSettings f new))) ∧
      ((closeOverLimit f (prepared f (s.floor f).settings.mode new.mode (s.withSettings f new))).floor f).queue =
        (s.floor f).queue := by
  have hx := prepared_cancelled (f := f) (new := new) hs (Or.inl hsame)
  obtain ⟨htaken, -, -, hqueue⟩ := limited_taken hs hx
  exact ⟨htaken, hqueue⟩

/-- A change to OPEN. -/
theorem run_of_open (hne : (s.floor f).settings.mode ≠ new.mode) (hm : new.mode = .openMic) (hlimit : new.openMicLimit ≤ 8) :
    let t := closeOverLimit f (prepared f (s.floor f).settings.mode new.mode (s.withSettings f new))
    Taken f new (cancelsCounts (s.floor f).settings new) ((s.floor f).queue.take (s.slotsUnder f new)) (s.floor f).queue s t ∧
      (t.floor f).queue = [] ∧
      ∀ n ∈ (s.floor f).queue.drop (s.slotsUnder f new), (t.seat n).floorState = .idle ∧ turnsOf n false s t := by
  rw [cancelsCounts, bne_iff_ne.mpr hne, prepared_of_ne hne, hm]
  exact opened_taken hs (freed_cancelled hs new ((s.floor f).settings.mode == .voice)) (by rw [hm]; decide) hlimit

/-- What a change to CHAIR_ONLY leaves. -/
theorem run_of_chairOnly (hne : (s.floor f).settings.mode ≠ new.mode) (hm : new.mode = .chairOnly) :
    confined f s (closeOverLimit f (prepared f (s.floor f).settings.mode new.mode (s.withSettings f new))) := by
  rw [prepared_of_ne hne, hm]
  obtain ⟨-, -, -, -, -, -, -, hother, hfloors⟩ :=
    chaired_taken hs (freed_cancelled (f := f) hs new ((s.floor f).settings.mode == .voice))
  exact ⟨fun n _ ho hsusp _ => hother n ho (fun h => hsusp (mem_commons.mp h).1), hfloors⟩

end

section
variable {f : Floor} {s t : State} {new : FloorSettings} (hs : Seated true none none s)
include hs

theorem floorSetTaken_of_same (hsame : (s.floor f).settings.mode = new.mode)
    (hm : new.mode = .openMic ∨ new.mode = .chairOnly) (h : Taken f new (cancelsCounts (s.floor f).settings new) [] [] s t)
    (hq : (t.floor f).queue = (s.floor f).queue) : floorSetTaken f new s t := by
  obtain ⟨hspares, hfloors⟩ := h.confined (fun n hn => (by cases hn))
  refine ⟨fun _ hc => absurd hsame (bne_iff_ne.mp hc), fun hm' => ?_, fun _ _ => ⟨?_, h.beyond, ?_, hq, h.stays, ?_⟩,
    fun hm' => ?_, hspares, hfloors⟩
  · rw [hm'] at hm
    exact absurd hm (by decide)
  · exact h.standing hs (fun n hn => (by cases hn)) (fun n hn => (by cases hn))
  · rw [h.order, List.append_nil]
  · exact fun n hn => h.other n (apart_of_queue hs hn).1 (by simp) (by simp)
  · rw [hm'] at hm
    exact absurd hm (by decide)

theorem floorSetTaken_of_request (hm : new.mode = .request) (hlimit : new.openMicLimit ≤ 8)
    (ht : t = floorSetRun f new s) : floorSetTaken f new s t := by
  obtain ⟨h, hq, hgiven⟩ := run_of_request hs hm hlimit
  rw [← ht] at h hq
  obtain ⟨hspares, hfloors⟩ := h.confined (fun n hn => (by cases hn))
  have hrest := (hs.fits f).nodup_queue rfl
  refine ⟨fun hm' => ?_, fun _ => ⟨h.standing hs hgiven (fun n hn => (by cases hn)), h.beyond, h.order, hq, h.stays, h.granted,
    fun n hn => ?_⟩, fun hm' => ?_, fun hm' => ?_, hspares, hfloors⟩
  · rw [hm] at hm'
    cases hm'
  · have hmem := (List.drop_sublist _ _).subset hn
    refine h.other n (apart_of_queue hs hmem).1 (fun hg => ?_) (by simp)
    split at hn
    · next ha =>
      rw [if_pos ha] at hg
      rw [List.length_take] at hn
      have htake : n ∈ (s.floor f).queue.take (min (s.slotsUnder f new) (s.floor f).queue.length) := by
        rwa [List.take_eq_take_min] at hg
      exact not_mem_drop_of_take hrest htake hn
    · next ha =>
      rw [if_neg ha] at hg
      cases hg
  · rw [hm] at hm'
    exact absurd hm' (by decide)
  · rw [hm] at hm'
    cases hm'

theorem floorSetTaken_of_open (hne : (s.floor f).settings.mode ≠ new.mode) (hm : new.mode = .openMic)
    (hlimit : new.openMicLimit ≤ 8)
    (ht : t = closeOverLimit f (prepared f (s.floor f).settings.mode new.mode (s.withSettings f new))) :
    floorSetTaken f new s t := by
  obtain ⟨h, hq, hrest⟩ := run_of_open hs hne hm hlimit
  rw [← ht] at h hq hrest
  obtain ⟨hspares, hfloors⟩ := h.confined (fun _ => id)
  refine ⟨fun _ _ => ⟨h.standing hs (fun n hn => (List.take_sublist _ _).subset hn) (fun _ => id), h.beyond, h.order, hq,
    h.stays, h.granted, hrest⟩, fun hm' => ?_, fun _ hc => ?_, fun hm' => ?_, hspares, hfloors⟩
  · rw [hm] at hm'
    cases hm'
  · exact absurd (bne_eq_false_iff_eq.mp hc) hne
  · rw [hm] at hm'
    cases hm'

theorem floorSetTaken_of_chairOnly (hne : (s.floor f).settings.mode ≠ new.mode) (hm : new.mode = .chairOnly)
    (ht : t = closeOverLimit f (prepared f (s.floor f).settings.mode new.mode (s.withSettings f new))) :
    floorSetTaken f new s t := by
  have hconf := run_of_chairOnly hs hne hm
  rw [← ht] at hconf
  obtain ⟨hspares, hfloors⟩ := hconf
  refine ⟨fun hm' => ?_, fun hm' => ?_, fun _ hc => ?_, fun hm' => ?_, hspares, hfloors⟩
  · rw [hm] at hm'
    cases hm'
  · rw [hm] at hm'
    cases hm'
  · exact absurd (bne_eq_false_iff_eq.mp hc) hne
  · rw [hm] at hm'
    cases hm'

theorem floorSetTaken_of_voice (hm : new.mode = .voice) (hin : new.inRange) (ht : t = floorSetRun f new s) :
    floorSetTaken f new s t := by
  obtain ⟨hstanding, hq, hkeeps, hloses, hdropped, hgrants, hspares, hfloors⟩ :=
    voice_taken hs (prepared_ready (f := f) hs hm) hm hin ht
  refine ⟨fun hm' => ?_, fun hm' => ?_, fun hm' => ?_,
    fun _ => ⟨hstanding, hq, hkeeps, hloses, hdropped, hgrants⟩, fun n h1 h2 _ h3 => hspares n h1 h2 h3, hfloors⟩
  · rw [hm] at hm'
    cases hm'
  · rw [hm] at hm'
    cases hm'
  · rw [hm] at hm'
    exact absurd hm' (by decide)

end

/-- What an accepted FLOOR_SET makes of the seats of its floor. -/
theorem applyFloorSet_taken {f : Floor} {a : FloorSettingsArg} {s : State} {new : FloorSettings}
    (hnew : a.write (s.floor f).settings = new) (hs : Seated true none none s) (hin : SettingsInRange s) :
    floorSetTaken f new s (applyFloorSet f a s) := by
  have hrange := floorSettings_write_inRange a (((settingsInRange_iff s).mp hin).1 f).1
  rw [hnew] at hrange
  have hlimit : new.openMicLimit ≤ 8 := hrange.1.2
  have hrun := applyFloorSet_run hs hin f a
  rw [hnew] at hrun
  have hquiet := applyFloorSet_of_quiet (f := f) (a := a) (s := s) hnew
  have same (hsame : (s.floor f).settings.mode = new.mode) (hm : new.mode = .openMic ∨ new.mode = .chairOnly) :
      floorSetTaken f new s (applyFloorSet f a s) := by
    obtain ⟨h, hq⟩ := run_of_same hs hsame
    rw [← hquiet hm] at h hq
    exact floorSetTaken_of_same hs hsame hm h hq
  obtain hm | hm | hm | hm : new.mode = .openMic ∨ new.mode = .request ∨ new.mode = .chairOnly ∨ new.mode = .voice := by
    cases new.mode <;> simp
  · by_cases hsame : (s.floor f).settings.mode = new.mode
    · exact same hsame (Or.inl hm)
    · exact floorSetTaken_of_open hs hsame hm hlimit (hquiet (Or.inl hm))
  · exact floorSetTaken_of_request hs hm hlimit hrun
  · by_cases hsame : (s.floor f).settings.mode = new.mode
    · exact same hsame (Or.inr hm)
    · exact floorSetTaken_of_chairOnly hs hsame hm (hquiet (Or.inr hm))
  · exact floorSetTaken_of_voice hs hm hrange hrun

end Sys2Proof.Machine

namespace Sys2Proof.Machine

/-! ## A change of mode, whatever the settings are (02 R41, R42) -/

/-- A release time that has been written is at least a second. -/
theorem voiceRelease_pos {a : FloorSettingsArg} {o : FloorSettings} (h : o.voiceRelease ≠ (a.write o).voiceRelease) :
    1 ≤ (a.write o).voiceRelease := by
  have hmem : o.voiceRelease ≠ (a.write o).voiceRelease → 1 ≤ (a.write o).voiceRelease :=
    write_mem (p := fun n => o.voiceRelease ≠ n → 1 ≤ n) a.voiceRelease
      (fun n _ => (clampNat_mem (by decide) n).1) (fun h => absurd rfl h)
  exact hmem h

theorem judgeReleases_spares {f : Floor} {old new : FloorSettings} {lifted owing : Option Floor} {s : State}
    (hs : Seated true lifted owing s) (hset : (s.floor f).settings.voiceRelease = new.voiceRelease)
    (hpos : old.voiceRelease ≠ new.voiceRelease → 1 ≤ new.voiceRelease) {l r : List Nat}
    (horder : (s.floor f).grantOrder = l ++ r) (hl : ∀ n ∈ l, (s.seat n).release.getD 0 = 0) :
    Seated true lifted owing (judgeReleases f old new s) ∧ l <+: ((judgeReleases f old new s).floor f).grantOrder ∧
      (∀ n ∈ l, (judgeReleases f old new s).seat n = s.seat n) ∧
      ((judgeReleases f old new s).floor f).susp = (s.floor f).susp := by
  unfold judgeReleases
  split
  · next hc =>
    rw [Bool.and_eq_true, bne_iff_ne] at hc
    obtain ⟨hclosed, hseated⟩ := releaseVoices_closed hs f
    have hout (n : Nat) (hn : n ∈ l) : n ∉ s.overdue f := by
      intro h
      have ho := ((mem_overdue hs).mp h).2
      unfold State.releaseOver at ho
      rw [hl n hn, hset, decide_eq_true_iff] at ho
      have := hpos hc.2
      omega
    refine ⟨hseated, ?_, fun n hn => hclosed.other n (hout n hn), by rw [hclosed.floor]⟩
    rw [hclosed.floor]
    dsimp only
    rw [horder, List.filter_append, List.filter_eq_self.mpr (fun n hn => decide_eq_true (hout n hn))]
    exact List.prefix_append _ _
  · exact ⟨hs, by rw [horder]; exact List.prefix_append _ _, fun _ _ => rfl, rfl⟩

/-- The passes of a floor leave its speakers as they are. -/
theorem grantPass_speakers {f : Floor} {lifted owing : Option Floor} {s : State} (hs : Seated true lifted owing s) {n : Nat}
    (hn : n ∈ (s.floor f).grantOrder) : (grantPass f s).seat n = s.seat n := by
  obtain ⟨hq, -, hst⟩ := apart_of_grantOrder hs hn
  exact grantPass_spares_busy (by rw [State.standing, hst]; decide) hq

/-- A change to VOICE: the speakers within the limit go on with a release count of 0. -/
theorem voice_speakers {f : Floor} {a : FloorSettingsArg} {s : State} {new : FloorSettings}
    (hnew : a.write (s.floor f).settings = new) (hs : Seated true none none s)
    (hne : (s.floor f).settings.mode ≠ new.mode) (hm : new.mode = .voice) :
    let r := s.floor f
    let t := applyFloorSet f a s
    r.grantOrder.take new.openMicLimit <+: (t.floor f).grantOrder ∧
      (∀ n ∈ r.grantOrder.take new.openMicLimit, (t.seat n).floorState = .speaking ∧
        (t.seat n).turn = (s.seat n).turn ∧ (t.seat n).release = some 0) ∧ (t.floor f).susp = r.susp := by
  intro r t
  have hy := prepared_ready (f := f) (new := new) hs hm
  rw [bne_iff_ne.mpr hne] at hy
  have ht : t = grantPass f (judgeReleases f r.settings new (closeOverLimit f (grantPass f
      (prepared f r.settings.mode new.mode (s.withSettings f new))))) := by
    show applyFloorSet f a s = _
    rw [applyFloorSet_eq, hnew, changeMode_eq, if_neg hne]
  have hpos : r.settings.voiceRelease ≠ new.voiceRelease → 1 ≤ new.voiceRelease := by
    rw [← hnew]
    exact voiceRelease_pos
  generalize prepared f r.settings.mode new.mode (s.withSettings f new) = y at *
  clear_value t
  have hyo : (y.floor f).grantOrder = r.grantOrder := by rw [hy.floor]
  have hps := hy.seated.grantPass f
  have hpp := (grantPass_order f f y).1
  rw [hyo] at hpp
  have hpseat (n : Nat) (hn : n ∈ r.grantOrder) : (grantPass f y).seat n = { s.seat n with release := some 0 } := by
    rw [grantPass_speakers hy.seated (by rwa [hyo]), hy.order n hn]
    rfl
  have hpsusp : ((grantPass f y).floor f).susp = r.susp := by rw [grantPass_susp, hy.floor]
  have hpset : ((grantPass f y).floor f).settings = new := by
    rw [settings_of_still ((grantPass_still f y).trans hy.still), withSettings_floor]
  generalize grantPass f y = p at *
  obtain ⟨hclosed, horder⟩ := closeOverLimit_closed (f := f) hps
  rw [hpset] at horder
  have hcseat (n : Nat) (hn : n ∈ r.grantOrder.take new.openMicLimit) :
      (closeOverLimit f p).seat n = { s.seat n with release := some 0 } := by
    have hin : n ∈ (p.floor f).grantOrder.take new.openMicLimit := (hpp.take _).subset hn
    have hout := not_mem_drop_of_take ((hps.fits f).nodup_grantOrder rfl) hin
    rw [hclosed.other n (by rw [State.beyond, List.mem_reverse, hpset]; exact hout),
      hpseat n ((List.take_sublist _ _).subset hn)]
  obtain ⟨rest, hrest⟩ := hpp.take new.openMicLimit
  obtain ⟨hjs, hjp, hjseat, hjsusp⟩ := judgeReleases_spares (f := f) (old := r.settings) (new := new)
    hps.closeOverLimit (by rw [settings_of_still hclosed.still, hpset]) hpos
    (l := r.grantOrder.take new.openMicLimit) (r := rest) (by rw [horder, hrest])
    (fun n hn => by rw [hcseat n hn]; rfl)
  rw [ht]
  refine ⟨hjp.trans (grantPass_order f f _).1, fun n hn => ?_, ?_⟩
  · rw [grantPass_speakers hjs (hjp.subset hn), hjseat n hn, hcseat n hn]
    exact ⟨(apart_of_grantOrder hs ((List.take_sublist _ _).subset hn)).2.2, rfl, rfl⟩
  · rw [grantPass_susp, hjsusp, hclosed.floor, hpsusp]

/-- A change to CHAIR_ONLY: the seats that are no chair seats have left the floor. -/
theorem chairOnly_seats {f : Floor} {a : FloorSettingsArg} {s : State} {new : FloorSettings}
    (hnew : a.write (s.floor f).settings = new) (hs : Seated true none none s)
    (hne : (s.floor f).settings.mode ≠ new.mode) (hm : new.mode = .chairOnly) :
    let r := s.floor f
    let t := applyFloorSet f a s
    let chair (n : Nat) : Bool := (s.seat n).role.isChair
    (t.floor f).grantOrder = (r.grantOrder.filter chair).take new.openMicLimit ∧
      (t.floor f).susp = r.susp.filter (fun e => chair e.seat) ∧ (t.floor f).queue = r.queue ∧
      (t.floor f).stack = r.stack ∧
      ∀ n, n ∈ r.grantOrder ∨ n ∈ r.susp.map (·.seat) →
        if n ∈ (t.floor f).grantOrder then (t.seat n).floorState = .speaking ∧
          (t.seat n).turn = (s.seat n).turn ∧ turnsOf n false s t ∧
          (t.seat n).release = if r.settings.mode = .voice then none else (s.seat n).release
        else if n ∈ (t.floor f).susp.map (·.seat) then t.seat n = s.seat n
        else (t.seat n).floorState = .idle ∧ turnsOf n true s t := by
  intro r t chair
  have ht : t = closeOverLimit f (changeToChairOnly f (freed f (r.settings.mode == .voice) (s.withSettings f new))) := by
    show applyFloorSet f a s = _
    rw [applyFloorSet_of_quiet hnew (Or.inr hm), prepared_of_ne hne, hm]
    rfl
  obtain ⟨horder, hsusp, hqueue, hstack, hstays, hclosed, hgiven, hother, -⟩ :=
    chaired_taken hs (freed_cancelled (f := f) hs new (r.settings.mode == .voice))
  rw [← ht] at horder hsusp hqueue hstack hstays hclosed hgiven hother
  clear_value t
  refine ⟨horder, hsusp, hqueue, hstack, fun n hn => ?_⟩
  have hspeaks (h : n ∈ (t.floor f).grantOrder) : n ∈ r.grantOrder := by
    rw [horder] at h
    exact (mem_chairs.mp ((List.take_sublist _ _).subset h)).1
  have hsuspends (h : n ∈ (t.floor f).susp.map (·.seat)) : n ∈ r.susp.map (·.seat) ∧ s.chairSeat n = true := by
    rw [hsusp] at h
    obtain ⟨e, he, rfl⟩ := List.mem_map.mp h
    obtain ⟨he, hc⟩ := List.mem_filter.mp he
    exact ⟨List.mem_map_of_mem he, hc⟩
  split
  · next h =>
    unfold turnsOf
    rw [hstays n h]
    exact ⟨(apart_of_grantOrder hs (hspeaks h)).2.2, rfl, rfl, by simp [SeatRec.freed]⟩
  · next h =>
    split
    · next h' =>
      obtain ⟨hin, hc⟩ := hsuspends h'
      refine hother n (apart_of_susp hs hin).2.1 (fun hcom => ?_)
      rw [(mem_commons.mp hcom).2] at hc
      cases hc
    · next h' =>
      rcases hn with hn | hn
      · exact turnDone_freed (hclosed n hn h)
      · have hcom : n ∈ s.commons (r.susp.map (·.seat)) := by
          refine mem_commons.mpr ⟨hn, Bool.eq_false_iff.mpr (fun hc => h' ?_)⟩
          rw [hsusp]
          obtain ⟨e, he, rfl⟩ := List.mem_map.mp hn
          exact List.mem_map_of_mem (List.mem_filter.mpr ⟨he, hc⟩)
        unfold turnsOf
        rw [hgiven n hcom]
        exact ⟨rfl, rfl⟩

/-- Settles O7: the two passes of FLOOR_SET come to one, and each change of mode is told seat by seat. -/
theorem floorSetChangesTheSettings : Obligations.FloorSetChangesTheSettings := by
  intro h a s hr
  show ∃ t, finish s (handle h (.floorSet h (.fields a)) (.fields a) floorSet s) = .next t ∧ _
  have away (c : Code) (hc : floorSet a s = refusal c s) :=
    handle_refusal h (.floorSet h (.fields a)) a floorSet s c hr hc
  split
  · next hf => exact away .range (by simp [floorSet, hf])
  · next f hf =>
    split
    · next hbad => exact away .range (by unfold floorSet; rw [hf]; exact if_pos hbad)
    · next hbad =>
      split
      · next hrun => exact away .state (by unfold floorSet; rw [hf]; exact (if_neg hbad).trans (if_pos hrun))
      · next hrun =>
        have hstill := applyFloorSet_still f a.settings s
        obtain ⟨t, ht, hans, hc⟩ := handle_done h (.floorSet h (.fields a)) a floorSet s (applyFloorSet f a.settings s) hr
          (by unfold floorSet; rw [hf]; exact (if_neg hbad).trans (if_neg hrun))
          ((pending_of_still hstill).trans (State.modFloor_pending f _ s))
        have hsettings : ((applyFloorSet f a.settings s).floor f).settings = a.settings.write (s.floor f).settings := by
          rw [settings_of_still hstill, State.floor_modFloor_same]
        refine ⟨t, ht, hans, ?_, fun hl => ?_, fun hl hne hm => ?_, fun hl htab ho hne => ⟨fun hm => ?_, fun hm => ?_⟩,
          fun hl htab ho hin => ?_, (still_of_core hc).trans hstill⟩
        · rw [floor_of_core hc, hsettings]
        · rw [floor_of_core hc]
          exact applyFloorSet_limit hl f a.settings
        · rw [floor_of_core hc]
          exact applyFloorSet_queue hl f a.settings hne hm
        · simp only [floor_of_core hc, seat_of_core hc]
          exact voice_speakers rfl ((seated_iff true s).mpr ⟨htab.1, hl, fun _ => ho⟩) hne hm
        · simp only [turnsOf, floor_of_core hc, seat_of_core hc]
          exact chairOnly_seats rfl ((seated_iff true s).mpr ⟨htab.1, hl, fun _ => ho⟩) hne hm
        · simp only [floorSetTaken, grantsVoices, grantedTurn, turnsOf, floor_of_core hc, seat_of_core hc]
          exact applyFloorSet_taken rfl ((seated_iff true s).mpr ⟨htab.1, hl, fun _ => ho⟩) hin

end Sys2Proof.Machine

namespace Sys2Proof.Machine

/-! ## What the sending of frames leaves (09 R162, 10 R188) -/

/-- The hub beside its lanes, the console request unit and the screen director. -/
def State.besideLanes (s : State) : State :=
  { s with lane0 := State.reset.lane0, lane1 := State.reset.lane1, cru := State.reset.cru, sd := State.reset.sd }

theorem besideLanes_of_core {s t : State} (h : t.core = s.core) : t.besideLanes = s.besideLanes := by
  have read (u : State) : u.besideLanes = u.core.besideLanes := rfl
  rw [read, h, ← read]

theorem besideLanes_modLane (b : Branch) (k : Lane → Lane) (s : State) : (s.modLane b k).besideLanes = s.besideLanes := by
  cases b <;> rfl

theorem besideLanes_pushOut (b : Branch) (m : OutMsg) (s : State) : (pushOut b m s).besideLanes = s.besideLanes :=
  besideLanes_of_core (pushOut_core b m s)

theorem besideLanes_placeFrom (b : Branch) (src : Source) (s : State) : (placeFrom b src s).besideLanes = s.besideLanes := by
  cases src with
  | answer =>
    unfold placeFrom
    dsimp only
    split
    · exact besideLanes_pushOut b _ s
    · rfl
  | relay =>
    unfold placeFrom
    dsimp only
    split
    · exact besideLanes_pushOut b _ _
    · rfl
  | directive =>
    unfold placeFrom
    dsimp only
    split
    · split
      · exact (besideLanes_of_core (shown_core _ _)).trans (besideLanes_pushOut b _ _)
      · rfl
    · rfl
  | report =>
    unfold placeFrom
    dsimp only
    split
    · exact besideLanes_pushOut b _ s
    · rfl

theorem besideLanes_offerPlace (b : Branch) (s : State) : (offerPlace b s).besideLanes = s.besideLanes := by
  unfold offerPlace
  split
  · split
    · exact (besideLanes_modLane b _ _).trans (besideLanes_placeFrom b _ s)
    · rfl
  · rfl

theorem besideLanes_messageSent (b : Branch) (s : State) : (messageSent b s).besideLanes = s.besideLanes := by
  unfold messageSent
  split
  · rfl
  · dsimp only
    rw [besideLanes_offerPlace]
    split
    · exact besideLanes_modLane b _ s
    · exact besideLanes_modLane b _ s

theorem besideLanes_sendElement (b : Branch) (s : State) : (sendElement b s).besideLanes = s.besideLanes := by
  unfold sendElement
  split
  · rfl
  · split
    · exact besideLanes_messageSent b s
    · exact besideLanes_modLane b _ s

theorem besideLanes_offerTurn (b : Branch) (s : State) : (offerTurn b s).besideLanes = s.besideLanes := by
  unfold offerTurn
  dsimp only
  split
  · split
    · exact besideLanes_modLane b _ s
    · rfl
  · rfl

theorem besideLanes_br {s t : State} (h : t.besideLanes = s.besideLanes) (b : Branch) : t.br b = s.br b := by
  have read (u : State) : u.br b = u.besideLanes.br b := by cases b <;> rfl
  rw [read, h, ← read]

theorem besideLanes_modBr (b : Branch) (k : BranchRec → BranchRec) (s : State) :
    (s.modBr b k).besideLanes = s.besideLanes.modBr b k := by
  cases b <;> rfl

/-- The down-slots are read from beside the lanes. -/
theorem slotsFor_of_besideLanes {s t : State} (h : t.besideLanes = s.besideLanes) (b : Branch) :
    t.slotsFor b = s.slotsFor b := by
  have read (u : State) : u.slotsFor b = u.besideLanes.slotsFor b := rfl
  rw [read, h, ← read]

/-! ## The computation of a frame (05 R97, R103) -/

/-- The saturation counters after the outputs of a list. -/
def State.clipped (s : State) (l : List Nat) (x : List Nat) : List Nat :=
  l.foldl (fun x d => if s.outputRuns d && clips (s.mixValue d) then x.modify (d - 1) (fun n => sat16 (n + 1)) else x) x

theorem forAll_countClip (l : List Nat) (s : State) : forAll l countClip s = { s with satur := s.clipped l s.satur } := by
  induction l generalizing s with
  | nil => rfl
  | cons d l ih =>
    have step (u : State) (hu : ∃ x, u = { s with satur := x }) :
        forAll l countClip u = { s with satur := s.clipped l u.satur } := by
      obtain ⟨x, rfl⟩ := hu
      exact ih _
    show forAll l countClip (countClip d s) = _
    rw [step]
    · unfold State.clipped countClip
      rw [List.foldl_cons]
      split <;> rfl
    · unfold countClip
      split
      · exact ⟨_, rfl⟩
      · exact ⟨s.satur, rfl⟩

theorem compute_eq (b : Branch) (s : State) : compute b s = { s with
    latestA := (s.contributors .A, s.openCount .A)
    latestB := (s.contributors .B, s.openCount .B)
    satur := s.clipped (s.outputsOf b) s.satur } := by
  unfold compute
  rw [forAll_countClip]
  rfl

theorem getD_clipped {s : State} {l : List Nat} (hnd : l.Nodup) (hl : ∀ d ∈ l, 1 ≤ d) {x : List Nat} {c : Nat}
    (hc : 1 ≤ c) (hx : c ≤ x.length) : (s.clipped l x).getD (c - 1) 0 =
      if c ∈ l ∧ s.outputRuns c = true ∧ clips (s.mixValue c) = true then min (x.getD (c - 1) 0 + 1) 65535
      else x.getD (c - 1) 0 := by
  induction l generalizing x with
  | nil => simp [State.clipped]
  | cons d l ih =>
    obtain ⟨hd, hnd⟩ := List.nodup_cons.mp hnd
    have h1 := hl d List.mem_cons_self
    have hrest := ih hnd (fun e he => hl e (List.mem_cons_of_mem d he))
      (x := if s.outputRuns d && clips (s.mixValue d) then x.modify (d - 1) (fun n => sat16 (n + 1)) else x)
      (by split <;> simpa using hx)
    refine hrest.trans ?_
    by_cases hcd : c = d
    · subst hcd
      rw [if_neg (fun h => hd h.1)]
      by_cases hclip : s.outputRuns c = true ∧ clips (s.mixValue c) = true
      · rw [if_pos (by rw [hclip.1, hclip.2]; rfl), if_pos ⟨List.mem_cons_self, hclip⟩]
        have hlt : c - 1 < x.length := by omega
        simp [List.getD_eq_getElem?_getD, List.getElem?_modify_eq, List.getElem?_eq_getElem hlt, sat16]
      · rw [if_neg (by rwa [Bool.and_eq_true]), if_neg (fun h => hclip h.2)]
    · have hne : d - 1 ≠ c - 1 := by omega
      have hkept : (if s.outputRuns d && clips (s.mixValue d) then x.modify (d - 1) (fun n => sat16 (n + 1))
          else x).getD (c - 1) 0 = x.getD (c - 1) 0 := by
        split
        · simp only [List.getD_eq_getElem?_getD, List.getElem?_modify_ne _ _ hne]
        · rfl
      rw [hkept]
      simp only [List.mem_cons, hcd, false_or]

/-- What carries an output is bound there. -/
theorem outputAt_spec {s : State} {d : Binding} {c : Nat} (h : s.outputAt d = some c) :
    (1 ≤ c ∧ c ≤ 48 ∧ (s.seat c).binding = some d) ∨
      ∃ l, 1 ≤ l ∧ c = 48 + l ∧ (s.line l).binding = some d := by
  unfold State.outputAt at h
  rcases Option.or_eq_some_iff.mp h with h | ⟨-, h⟩
  · obtain ⟨hm, hb⟩ := seatAt_spec h
    obtain ⟨h1, h2⟩ := List.mem_range'_1.mp hm
    exact Or.inl ⟨h1, by omega, hb⟩
  · obtain ⟨l, hl, rfl⟩ := Option.map_eq_some_iff.mp h
    have hm := List.mem_of_find?_eq_some hl
    have hb : (s.line l).binding = some d := by simpa using List.find?_some hl
    exact Or.inr ⟨l, by simp at hm; omega, rfl, hb⟩

theorem outputsOf_nodup (s : State) (b : Branch) : (s.outputsOf b).Nodup := by
  refine List.Nodup.filterMap (fun p q c hp hq => ?_) List.nodup_range'
  have same : (⟨b, p⟩ : Binding) = ⟨b, q⟩ := by
    rcases outputAt_spec hp with ⟨-, h48, hpb⟩ | ⟨l, h1, rfl, hpb⟩
    · rcases outputAt_spec hq with ⟨-, -, hqb⟩ | ⟨m, hm, rfl, -⟩
      · exact Option.some.inj (hpb.symm.trans hqb)
      · omega
    · rcases outputAt_spec hq with ⟨-, h48, -⟩ | ⟨m, hm, heq, hqb⟩
      · omega
      · have hlm : l = m := by omega
        rw [← hlm] at hqb
        exact Option.some.inj (hpb.symm.trans hqb)
  exact congrArg Binding.position same

theorem outputsOf_pos (s : State) (b : Branch) : ∀ d ∈ s.outputsOf b, 1 ≤ d := by
  intro d hd
  obtain ⟨p, -, hp⟩ := List.mem_filterMap.mp hd
  rcases outputAt_spec hp with ⟨h, -⟩ | ⟨l, h, rfl, -⟩
  · exact h
  · omega

/-! ## Down-slots (09 R162, R173, R174) -/

theorem spoilCheck_ne (x : DownSlot) : (spoilCheck x).check ≠ x.check := by
  have hmask : (if Config.checkFlip = 0 then 1 else Config.checkFlip) ≠ (0 : Octet) := by
    split
    · decide
    · next h => exact h
  unfold spoilCheck
  dsimp only
  generalize (if Config.checkFlip = 0 then 1 else Config.checkFlip) = mask at *
  intro h
  refine hmask ?_
  calc mask = x.check ^^^ (x.check ^^^ mask) := by rw [← BitVec.xor_assoc, BitVec.xor_self, BitVec.zero_xor]
    _ = 0#8 := by rw [h, BitVec.xor_self]

theorem downSlot_check (x : Sample) (lamp : Lamp) (enable loop : Bool) : (downSlot x lamp enable loop).check =
    Fmt.crc8 (Fmt.sample (downSlot x lamp enable loop).sample ++
      [controlOctet (downSlot x lamp enable loop).lamp (downSlot x lamp enable loop).enable
        (downSlot x lamp enable loop).loop]) := rfl

theorem slotFor_check (s : State) (d : Binding) : (s.slotFor d).check =
    Fmt.crc8 (Fmt.sample (s.slotFor d).sample ++
      [controlOctet (s.slotFor d).lamp (s.slotFor d).enable (s.slotFor d).loop]) := by
  unfold State.slotFor
  split
  · exact downSlot_check _ _ _ _
  · dsimp only
    split
    · split
      · exact downSlot_check _ _ _ _
      · exact downSlot_check _ _ _ _
    · exact downSlot_check _ _ _ _

/-- What the down-slot of an output carries. -/
theorem slotFor_spec (s : State) (d : Binding) : match s.outputAt d with
    | none => (s.slotFor d).sample = 0 ∧ (s.slotFor d).lamp = .off ∧ (s.slotFor d).enable = false ∧
        (s.slotFor d).loop = false
    | some c => (s.slotFor d).lamp = (if c ≤ 48 then s.lamp c else .off) ∧
      match s.test.filter (·.seat = c) with
      | some y => (s.slotFor d).sample = (next16 y.gen).2 ∧ (s.slotFor d).enable = false ∧ (s.slotFor d).loop = true
      | none => (s.slotFor d).sample = (s.output c).1 ∧ (s.slotFor d).enable = (s.output c).2 ∧
          (s.slotFor d).loop = false := by
  unfold State.slotFor
  cases s.outputAt d with
  | none => exact ⟨rfl, rfl, rfl, rfl⟩
  | some c =>
    cases ht : s.test with
    | none => simp [downSlot, isSeatChan]
    | some y =>
      by_cases hy : y.seat = c
      · simp [hy, downSlot, isSeatChan, Option.filter]
      · simp [hy, downSlot, isSeatChan, Option.filter]

end Sys2Proof.Machine

namespace Sys2Proof.Machine

/-! ## DOWN_FRAME in each branch state (09 R162 to R164) -/

theorem offerTurn_lane (b : Branch) (s : State) : ∃ turn, (offerTurn b s).lane b = { s.lane b with turn := turn } := by
  unfold offerTurn
  dsimp only
  split
  · split
    · exact ⟨_, lane_modLane_same b _ s⟩
    · exact ⟨_, rfl⟩
  · exact ⟨_, rfl⟩

/-- The turn is offered by the lane and the table of the branch. -/
theorem offerTurn_lane_congr {b : Branch} {s t : State} (hl : t.lane b = s.lane b) (hb : t.br b = s.br b) :
    (offerTurn b t).lane b = (offerTurn b s).lane b := by
  unfold offerTurn State.nextAsking
  rw [hl, hb]
  dsimp only
  split
  · split
    · rw [lane_modLane_same, lane_modLane_same, hl]
    · exact hl
  · exact hl

/-- The lane items of a frame. -/
theorem laneFrame_items {b : Branch} {s c : State} (hl : c.lane b = s.lane b) (hb : c.br b = s.br b) (kind : FrameKind)
    (slots : List DownSlot) : (offerTurn b c).laneFrame b kind slots =
      ⟨kind, decide (4 ≤ (s.lane b).places.length), (s.lane b).nextElement, ((offerTurn b s).lane b).turn.octet, none,
        slots⟩ := by
  obtain ⟨turn, hturn⟩ := offerTurn_lane b s
  have hhold : (s.lane b).hold = decide (4 ≤ (s.lane b).places.length) := by
    unfold Lane.hold Lane.placeFree
    rw [Bool.eq_iff_iff]
    simp
  unfold State.laneFrame
  rw [offerTurn_lane_congr hl hb, hturn, ← hhold]
  rfl

theorem compute_lane (a b : Branch) (s : State) : (compute b s).lane a = s.lane a := by
  rw [compute_eq]
  cases a <;> rfl

theorem compute_br (a b : Branch) (s : State) : (compute b s).br a = s.br a := by
  rw [compute_eq]
  cases a <;> rfl

theorem compute_slotsFor (b : Branch) (s : State) : (compute b s).slotsFor b = s.slotsFor b := by
  rw [compute_eq]
  rfl

theorem modBr_eq_self {b : Branch} {k : BranchRec → BranchRec} {s : State} (h : k (s.br b) = s.br b) : s.modBr b k = s := by
  cases b with
  | b0 => exact congrArg (fun r => { s with br0 := r }) h
  | b1 => exact congrArg (fun r => { s with br1 := r }) h

theorem answerInsertion_besideLanes (b : Branch) (s : State) :
    (answerInsertion b s).besideLanes = (s.modBr b (fun r => { r with insertion := none })).besideLanes := by
  unfold answerInsertion
  split
  · next h => rw [modBr_eq_self (k := fun r => { r with insertion := none }) (by rw [← h])]
  · exact (besideLanes_of_core (answer_core _ _ _ _)).trans rfl

/-- The insertion of a frame that has been sent is answered. -/
theorem answerInsertion_answers {b : Branch} {s : State} {p : Nat} {h : Head} (hi : (s.br b).insertion = some (p, h)) :
    (answerInsertion b s).answers h .ok [] ∧ (answerInsertion b s).cru.phase = .idle := by
  unfold answerInsertion
  rw [hi]
  exact ⟨answer_answers _ _ _ _, phase_of_core (answer_core _ _ _ _)⟩

/-- The frame of a branch that carries a lane. -/
def State.carryingFrame (s : State) (b : Branch) (kind : FrameKind) (slots : List DownSlot) : DownFrame :=
  ⟨kind, decide (4 ≤ (s.lane b).places.length), (s.lane b).nextElement, ((offerTurn b s).lane b).turn.octet, none, slots⟩

theorem sendFrame_besideLanes {b : Branch} {s c : State} (h : c.besideLanes = s.besideLanes) (f : DownFrame) :
    (sendFrame b f c).besideLanes = (sendFrame b f s).besideLanes := by
  unfold sendFrame
  rw [besideLanes_modBr, besideLanes_modBr, h]

theorem sendBeacon_besideLanes (b : Branch) (s : State) : (sendBeacon b (compute b s)).besideLanes =
    (sendFrame b (s.carryingFrame b .beacon []) (compute b s)).besideLanes := by
  have hframe : (offerTurn b (compute b s)).laneFrame b .beacon [] = s.carryingFrame b .beacon [] :=
    laneFrame_items (compute_lane b b s) (compute_br b b s) .beacon []
  unfold sendBeacon
  dsimp only
  rw [besideLanes_sendElement, hframe]
  exact sendFrame_besideLanes (besideLanes_offerTurn b _) _

theorem sendRunning_besideLanes (b : Branch) (s : State) : (sendRunning b (compute b s)).besideLanes =
    ((advanceTest b (sendFrame b (s.carryingFrame b .running (s.slotsFor b)) (compute b s))).modBr b
      (fun r => { r with insertion := none })).besideLanes := by
  have hframe : (offerTurn b (compute b s)).laneFrame b .running ((offerTurn b (compute b s)).slotsFor b) =
      s.carryingFrame b .running (s.slotsFor b) := by
    rw [slotsFor_of_besideLanes (besideLanes_offerTurn b _), compute_slotsFor]
    exact laneFrame_items (compute_lane b b s) (compute_br b b s) .running _
  have advance (u v : State) (h : u.besideLanes = v.besideLanes) :
      (advanceTest b u).besideLanes = (advanceTest b v).besideLanes :=
    congrArg (fun w : State => advanceTest b w) h
  unfold sendRunning
  dsimp only
  rw [answerInsertion_besideLanes, besideLanes_modBr, besideLanes_sendElement, hframe, besideLanes_modBr]
  exact congrArg _ (advance _ _ (sendFrame_besideLanes (besideLanes_offerTurn b _) _))

/-- What a down-frame has taken and clamped, whatever the frame carries. -/
theorem sendDown_computes (b : Branch) (s : State) : (sendDown b s).latestA = (compute b s).latestA ∧
    (sendDown b s).latestB = (compute b s).latestB ∧ (sendDown b s).satur = (compute b s).satur ∧
    (sendDown b s).pending = s.pending := by
  have hpending : (compute b s).pending = s.pending := by rw [compute_eq]
  have of {t u : State} (h : t.besideLanes = u.besideLanes) (hu : u.latestA = (compute b s).latestA ∧
      u.latestB = (compute b s).latestB ∧ u.satur = (compute b s).satur ∧ u.pending = s.pending) :
      t.latestA = (compute b s).latestA ∧ t.latestB = (compute b s).latestB ∧ t.satur = (compute b s).satur ∧
        t.pending = s.pending :=
    ⟨(congrArg State.latestA h :).trans hu.1, (congrArg State.latestB h :).trans hu.2.1,
      (congrArg State.satur h :).trans hu.2.2.1, (congrArg State.pending h :).trans hu.2.2.2⟩
  unfold sendDown
  split
  · simp [sendFrame, hpending]
  · simp [sendRoll, hpending]
  · exact of (sendRunning_besideLanes b s) (by simp [sendFrame, advanceTest, hpending])
  · exact of (sendBeacon_besideLanes b s) (by simp [sendFrame, hpending])

theorem exec_downFrame (b : Branch) (s : State) : exec (.downFrame b) s = .next (sendDown b s) :=
  finish_of_pending s _ (sendDown_computes b s).2.2.2

theorem slotsFor_get {s : State} {b : Branch} {p : Nat} {x : DownSlot} (hp : 1 ≤ p) (h : (s.slotsFor b)[p - 1]? = some x) :
    x = if (s.br b).insertion.map (·.1) = some p then spoilCheck (s.slotFor ⟨b, p⟩) else s.slotFor ⟨b, p⟩ := by
  unfold State.slotsFor at h
  rw [List.getElem?_map] at h
  obtain ⟨q, hq, rfl⟩ := Option.map_eq_some_iff.mp h
  have hqp : q = p := by
    obtain ⟨hlt, hget⟩ := List.getElem?_eq_some_iff.mp hq
    rw [List.getElem_range'] at hget
    omega
  subst hqp
  simp only [beq_iff_eq]

end Sys2Proof.Machine

namespace Sys2Proof.Machine

/-! ## The octets of a down-frame (12 R206) -/

/-- The lane flags, bit by bit. -/
theorem laneFlags_bits : ∀ hold element start : Bool,
    let flags : Octet := BitVec.ofNat 8 ((if hold then 128 else 0) + (if element then 64 else 0) + if start then 32 else 0)
    flags.getLsbD 7 = hold ∧ flags.getLsbD 6 = element ∧ flags.getLsbD 5 = start ∧ ∀ k < 5, flags.getLsbD k = false := by
  decide

theorem rollOctet_bits : ∀ restart : Bool, ∀ p ≤ 25,
    let x : Octet := BitVec.ofNat 8 ((if restart then 128 else 0) + p)
    x.getLsbD 7 = restart ∧ x.toNat % 128 = p := by
  decide

theorem controlOctet_bits : ∀ i ≤ 4, ∀ enable loop : Bool,
    let x : Octet := BitVec.ofNat 8 (i * 32 + (if enable then 16 else 0) + (if loop then 8 else 0))
    x.toNat / 32 = i ∧ x.getLsbD 4 = enable ∧ x.getLsbD 3 = loop ∧ x.toNat % 8 = 0 := by
  decide

theorem lamp_le (x : Lamp) : x.ctorIdx ≤ 4 := by
  cases x <;> decide

theorem downFrame_octets (d : DownFrame) : ∃ flags fourth : Octet,
    d.octets = [0x7E, (match d.kind with
      | .empty => 0
      | .running => 1
      | .roll => 2
      | .beacon => 3), flags, (d.element.map (·.1)).getD 0, fourth] ++ d.slots.flatMap DownSlot.octets ∧
    flags.getLsbD 7 = d.hold ∧ flags.getLsbD 6 = d.element.isSome ∧ flags.getLsbD 5 = (d.element.map (·.2)).getD false ∧
    (∀ k < 5, flags.getLsbD k = false) ∧
    match d.roll with
    | none => d.turn < 256 → fourth.toNat = d.turn
    | some (restart, p) => p ≤ 25 → fourth.getLsbD 7 = restart ∧ fourth.toNat % 128 = p := by
  have hlane : d.laneOctets = [BitVec.ofNat 8 ((if d.hold then 128 else 0) + (if d.element.isSome then 64 else 0) +
      if (d.element.map (·.2)).getD false then 32 else 0), (d.element.map (·.1)).getD 0] := by
    unfold DownFrame.laneOctets
    cases d.element with
    | none => rfl
    | some e => rfl
  have hkind : BitVec.ofNat 8 d.kind.ctorIdx = (match d.kind with
      | .empty => 0
      | .running => 1
      | .roll => 2
      | .beacon => 3 : Octet) := by
    cases d.kind <;> rfl
  obtain ⟨h7, h6, h5, h4⟩ := laneFlags_bits d.hold d.element.isSome ((d.element.map (·.2)).getD false)
  refine ⟨_, d.fourth, ?_, h7, h6, h5, h4, ?_⟩
  · rw [← hkind]
    unfold DownFrame.octets
    rw [hlane]
    rfl
  · unfold DownFrame.fourth
    cases d.roll with
    | none =>
      intro h
      exact (BitVec.toNat_ofNat _ _).trans (Nat.mod_eq_of_lt h)
    | some r => exact fun h => rollOctet_bits r.1 r.2 h

theorem downSlot_octets (x : DownSlot) : ∃ high low control : Octet,
    x.octets = [high, low, control, x.check] ∧ high ++ low = x.sample ∧ control.toNat / 32 = x.lamp.ctorIdx ∧
    control.getLsbD 4 = x.enable ∧ control.getLsbD 3 = x.loop ∧ control.toNat % 8 = 0 := by
  refine ⟨x.sample.extractLsb' 8 8, x.sample.extractLsb' 0 8, _, rfl, ?_, controlOctet_bits _ (lamp_le x.lamp) x.enable x.loop⟩
  rw [BitVec.extractLsb'_append_extractLsb'_eq_extractLsb' (by decide)]
  exact BitVec.extractLsb'_eq_self

/-! ## DOWN_FRAME -/

theorem besideLanes_facts {s t : State} (h : t.besideLanes = s.besideLanes) : t.seats = s.seats ∧ t.chans = s.chans ∧
    t.floorA = s.floorA ∧ t.floorB = s.floorB ∧ t.pwr = s.pwr ∧ t.test = s.test :=
  ⟨(congrArg State.seats h :), (congrArg State.chans h :), (congrArg State.floorA h :), (congrArg State.floorB h :),
    (congrArg State.pwr h :), (congrArg State.test h :)⟩

/-- The computation of a frame. -/
theorem sendDown_satur {b : Branch} {s : State} (h : TablesWhole s) {c : Nat} (hc : c ∈ allChans) :
    (sendDown b s).satur.getD (c - 1) 0 =
      if c ∈ s.outputsOf b ∧ s.outputRuns c = true ∧ clips (s.mixValue c) = true
      then min (s.satur.getD (c - 1) 0 + 1) 65535 else s.satur.getD (c - 1) 0 := by
  obtain ⟨h1, h2⟩ := List.mem_range'_1.mp hc
  have hlen : s.satur.length = 50 := h.2.2.2.1
  rw [(sendDown_computes b s).2.2.1, compute_eq]
  exact getD_clipped (outputsOf_nodup s b) (outputsOf_pos s b) h1 (by omega)

theorem modBr_congr {b : Branch} {k k' : BranchRec → BranchRec} {s : State} (h : k (s.br b) = k' (s.br b)) :
    s.modBr b k = s.modBr b k' := by
  cases b with
  | b0 => exact congrArg (fun r => { s with br0 := r }) h
  | b1 => exact congrArg (fun r => { s with br1 := r }) h

/-- A frame of a branch without a lane. -/
theorem compute_modBr (b : Branch) (k : BranchRec → BranchRec) (s : State) : (compute b s).modBr b k =
    { s.modBr b k with
      latestA := (compute b s).latestA, latestB := (compute b s).latestB, satur := (compute b s).satur } := by
  rw [compute_eq]
  cases b <;> rfl

/-- The record of a branch that has sent a ROLL frame. -/
def BranchRec.rolled (r : BranchRec) : BranchRec :=
  { r with
    lastDown := some ⟨.roll, false, none, 0, r.roll.map (fun x => (x.restart, x.position)), []⟩
    roll := r.roll.map (fun x => { x with restart := false }) }

theorem sendRoll_eq (b : Branch) (s : State) : sendRoll b s = s.modBr b BranchRec.rolled := by
  unfold sendRoll
  exact modBr_congr rfl

theorem sendDown_of_down {b : Branch} {s : State} (h : (s.br b).state = .down) :
    sendDown b s = sendFrame b emptyFrame (compute b s) := by
  unfold sendDown
  rw [h]

theorem sendDown_of_enumerating {b : Branch} {s : State} (h : (s.br b).state = .enumerating) :
    sendDown b s = sendRoll b (compute b s) := by
  unfold sendDown
  rw [h]

theorem sendDown_of_beacon {b : Branch} {s : State} (h : (s.br b).state = .beacon) :
    sendDown b s = sendBeacon b (compute b s) := by
  unfold sendDown
  rw [h]

theorem sendDown_of_running {b : Branch} {s : State} (h : (s.br b).state = .running) :
    sendDown b s = sendRunning b (compute b s) := by
  unfold sendDown
  rw [h]

/-- What a RUNNING frame leaves of the hub beside its lanes. -/
theorem sendRunning_facts (b : Branch) (s : State) :
    let t := sendRunning b (compute b s)
    (t.br b).lastDown = some (s.carryingFrame b .running (s.slotsFor b)) ∧ (t.br b).insertion = none ∧
    (t.br b).table = (s.br b).table ∧
    t.test = s.test.map (fun y => if y.branch = b then { y with gen := (next16 y.gen).1 } else y) ∧
    t.seats = s.seats ∧ t.chans = s.chans ∧ t.floorA = s.floorA ∧ t.floorB = s.floorB ∧ t.pwr = s.pwr := by
  intro t
  have h := sendRunning_besideLanes b s
  have hbr := besideLanes_br h b
  obtain ⟨hseats, hchans, hA, hB, hpwr, htest⟩ := besideLanes_facts h
  have hsent : ((advanceTest b (sendFrame b (s.carryingFrame b .running (s.slotsFor b)) (compute b s))).modBr b
      (fun r => { r with insertion := none })).br b = { s.br b with
        lastDown := some (s.carryingFrame b .running (s.slotsFor b)), insertion := none } := by
    rw [← compute_br b b s]
    cases b <;> rfl
  refine ⟨?_, ?_, ?_, htest.trans ?_, hseats.trans ?_, hchans.trans ?_, hA.trans ?_, hB.trans ?_, hpwr.trans ?_⟩
  · rw [hbr, hsent]
  · rw [hbr, hsent]
  · rw [hbr, hsent]
  · simp [advanceTest, sendFrame, compute_eq]
  · simp [advanceTest, sendFrame, compute_eq]
  · simp [advanceTest, sendFrame, compute_eq]
  · simp [advanceTest, sendFrame, compute_eq]
  · simp [advanceTest, sendFrame, compute_eq]
  · simp [advanceTest, sendFrame, compute_eq]

/-- The insertion that a RUNNING frame carries out is answered. -/
theorem sendRunning_answers {b : Branch} {s : State} {p : Nat} {h : Head} (hi : (s.br b).insertion = some (p, h)) :
    (sendRunning b (compute b s)).answers h .ok [] ∧ (sendRunning b (compute b s)).cru.phase = .idle := by
  unfold sendRunning
  refine answerInsertion_answers (p := p) ?_
  have hframe (f : DownFrame) (u : State) : ((advanceTest b (sendFrame b f u)).br b).insertion = (u.br b).insertion := by
    cases b <;> rfl
  rw [besideLanes_br (besideLanes_sendElement b _), hframe, besideLanes_br (besideLanes_offerTurn b _), compute_br, hi]

/-- Settles O44: the frame of each branch state over one computation, and the octets bit by bit. -/
theorem downFramesCarryTheSlots : Obligations.DownFramesCarryTheSlots := by
  refine ⟨fun b s => ⟨⟨_, exec_downFrame b s, ?_, ?_, fun h c => sendDown_satur h⟩, fun h => ⟨_, exec_downFrame b s, ?_⟩,
    fun h => ⟨_, exec_downFrame b s, ?_⟩, fun h => ⟨_, s.carryingFrame b .beacon [], exec_downFrame b s, ?_⟩,
    fun h _ => ⟨_, s.carryingFrame b .running (s.slotsFor b), exec_downFrame b s, ?_⟩⟩, downFrame_octets, downSlot_octets⟩
  · rw [(sendDown_computes b s).1, compute_eq]
  · rw [(sendDown_computes b s).2.1, compute_eq]
  · obtain ⟨hA, hB, hS, -⟩ := sendDown_computes b s
    rw [hA, hB, hS, sendDown_of_down h]
    exact compute_modBr b _ s
  · obtain ⟨hA, hB, hS, -⟩ := sendDown_computes b s
    rw [hA, hB, hS, sendDown_of_enumerating h]
    rw [sendRoll_eq]
    exact compute_modBr b BranchRec.rolled s
  · rw [sendDown_of_beacon h]
    refine ⟨?_, rfl, rfl, rfl, rfl, rfl, rfl⟩
    rw [besideLanes_br (sendBeacon_besideLanes b s) b]
    cases b <;> rfl
  · rw [sendDown_of_running h]
    obtain ⟨hlast, hins, htable, htest, hseats, hchans, hA, hB, hpwr⟩ := sendRunning_facts b s
    refine ⟨hlast, rfl, rfl, rfl, rfl, rfl, ?_, fun p x hp hx => ⟨?_, ?_⟩, hins, fun p h hi => sendRunning_answers hi,
      htest, hseats, hchans, hA, hB, hpwr, htable⟩
    · simp [State.carryingFrame, State.slotsFor]
    · have hx := slotsFor_get hp hx
      subst hx
      split
      · next hp =>
        simp only [hp, ne_eq, not_true_eq_false, iff_false]
        exact fun h => spoilCheck_ne _ (h.trans (slotFor_check s _).symm)
      · next hp => exact ⟨fun _ => hp, fun _ => slotFor_check s _⟩
    · have hsame : x.sample = (s.slotFor ⟨b, p⟩).sample ∧ x.lamp = (s.slotFor ⟨b, p⟩).lamp ∧
          x.enable = (s.slotFor ⟨b, p⟩).enable ∧ x.loop = (s.slotFor ⟨b, p⟩).loop := by
        rw [slotsFor_get hp hx]
        split <;> exact ⟨rfl, rfl, rfl, rfl⟩
      obtain ⟨hsample, hlamp, henable, hloop⟩ := hsame
      rw [hsample, hlamp, henable, hloop]
      exact slotFor_spec s ⟨b, p⟩

end Sys2Proof.Machine

namespace Sys2Proof.Machine

/-! ## Seats whose link is LOST (02 R24, 03 R48)

A seat that stands in no list and whose link is LOST is admitted by nothing: what other seats do leaves it IDLE. -/

structure Severed (n : Nat) (s : State) : Prop where
  off : ∀ f, n ∉ (s.floor f).named
  idle : (s.seat n).floorState = .idle
  link : s.seatLink n = .lost

theorem seatLink_of_still {s t : State} (h : t.still = s.still) (n : Nat) : t.seatLink n = s.seatLink n := by
  have hbind : (t.seat n).binding = (s.seat n).binding := (congrArg SeatRec.binding (seat_still h n) :)
  unfold State.seatLink
  rw [hbind]
  exact linkOf_of_branches (congrArg State.br0 h) (congrArg State.br1 h) _

theorem admission_of_lost {s : State} {n : Nat} (h : s.seatLink n = .lost) : s.admission n ≠ none := by
  unfold State.admission
  dsimp only
  rw [h]
  split
  · simp
  · split
    · simp
    · split
      · simp
      · split
        · simp
        · simp

theorem holdAdmission_of_lost {s : State} {n : Nat} (h : s.seatLink n = .lost) : s.holdAdmission n ≠ none := by
  unfold State.holdAdmission
  dsimp only
  rw [h]
  split
  · simp
  · split
    · simp
    · split
      · simp
      · split
        · simp
        · simp

/-! Operations on other seats pass by a seat. -/

section
variable {n m : Nat} (h : n ≠ m)
include h

theorem close_passesBy (c : KeyCause) (sub : Option SubCause) (s : State) : PassesBy n s (close m c sub s) := by
  refine (PassesBy.modFloor _ _ (fun r hr => ?_) s).trans ((PassesBy.modSeat h _ _).trans (.of_core (keyReport_core _ _ _ _ _)))
  simp only [FloorRec.mem_named, List.mem_filter] at hr ⊢
  tauto

theorem dequeue_passesBy (c : KeyCause) (sub : Option SubCause) (s : State) : PassesBy n s (dequeue m c sub s) :=
  (leaveQueue_passesBy n m s).trans ((PassesBy.modSeat h _ _).trans (.of_core (keyReport_core _ _ _ _ _)))

end

/-- A floor's record changes, and names no seat `n` that it did not. -/
theorem PassesBy.setFloor {n : Nat} {f : Floor} {g : FloorRec → FloorRec} {s : State}
    (h : n ∈ (g (s.floor f)).named → n ∈ (s.floor f).named) : PassesBy n s (s.modFloor f g) := by
  refine ⟨State.seat_modFloor f g n s, fun e he => ?_⟩
  by_cases hef : e = f
  · subst hef
    rw [State.floor_modFloor_same] at he
    exact h he
  · rwa [State.floor_modFloor_ne hef] at he

theorem forAll_passesBy {α : Type} {n : Nat} {op : α → State → State} {l : List α}
    (h : ∀ a ∈ l, ∀ s, PassesBy n s (op a s)) (s : State) : PassesBy n s (forAll l op s) := by
  induction l generalizing s with
  | nil => exact .refl n s
  | cons a l ih =>
    exact (h a List.mem_cons_self s).trans (ih (fun b hb => h b (List.mem_cons_of_mem a hb)) _)

namespace Severed

variable {n : Nat} {s t : State}

theorem step (h : Severed n s) (hp : PassesBy n s t) (ht : t.still = s.still) : Severed n t :=
  ⟨fun f hn => h.off f (hp.named f hn), by rw [hp.seat]; exact h.idle, (seatLink_of_still ht n).trans h.link⟩

theorem of_core (h : Severed n s) (ht : t.core = s.core) : Severed n t := h.step (.of_core ht) (still_of_core ht)

theorem modSeat (h : Severed n s) (m : Nat) {k : SeatRec → SeatRec} (hk : ∀ r, (k r).floorState = r.floorState)
    (hb : ∀ r, (k r).binding = r.binding) : Severed n (s.modSeat m k) := by
  refine ⟨fun f hn => ?_, (seat_modSeat_keeps SeatRec.floorState hk m n s).trans h.idle, ?_⟩
  · rw [State.floor_modSeat] at hn
    exact h.off f hn
  · unfold State.seatLink
    rw [seat_modSeat_keeps SeatRec.binding hb m n s]
    exact (linkOf_of_branches (State.modSeat_br0 m k s) (State.modSeat_br1 m k s) _).trans h.link

section
variable (h : Severed n s)
include h

theorem ungrantable (f : Floor) : Ungrantable n f s := ⟨h.off f, Or.inl (admission_of_lost h.link)⟩

theorem grantPass (f : Floor) : Severed n (grantPass f s) :=
  h.step (grantPass_passesBy (h.ungrantable f)) (grantPass_still f s)

theorem grant {m : Nat} (hm : n ≠ m) (c : KeyCause) : Severed n (grant m c s) :=
  h.step (grant_passesBy hm c s) (grant_still m c s)

theorem close {m : Nat} (hm : n ≠ m) (c : KeyCause) (sub : Option SubCause) : Severed n (close m c sub s) :=
  h.step (close_passesBy hm c sub s) (close_still m c sub s)

theorem refuse (m : Nat) (c : KeyCause) (why : Refused) : Severed n (refuse m c why s) :=
  (h.modSeat m (k := fun r => { r with refusal := some 0 }) (by intros; rfl) (by intros; rfl)).of_core
    (keyReport_core _ _ _ _ _)

/-- A seat that stands in a list is another. -/
theorem ne_of_busy {m : Nat} (hm : (s.seat m).floorState ≠ .idle) : n ≠ m := fun e => hm (e ▸ h.idle)

theorem ne_of_named {m : Nat} {f : Floor} (hm : m ∈ (s.floor f).named) : n ≠ m := fun e => h.off f (e ▸ hm)

theorem bump {m : Nat} (hm : n ≠ m) (f : Floor) : Severed n (bump m f s) := by
  unfold Machine.bump
  split
  · next k hk =>
    exact (h.close (h.ne_of_named (mem_named_of_grantOrder (List.mem_of_find?_eq_some hk))) .bump none).grant hm .key
  · exact h.refuse m .key .full

theorem requestQueued {m : Nat} (hm : n ≠ m) (f : Floor) : Severed n (requestQueued m f s) := by
  unfold Machine.requestQueued
  split
  · exact h.refuse m .key .queueFull
  · refine grantPass ?_ f
    refine h.step ((PassesBy.modFloor f _ (fun r hr => ?_) s).trans
      ((PassesBy.modSeat hm _ _).trans (.of_core (keyReport_core _ _ _ _ _)))) ?_
    · simp only [FloorRec.mem_named, List.mem_append, List.mem_singleton] at hr ⊢
      tauto
    · exact (keyReport_still _ _ _ _ _).trans ((toState_still _ _ _).trans (modFloor_still f _ (by intros; rfl) s))

/-- A request of a severed seat is refused, and one of another seat passes it by. -/
theorem request (m : Nat) : Severed n (request m s) := by
  unfold Machine.request
  dsimp only
  split
  · exact h.refuse m .key _
  · next hadm =>
    have hm : n ≠ m := fun e => admission_of_lost h.link (e ▸ hadm)
    split
    · unfold requestChair
      exact ite_preserves (Severed n) (fun _ => h.refuse m .key .hold)
        (fun _ => ite_preserves (Severed n) (fun _ => h.grant hm .key) (fun _ => h.bump hm _))
    · split
      · unfold requestOpen
        refine ite_preserves (Severed n) (fun _ => h.refuse m .key .hold)
          (fun _ => ite_preserves (Severed n) (fun _ => h.grant hm .key) (fun _ => ?_))
        split
        · exact h.refuse m .key .full
        · exact h.bump hm _
      · exact h.requestQueued hm _
      · exact h.requestQueued hm _
      · exact h.refuse m .key .mode

/-! ### Holds -/

theorem settle (f : Floor) : Severed n (settle f s) := h.step (settle_passesBy (h.ungrantable f)) (settle_still f s)

/-- The holder of a stack becomes IDLE and the stack loses it. -/
theorem releaseHolder {m : Nat} (hm : n ≠ m) {f : Floor} {l : List HoldEntry} (hl : l ⊆ (s.floor f).stack) :
    Severed n ((Machine.releaseHolder m s).modFloor f (fun r => { r with stack := l })) := by
  refine h.step ((PassesBy.modSeat hm _ s).trans (PassesBy.setFloor (fun hn => ?_))) ?_
  · rw [State.floor_modSeat] at hn ⊢
    simp only [FloorRec.mem_named, List.mem_map] at hn ⊢
    rcases hn with hn | hn | hn | ⟨e, he, hn⟩
    · exact Or.inl hn
    · exact Or.inr (Or.inl hn)
    · exact Or.inr (Or.inr (Or.inl hn))
    · exact Or.inr (Or.inr (Or.inr ⟨e, hl he, hn⟩))
  · exact (setStack_still f l _).trans (releaseHolder_still m s)

theorem endEntry (m : Nat) (why : EndReason) (f : Floor) : Severed n (endEntry m why f s) := by
  have holder {e : HoldEntry} (he : e ∈ (s.floor f).stack) : n ≠ e.holder := h.ne_of_named (mem_named_of_stack he)
  unfold Machine.endEntry
  split
  · exact h
  · next e hstack =>
    split
    · next he =>
      have hm : n ≠ m := (beq_iff_eq.mp he) ▸ holder (by rw [hstack]; exact List.mem_cons_self)
      exact (((h.releaseHolder hm (List.nil_subset _)).of_core (keyReport_core _ _ _ _ _)).of_core
        (endedReport_core _ _ _ _)).settle f
    · exact h
  · next e low rest hstack =>
    have hlow : low ∈ (s.floor f).stack := by rw [hstack]; simp
    have htop : e ∈ (s.floor f).stack := by rw [hstack]; simp
    split
    · next he =>
      have hm : n ≠ m := (beq_iff_eq.mp he) ▸ holder htop
      have hleft := (h.releaseHolder hm (f := f) (l := [low]) (by simpa using hlow)).of_core
          (keyReport_core m .priority none none _)
      have hpromoted := hleft.step (PassesBy.modSeat (holder hlow) (SeatRec.toState .priority) _) (toState_still _ _ _)
      exact ((hpromoted.of_core (keyReport_core _ _ _ _ _)).of_core (endedReport_core _ _ _ _)).of_core
        (priorityReport_core _ _ _ _ _ _ _)
    · split
      · next he =>
        have hm : n ≠ m := (beq_iff_eq.mp he) ▸ holder hlow
        exact ((h.releaseHolder hm (f := f) (l := [e]) (by simpa using htop)).of_core (keyReport_core _ _ _ _ _)).of_core
          (endedReport_core _ _ _ _)
      · exact h

theorem priorityRelease (m : Nat) : Severed n (priorityRelease m s) := by
  unfold Machine.priorityRelease
  dsimp only
  split
  · exact ite_preserves (Severed n) (fun _ => h) (fun _ => h.endEntry m .key _)
  · exact h

end

end Severed

end Sys2Proof.Machine

namespace Sys2Proof.Machine

/-! ## What an up-slot does to its entry (09 R167, R168, R170) -/

namespace NodeEntry

theorem health_good (e : NodeEntry) : e.health true =
    if e.link = .lost then { e with goodRun := min 1600 (e.goodRun + 1) } else { e with badRun := 0 } := by
  unfold health
  cases h : e.link <;> simp [h]

theorem health_bad (e : NodeEntry) : e.health false = { e with
    window := min (e.window + 1) 65535
    goodRun := 0
    badRun := if e.link = .lost then e.badRun else min 1600 (e.badRun + 1) } := by
  unfold health
  cases h : e.link <;> simp [sat16]

theorem takeSlot_good {running : Bool} {f : UpFrame} {e : NodeEntry} {y : UpSlot} (hy : slotAt f e.position = some y)
    (hg : slotGood running (slotAt f e.position) = true) :
    e.takeSlot running f = (if running then (e.health true).holdSample (some y) else e.health true).takeStatus (some y) := by
  unfold takeSlot goodSlot
  simp only [hy] at hg ⊢
  simp only [hg, if_true, Option.isSome_some]

theorem takeSlot_bad {running : Bool} {f : UpFrame} {e : NodeEntry} (hg : slotGood running
    (slotAt f e.position) = false) :
    e.takeSlot running f = if running then (e.health false).holdSample none else e.health false := by
  unfold takeSlot goodSlot
  simp only [hg, Bool.false_eq_true, if_false, Option.isSome_none]
  rfl

/-- The link-health step and the status leave the sample as it was; the sample's step sees to it alone. -/
theorem health_sample (good : Bool) (e : NodeEntry) : (e.health good).current = e.current ∧
    (e.health good).held = e.held ∧ (e.health good).badSamples = e.badSamples := by
  cases good with
  | true => rw [health_good]; split <;> exact ⟨rfl, rfl, rfl⟩
  | false => rw [health_bad]; exact ⟨rfl, rfl, rfl⟩

theorem takeSlot_keeps (running : Bool) (f : UpFrame) (e : NodeEntry) :
    let x := e.takeSlot running f
    x.position = e.position ∧ x.kind = e.kind ∧ x.serial = e.serial ∧ x.link = e.link := by
  have healthy (good : Bool) : (e.health good).position = e.position ∧ (e.health good).kind = e.kind ∧
      (e.health good).serial = e.serial ∧ (e.health good).link = e.link := by
    cases good with
    | true => rw [health_good]; split <;> exact ⟨rfl, rfl, rfl, rfl⟩
    | false => rw [health_bad]; exact ⟨rfl, rfl, rfl, rfl⟩
  unfold takeSlot
  dsimp only
  cases goodSlot running (slotAt f e.position) with
  | none => cases running <;> exact healthy false
  | some y => cases running <;> exact healthy true

/-- What a good slot leaves and gives. -/
theorem takeSlot_of_good {running : Bool} {f : UpFrame} {e : NodeEntry} (hg : slotGood running
    (slotAt f e.position) = true) :
    let x := e.takeSlot running f
    x.window = e.window ∧ (e.link ≠ .lost → x.badRun = 0 ∧ x.goodRun = e.goodRun) ∧
    (e.link = .lost → x.goodRun = min 1600 (e.goodRun + 1) ∧ x.badRun = e.badRun) ∧
    (∀ y, slotAt f e.position = some y →
      x.status = some (y.status, y.wall) ∧ x.waiting = y.status.getLsbD 4 ∧ x.fault = y.status.getLsbD 2 ∧
      (running = true → x.current = y.sampleHigh ++ y.sampleLow ∧ x.held = x.current ∧ x.badSamples = 0)) ∧
    (running = false → x.current = e.current ∧ x.held = e.held ∧ x.badSamples = e.badSamples) := by
  obtain ⟨y, hy⟩ : ∃ y, slotAt f e.position = some y := by
    cases hs : slotAt f e.position with
    | none => rw [hs] at hg; cases hg
    | some y => exact ⟨y, rfl⟩
  obtain ⟨hcur, hheld, hbad⟩ := health_sample true e
  have runs : (e.health true).window = e.window ∧
      (e.link ≠ .lost → (e.health true).badRun = 0 ∧ (e.health true).goodRun = e.goodRun) ∧
      (e.link = .lost → (e.health true).goodRun = min 1600 (e.goodRun + 1) ∧ (e.health true).badRun = e.badRun) := by
    rw [health_good]
    by_cases hl : e.link = .lost
    · simp [hl]
    · simp [hl]
  rw [takeSlot_good hy hg, hy]
  cases running with
  | true =>
    refine ⟨runs.1, runs.2.1, runs.2.2, fun z hz => ?_, fun h => (by cases h)⟩
    obtain rfl := Option.some.inj hz
    exact ⟨rfl, rfl, rfl, fun _ => ⟨rfl, rfl, rfl⟩⟩
  | false =>
    refine ⟨runs.1, runs.2.1, runs.2.2, fun z hz => ?_, fun _ => ⟨hcur, hheld, hbad⟩⟩
    obtain rfl := Option.some.inj hz
    exact ⟨rfl, rfl, rfl, fun h => (by cases h)⟩

/-- What a bad slot counts, and the sample that stands for its own (09 R170). -/
theorem takeSlot_of_bad {running : Bool} {f : UpFrame} {e : NodeEntry} (hg : slotGood running
    (slotAt f e.position) = false) :
    let x := e.takeSlot running f
    x.window = min (e.window + 1) 65535 ∧ x.goodRun = 0 ∧ (e.link ≠ .lost → x.badRun = min 1600 (e.badRun + 1)) ∧
    x.status = e.status ∧ x.waiting = e.waiting ∧ x.fault = e.fault ∧
    (running = true → x.badSamples = min 17 (e.badSamples + 1) ∧ x.held = e.held ∧
      x.current = if e.badSamples < 16 then e.held else 0) ∧
    (running = false → x.current = e.current ∧ x.held = e.held ∧ x.badSamples = e.badSamples) := by
  dsimp only
  rw [takeSlot_bad hg, health_bad]
  cases running with
  | true =>
    have hhold : min 17 (e.badSamples + 1) ≤ 16 ↔ e.badSamples < 16 := by omega
    refine ⟨rfl, rfl, fun hl => if_neg hl, rfl, rfl, rfl, fun _ => ⟨rfl, rfl, ?_⟩, fun h => (by cases h)⟩
    simp only [holdSample, if_true, hhold]
  | false => exact ⟨rfl, rfl, fun hl => if_neg hl, rfl, rfl, rfl, fun h => (by cases h), fun _ => ⟨rfl, rfl, rfl⟩⟩

theorem judged_eq (e : NodeEntry) : e.judged =
    if e.whole = false ∨ e.link = .lost then e.link
    else if e.link = .ok then (if 32 ≤ e.window then .degraded else .ok)
    else if e.window ≤ 4 then .ok else .degraded := by
  unfold judged
  cases hw : e.whole with
  | false => rfl
  | true => cases hl : e.link <;> simp

end NodeEntry

end Sys2Proof.Machine

namespace Sys2Proof.Machine

/-! ## The hub beside its seats

What a seat's release, its detectors, its channel and its path test do not touch. -/

def State.besideSeats (s : State) : State := { s.still with seats := [], dets := [], chans := [], test := none }

theorem besideSeats_of_still {s t : State} (h : t.still = s.still) : t.besideSeats = s.besideSeats :=
  congrArg (fun u : State => { u with seats := [], dets := [], chans := [], test := none }) h

theorem besideSeats_of_core {s t : State} (h : t.core = s.core) : t.besideSeats = s.besideSeats :=
  besideSeats_of_still (still_of_core h)

theorem besideSeats_modSeat (n : Nat) (k : SeatRec → SeatRec) (s : State) :
    (s.modSeat n k).besideSeats = s.besideSeats := by
  cases n <;> rfl

theorem besideSeats_clearDets (n : Nat) (s : State) : (clearDets n s).besideSeats = s.besideSeats := by
  cases n <;> rfl

/-- The end of a path test, beside its report. -/
theorem endTest_core (w : TestEnd) (s : State) : (endTest w s).core = ({ s with test := none } : State).core := by
  unfold endTest
  split
  · next h => rw [← h]
  · exact report_core _ _ _

theorem endTestOf_core (n : Nat) (s : State) : (endTestOf n s).core =
    ({ s with test := if s.underTest n then none else s.test } : State).core := by
  unfold endTestOf
  split
  · exact endTest_core _ s
  · rfl

theorem besideSeats_endTestOf (n : Nat) (s : State) : (endTestOf n s).besideSeats = s.besideSeats :=
  (besideSeats_of_core (endTestOf_core n s)).trans rfl

theorem besideSeats_stopChan (c : Nat) (s : State) : (stopChan c s).besideSeats = s.besideSeats := by
  have stopped (k : Chan → Chan) : (s.modChan c k).besideSeats = s.besideSeats := by cases c <;> rfl
  unfold stopChan
  dsimp only
  split
  · exact (besideSeats_of_core (reportIf_core _ _ _ _)).trans (stopped _)
  · exact stopped _

theorem besideSeats_loseSeat (n : Nat) (s : State) : (loseSeat n s).besideSeats = s.besideSeats :=
  (besideSeats_endTestOf n _).trans ((besideSeats_modSeat n _ _).trans ((besideSeats_clearDets n _).trans
    (besideSeats_of_still (forcedRelease_still n .linkLost s))))

section
variable {s t : State} (h : t.besideSeats = s.besideSeats)
include h

theorem br_of_besideSeats (b : Branch) : t.br b = s.br b := by
  have read (u : State) : u.br b = u.besideSeats.br b := by cases b <;> rfl
  rw [read, h, ← read]

theorem laneInner_of_besideSeats (b : Branch) : (t.lane b).inner = (s.lane b).inner := by
  have read (u : State) : (u.lane b).inner = u.besideSeats.lane b := by cases b <;> rfl
  rw [read, h, ← read]

end

/-! ## A seat that loses its link (02 R43) -/

theorem endTestOf_seats (n : Nat) (s : State) : (endTestOf n s).seats = s.seats :=
  (congrArg State.seats (endTestOf_core n s) :)

theorem endTestOf_dets (n : Nat) (s : State) : (endTestOf n s).dets = s.dets :=
  (congrArg State.dets (endTestOf_core n s) :)

theorem endTestOf_underTest (n : Nat) (s : State) : (endTestOf n s).underTest n = false := by
  have htest : (endTestOf n s).test = if s.underTest n then none else s.test :=
    (congrArg State.test (endTestOf_core n s) :)
  have read (u : State) (h : u.test = none) : u.underTest n = false := by simp only [State.underTest, h]
  by_cases hu : s.underTest n = true
  · exact read _ (htest.trans (if_pos hu))
  · have hsame := htest.trans (if_neg hu)
    unfold State.underTest at hu ⊢
    rw [hsame]
    simpa using hu

theorem clearDets_detectors (n : Nat) (s : State) : (clearDets n s).detectors n = Reset.dets := by
  cases n with
  | zero => rfl
  | succ k =>
    simp only [clearDets, State.modDets, State.detectors, List.getD_eq_getElem?_getD, List.getElem?_modify_eq]
    cases s.dets[k]? <;> rfl

theorem detectors_of_dets {s t : State} (h : t.dets = s.dets) (n : Nat) : t.detectors n = s.detectors n := by
  cases n with
  | zero => rfl
  | succ k => simp only [State.detectors, h]

theorem loseSeat_clears (n : Nat) (s : State) : ((loseSeat n s).seat n).cardClear = 0 ∧
    (loseSeat n s).detectors n = Reset.dets ∧ (loseSeat n s).underTest n = false := by
  refine ⟨?_, ?_, endTestOf_underTest n _⟩
  · unfold loseSeat
    rw [State.seat_of_seats (endTestOf_seats n _)]
    rcases State.seat_modSeat_cases (n := n) (s := clearDets n (forcedRelease n .linkLost s))
      (fun r => { r with cardClear := 0 }) with h | ⟨h', h⟩
    · rw [h]
    · rw [h']; rfl
  · unfold loseSeat
    rw [detectors_of_dets (endTestOf_dets n _), detectors_of_dets (State.modSeat_dets _ _ _), clearDets_detectors]

theorem named_of_ledger {s t : State} (h : t.ledger = s.ledger) (f : Floor) : (t.floor f).named = (s.floor f).named :=
  (congrArg FloorRec.named (floor_ledger h f) :)

theorem released_of_ledger {s t : State} (h : t.ledger = s.ledger) {n : Nat} (hs : s.released n) : t.released n := by
  unfold State.released at *
  rwa [floorState_of_ledger h, seatFloor_of_ledger h, named_of_ledger h]

theorem releasedFrom_of_ledger {s u t : State} {n : Nat} (h : t.ledger = u.ledger)
    (ha : (t.seat n).accTurns = (u.seat n).accTurns) (hs : releasedFrom s n u) : releasedFrom s n t :=
  ⟨released_of_ledger h hs.1, ha.trans hs.2⟩

/-- A seat whose link is LOST when the loss is passed on is released. -/
theorem loseSeat_releasedFrom {n : Nat} {s : State} (hn : n ∈ allSeats) (hl : s.seats.length = 48)
    (hp : s.standsOnce n) (h2 : (s.floor (s.seatFloor n)).stack.length ≤ 2) (hlost : s.seatLink n = .lost) :
    releasedFrom s n (loseSeat n s) := by
  have off := (forcedRelease_takenOff hn hl hp h2 (Or.inl (admission_of_lost hlost)) .linkLost).releasedFrom
  refine releasedFrom_of_ledger ?_ ?_ off
  · unfold loseSeat
    rw [endTestOf_ledger, modSeat_ledger n (by intros; rfl), clearDets_ledger]
  · unfold loseSeat
    rw [State.seat_of_seats (endTestOf_seats n _), seat_modSeat_keeps SeatRec.accTurns (by intros; rfl),
      State.seat_of_seats (show (clearDets n (forcedRelease n .linkLost s)).seats = _ from State.modDets_seats _ _ _)]

end Sys2Proof.Machine

namespace Sys2Proof.Machine

/-! ## Entries of the node tables (09 section 9.2) -/

theorem br_modBr_same (b : Branch) (k : BranchRec → BranchRec) (s : State) : (s.modBr b k).br b = k (s.br b) := by
  cases b <;> rfl

theorem br_modBr_ne {a b : Branch} (h : a ≠ b) (k : BranchRec → BranchRec) (s : State) :
    (s.modBr b k).br a = s.br a := by
  match a, b, h with
  | .b0, .b1, _ => rfl
  | .b1, .b0, _ => rfl

theorem lane_modBr (a b : Branch) (k : BranchRec → BranchRec) (s : State) : (s.modBr b k).lane a = s.lane a := by
  cases b <;> rfl

theorem br_modLane (a b : Branch) (k : Lane → Lane) (s : State) : (s.modLane b k).br a = s.br a := by
  cases b <;> rfl

theorem entry?_of_table {s t : State} {d : Binding} (h : (t.br d.branch).table = (s.br d.branch).table) :
    t.entry? d = s.entry? d := by
  unfold State.entry?
  rw [h]

theorem entry?_of_br {s t : State} (h : ∀ b, t.br b = s.br b) (d : Binding) : t.entry? d = s.entry? d :=
  entry?_of_table (congrArg BranchRec.table (h d.branch))

theorem position_of_entry? {s : State} {d : Binding} {e : NodeEntry} (h : s.entry? d = some e) :
    e.position = d.position := by
  have := List.find?_some h
  exact beq_iff_eq.mp this

theorem entry?_modEntry_same {d : Binding} {k : NodeEntry → NodeEntry} (hk : ∀ e,
    (k e).position = e.position) (s : State) :
    (s.modEntry d k).entry? d = (s.entry? d).map k := by
  unfold State.modEntry State.entry?
  rw [br_modBr_same]
  dsimp only
  induction (s.br d.branch).table with
  | nil => rfl
  | cons e l ih =>
    by_cases he : e.position = d.position
    · simp [he, hk]
    · simpa [List.find?_cons, he, hk] using ih

theorem entry?_modEntry_ne {c d : Binding} (h : c ≠ d) {k : NodeEntry → NodeEntry} (hk : ∀ e, (k e).position = e.position)
    (s : State) : (s.modEntry d k).entry? c = s.entry? c := by
  by_cases hb : c.branch = d.branch
  · have hp : c.position ≠ d.position := fun hp => h (by cases c; cases d; simp_all)
    unfold State.modEntry State.entry?
    rw [hb, br_modBr_same]
    dsimp only
    induction (s.br d.branch).table with
    | nil => rfl
    | cons e l ih =>
      by_cases he : e.position = d.position
      · have hne : d.position ≠ c.position := fun x => hp x.symm
        simpa [List.find?_cons, he, hk, hne] using ih
      · by_cases hc : e.position = c.position
        · simp [hc, hp]
        · simpa [List.find?_cons, he, hc] using ih
  · exact entry?_of_table (congrArg BranchRec.table (br_modBr_ne hb _ s))

theorem counter_modEntry (b : Branch) (d : Binding) (k : NodeEntry → NodeEntry) (s : State) :
    ((s.modEntry d k).br b).counter = (s.br b).counter := by
  unfold State.modEntry
  by_cases h : b = d.branch
  · subst h
    rw [br_modBr_same]
  · rw [br_modBr_ne h]

theorem linkOf_of_entry {s : State} {d : Binding} {e : NodeEntry} (h : s.entry? d = some e) :
    s.linkOf (some d) = e.link := by
  unfold State.linkOf
  simp only [h]

theorem seat_of_br (b : Branch) (k : BranchRec → BranchRec) (n : Nat) (s : State) : (s.modBr b k).seat n = s.seat n :=
  State.seat_of_seats (State.modBr_seats b k s) n

theorem seatAt?_of_seats {s t : State} (h : t.seats = s.seats) (d : Binding) : t.seatAt? d = s.seatAt? d := by
  unfold State.seatAt?
  simp only [State.seat_of_seats h]

theorem seatAt?_of_core {s t : State} (h : t.core = s.core) (d : Binding) : t.seatAt? d = s.seatAt? d :=
  seatAt?_of_seats (congrArg State.seats h :) d

theorem linkOf_of_core {s t : State} (h : t.core = s.core) (d : Option Binding) : t.linkOf d = s.linkOf d :=
  linkOf_of_branches (congrArg State.br0 h :) (congrArg State.br1 h :) d

/-! ## The loss of a node (09 R169) -/

section
variable (d : Binding) (e : NodeEntry) (s : State)

/-- The seat at a place loses its link. -/
def loseAt : State := match s.seatAt? d with
  | some n => loseSeat n s
  | none => s

theorem besideSeats_loseAt : (loseAt d s).besideSeats = s.besideSeats := by
  unfold loseAt
  split
  · exact besideSeats_loseSeat _ s
  · rfl

theorem loseAt_keepsSeats : KeepsSeats s (loseAt d s) := by
  unfold loseAt
  split
  · exact loseSeat_keepsSeats _ s
  · exact .refl s

theorem passLoss_eq (counted : Bool) : passLoss d e counted s =
    let u := loseAt d (nodeReport d e .lost s)
    (if counted then countError d.branch .lostEntry u else u).modLane d.branch (Lane.losePosition d.position) := rfl

theorem nodeReport_core (new : Link) : (nodeReport d e new s).core = s.core := reportIf_core _ _ _ s

/-- The loss is reported, and the seat at its place loses its link. -/
theorem besideSeats_lossAt : (loseAt d (nodeReport d e .lost s)).besideSeats = s.besideSeats :=
  (besideSeats_loseAt d _).trans (besideSeats_of_core (nodeReport_core d e s .lost))

theorem passLoss_pending (counted : Bool) : (passLoss d e counted s).pending = s.pending := by
  have hbeside := besideSeats_lossAt d e s
  have hpending : (loseAt d (nodeReport d e .lost s)).pending = s.pending := (congrArg State.pending hbeside :)
  rw [passLoss_eq]
  cases counted with
  | true => simpa [countError] using hpending
  | false => simpa using hpending

/-- What a passed loss leaves of the branches: an error is counted. -/
theorem passLoss_br (b : Branch) : (passLoss d e true s).br b =
    if b = d.branch then { s.br b with counter := (s.br b).counter.count .lostEntry 1 } else s.br b := by
  have hbeside := besideSeats_lossAt d e s
  rw [passLoss_eq]
  dsimp only
  rw [br_modLane, if_pos rfl]
  unfold countError
  split
  · next h => rw [h, br_modBr_same, br_of_besideSeats hbeside]
  · next h => rw [br_modBr_ne h, br_of_besideSeats hbeside]

theorem losePosition_turn_free {p : Nat} {l : Lane} (h : l.turn = .free) : (l.losePosition p).turn = .free := by
  unfold Lane.losePosition
  simp only [h]

theorem passLoss_seat (counted : Bool) (n : Nat) :
    (passLoss d e counted s).seat n = (loseAt d (nodeReport d e .lost s)).seat n := by
  rw [passLoss_eq]
  dsimp only
  rw [State.seat_of_seats (State.modLane_seats _ _ _)]
  cases counted with
  | true => exact seat_of_br _ _ n _
  | false => rfl

theorem passLoss_keepsSeat (counted : Bool) (n : Nat) :
    ((passLoss d e counted s).seat n).settled = (s.seat n).settled := by
  rw [passLoss_seat, (loseAt_keepsSeats d _).seat n, seat_of_core (nodeReport_core d e s .lost)]

theorem passLoss_turn_free (counted : Bool) (b : Branch) (h : (s.lane b).turn = .free) :
    ((passLoss d e counted s).lane b).turn = .free := by
  have hbeside := besideSeats_lossAt d e s
  have hturn : ((loseAt d (nodeReport d e .lost s)).lane b).turn = .free :=
    (congrArg Lane.turn (laneInner_of_besideSeats hbeside b) :).trans h
  have hcount : ((if counted then countError d.branch .lostEntry (loseAt d (nodeReport d e .lost s))
      else loseAt d (nodeReport d e .lost s)).lane b).turn = .free := by
    cases counted with
    | true => exact (congrArg Lane.turn (lane_modBr _ _ _ _)).trans hturn
    | false => exact hturn
  rw [passLoss_eq]
  by_cases hb : b = d.branch
  · rw [hb] at hcount ⊢
    rw [lane_modLane_same]
    exact losePosition_turn_free hcount
  · rw [lane_modLane_ne hb]
    exact hcount

end

end Sys2Proof.Machine

namespace Sys2Proof.Machine

/-! ## NODE_LINK_LOST (09 R167, R169, R171) -/

theorem NodeEntry.lose_position (e : NodeEntry) : e.lose.position = e.position := by
  unfold lose
  split <;> rfl

theorem NodeEntry.lose_facts (e : NodeEntry) :
    e.lose.kind = e.kind ∧ e.lose.serial = e.serial ∧ e.lose.link = .lost := by
  unfold lose
  split
  · next h => exact ⟨rfl, rfl, beq_iff_eq.mp h⟩
  · exact ⟨rfl, rfl, rfl⟩

/-- The hub once the entry at `d` is LOST, before the loss is passed on. -/
def State.withLost (d : Binding) (run : Nat) (s : State) : State :=
  (s.modEntry d (fun e => { e with badRun := run, goodRun := 0 })).modEntry d NodeEntry.lose

section
variable {d : Binding} {e : NodeEntry} {s : State}

theorem execNodeLinkLost_eq (hb : (s.br d.branch).state.carriesLane = true) (he : s.entry? d = some e)
    (hl : e.link ≠ .lost) :
    ∃ run e', execNodeLinkLost d.branch d.position s = finish s (refresh (passLoss d e' true (s.withLost d run))) := by
  obtain ⟨b, p⟩ := d
  have hlink : s.linkOf (some ⟨b, p⟩) = e.link := linkOf_of_entry he
  refine ⟨(linkLimits ((s.br b).state == .running)).1,
    { e with badRun := (linkLimits ((s.br b).state == .running)).1, goodRun := 0 }, ?_⟩
  unfold execNodeLinkLost
  rw [hb, hlink, if_pos (by simpa using hl)]
  dsimp only
  unfold loseNode
  rw [entry?_modEntry_same (by intros; rfl), he]
  dsimp only [Option.map_some]
  rw [if_neg (by simpa using hl)]
  rfl

theorem entry?_withLost_same (run : Nat) (he : s.entry? d = some e) :
    ∃ x, (s.withLost d run).entry? d = some x ∧ x.kind = e.kind ∧ x.serial = e.serial ∧ x.link = .lost := by
  unfold State.withLost
  rw [entry?_modEntry_same NodeEntry.lose_position, entry?_modEntry_same (by intros; rfl), he]
  exact ⟨_, rfl, NodeEntry.lose_facts _⟩

theorem entry?_withLost_ne (run : Nat) {c : Binding} (h : c ≠ d) (s : State) :
    (s.withLost d run).entry? c = s.entry? c := by
  unfold State.withLost
  rw [entry?_modEntry_ne h NodeEntry.lose_position, entry?_modEntry_ne h (by intros; rfl)]

theorem withLost_seats (d : Binding) (run : Nat) (s : State) : (s.withLost d run).seats = s.seats := by
  unfold State.withLost
  simp

theorem withLost_lane (d : Binding) (run : Nat) (b : Branch) (s : State) : (s.withLost d run).lane b = s.lane b := by
  unfold State.withLost State.modEntry
  rw [lane_modBr, lane_modBr]

theorem withLost_ledger (d : Binding) (run : Nat) (s : State) : (s.withLost d run).ledger = s.ledger := by
  unfold State.withLost
  simp

theorem entry?_passLoss (c : Binding) (s : State) : (passLoss d e true s).entry? c = s.entry? c := by
  refine entry?_of_table ?_
  rw [passLoss_br]
  split <;> rfl

theorem stack_of_ledger {s t : State} (h : t.ledger = s.ledger) (f : Floor) : (t.floor f).stack = (s.floor f).stack :=
  (congrArg FloorRec.stack (floor_ledger h f) :)

theorem standsOnce_of_ledger {s t : State} (h : t.ledger = s.ledger) {n : Nat} (hs : s.standsOnce n) :
    t.standsOnce n := by
  have hfloor := floor_ledger h (s.seatFloor n)
  unfold State.standsOnce at *
  rw [floorState_of_ledger h, seatFloor_of_ledger h]
  have hq := congrArg FloorRec.queue hfloor
  have hg := congrArg FloorRec.grantOrder hfloor
  have hs' := congrArg FloorRec.susp hfloor
  have hk := congrArg FloorRec.stack hfloor
  dsimp only [FloorRec.ledger] at hq hg hs' hk ⊢
  rw [hq, hg, hs', hk]
  exact hs

/-- The seat at a place that is LOST is released when the loss is passed on (02 R43). -/
theorem loseAt_releases {n : Nat} (hn : s.seatAt? d = some n) (hl : s.seats.length = 48) (hp : s.standsOnce n)
    (h2 : (s.floor (s.seatFloor n)).stack.length ≤ 2) (hlost : s.linkOf (some d) = .lost) :
    releasedFrom s n (loseAt d s) := by
  obtain ⟨hmem, hbound⟩ := seatAt_spec hn
  have heq : loseAt d s = loseSeat n s := by
    unfold loseAt
    rw [hn]
  rw [heq]
  refine loseSeat_releasedFrom hmem hl hp h2 ?_
  unfold State.seatLink
  rw [hbound, hlost]

theorem exec_nodeLinkLost (hb : (s.br d.branch).state.carriesLane = true) (he : s.entry? d = some e)
    (hl : e.link ≠ .lost) :
    ∃ run e' t, exec (.nodeLinkLost d.branch d.position) s = .next t ∧ t.core = (passLoss d e' true (s.withLost d run)).core := by
  obtain ⟨run, e', h⟩ := execNodeLinkLost_eq hb he hl
  have hp : (passLoss d e' true (s.withLost d run)).pending = s.pending := by
    rw [passLoss_pending]
    simp [State.withLost]
  obtain ⟨t, ht, hc, -⟩ := finish_refresh (s := s) (u := passLoss d e' true (s.withLost d run)) rfl hp
  exact ⟨run, e', t, h.trans ht, hc⟩

/-- The seat that is bound at the place, once the loss is passed on. -/
theorem passLoss_seatAt {n run : Nat} {e' : NodeEntry} (hn : s.seatAt? d = some n) :
    let u := passLoss d e' true (s.withLost d run)
    (u.seat n).cardClear = 0 ∧ u.detectors n = Reset.dets ∧ u.underTest n = false := by
  have hat : (nodeReport d e' .lost (s.withLost d run)).seatAt? d = some n := by
    rw [seatAt?_of_core (nodeReport_core d e' _ .lost), seatAt?_of_seats (withLost_seats d run s)]
    exact hn
  have heq : loseAt d (nodeReport d e' .lost (s.withLost d run)) = loseSeat n (nodeReport d e' .lost (s.withLost d run)) := by
    unfold loseAt
    rw [hat]
  obtain ⟨hcard, hdets, htest⟩ := loseSeat_clears n (nodeReport d e' .lost (s.withLost d run))
  dsimp only
  refine ⟨?_, ?_, ?_⟩
  · rw [passLoss_seat, heq]
    exact hcard
  · rw [passLoss_eq, heq]
    exact (detectors_of_dets (by simp [countError]) n).trans hdets
  · rw [passLoss_eq, heq]
    have hsame : (((countError d.branch .lostEntry (loseSeat n (nodeReport d e' .lost (s.withLost d run)))).modLane d.branch
        (Lane.losePosition d.position))).test = (loseSeat n (nodeReport d e' .lost (s.withLost d run))).test := by
      simp [countError]
    simp only [if_true, State.underTest, hsame]
    exact htest

/-- The seat that is bound at the place is released from the floor it had (02 R43). -/
theorem passLoss_releases {n run : Nat} {e e' : NodeEntry} (he : s.entry? d = some e) (hn : s.seatAt? d = some n)
    (hwhole : TablesWhole s) (hplaced : ListsPlaced s) (hp : s.standsOnce n) :
    releasedFrom s n (passLoss d e' true (s.withLost d run)) := by
  let v := nodeReport d e' .lost (s.withLost d run)
  have hcore : v.core = (s.withLost d run).core := nodeReport_core d e' _ .lost
  have hledger : v.ledger = s.ledger := (ledger_of_core hcore).trans (withLost_ledger d run s)
  have hseats : v.seats = s.seats := (congrArg State.seats hcore :).trans (withLost_seats d run s)
  have hseat : v.seat n = s.seat n := State.seat_of_seats hseats n
  obtain ⟨x, hx, -, -, hxl⟩ := entry?_withLost_same run he
  have hlost : v.linkOf (some d) = .lost := by
    rw [linkOf_of_core hcore, linkOf_of_entry hx, hxl]
  have hstack : (v.floor (v.seatFloor n)).stack.length ≤ 2 := by
    rw [seatFloor_of_ledger hledger, stack_of_ledger hledger]
    exact (hplaced _).2.2.2
  have hoff := loseAt_releases (s := v) ((seatAt?_of_seats hseats d).trans hn) (by rw [hseats]; exact hwhole.1)
    (standsOnce_of_ledger hledger hp) hstack hlost
  have hfrom := releasedFrom_congr (s := s) (by rw [hseat]) (by rw [hseat]) hoff
  refine releasedFrom_of_ledger ?_ (by rw [passLoss_seat]) hfrom
  rw [passLoss_eq]
  simp [countError, v]

/-- NODE_LINK_LOST, for an entry that is not LOST. -/
theorem nodeLinkLost_taken (hb : (s.br d.branch).state.carriesLane = true) (he : s.entry? d = some e)
    (hl : e.link ≠ .lost) :
    ∃ t, exec (.nodeLinkLost d.branch d.position) s = .next t ∧
      (t.entry? d).map (fun x => (x.kind, x.serial, x.link)) = some (e.kind, e.serial, .lost) ∧
      (∀ c : Binding, c ≠ d → t.entry? c = s.entry? c) ∧
      (t.br d.branch).counter = (s.br d.branch).counter.count .lostEntry 1 ∧
      (∀ n, s.seatAt? d = some n →
        (t.seat n).cardClear = 0 ∧ t.detectors n = Reset.dets ∧ t.underTest n = false ∧
        (TablesWhole s → ListsPlaced s → s.standsOnce n → releasedFrom s n t)) ∧
      (∀ n, (t.seat n).binding = (s.seat n).binding ∧ (t.seat n).role = (s.seat n).role ∧
        (t.seat n).presence = (s.seat n).presence) ∧
      ((s.lane d.branch).turn = .free → (t.lane d.branch).turn = .free) := by
  obtain ⟨run, e', t, ht, hc⟩ := exec_nodeLinkLost hb he hl
  have hbr (b : Branch) : t.br b = (passLoss d e' true (s.withLost d run)).br b :=
    besideLanes_br (besideLanes_of_core hc) b
  have hentry (c : Binding) : t.entry? c = (s.withLost d run).entry? c :=
    (entry?_of_br hbr c).trans (entry?_passLoss c _)
  refine ⟨t, ht, ?_, fun c hcd => (hentry c).trans (entry?_withLost_ne run hcd s), ?_, fun n hn => ?_,
    fun n => ?_, fun hfree => ?_⟩
  · obtain ⟨x, hx, hk, hser, hxl⟩ := entry?_withLost_same run he
    rw [hentry, hx, Option.map_some, hk, hser, hxl]
  · rw [hbr, passLoss_br, if_pos rfl]
    dsimp only
    unfold State.withLost
    rw [counter_modEntry, counter_modEntry]
  · obtain ⟨hcard, hdets, htest⟩ := passLoss_seatAt (run := run) (e' := e') hn
    have htest' : t.test = (passLoss d e' true (s.withLost d run)).test := (congrArg State.test hc :)
    refine ⟨by rw [seat_of_core hc]; exact hcard, (detectors_of_dets (congrArg State.dets hc :) n).trans hdets, ?_,
      fun hw hpl hp => ?_⟩
    · unfold State.underTest at htest ⊢
      rw [htest']
      exact htest
    · exact releasedFrom_of_ledger (ledger_of_core hc) (by rw [seat_of_core hc]) (passLoss_releases he hn hw hpl hp)
  · have hset := passLoss_keepsSeat d e' (s.withLost d run) true n
    rw [State.seat_of_seats (withLost_seats d run s), ← seat_of_core hc] at hset
    exact ⟨(congrArg SeatRec.binding hset :), (congrArg SeatRec.role hset :), (congrArg SeatRec.presence hset :)⟩
  · have hlane := passLoss_turn_free d e' (s.withLost d run) true d.branch (by rw [withLost_lane]; exact hfree)
    have hinner : (t.lane d.branch).inner = ((passLoss d e' true (s.withLost d run)).lane d.branch).inner :=
      laneInner_of_besideSeats (besideSeats_of_core hc) d.branch
    exact (congrArg Lane.turn hinner :).trans hlane

end

end Sys2Proof.Machine

namespace Sys2Proof.Machine

/-! ## NODE_LINK_RECOVERED (09 R167) -/

theorem recoverNode_core {d : Binding} {s : State} (h : (s.entry? d).map (·.link) = some .lost) :
    (recoverNode d s).core = (s.modEntry d (fun e => { e with link := .ok, badRun := 0, goodRun := 0 })).core := by
  obtain ⟨e, he, hl⟩ := Option.map_eq_some_iff.mp h
  unfold recoverNode
  rw [he]
  dsimp only
  rw [if_pos (by simpa using hl)]
  split
  · exact (owePlate_core _ _).trans (nodeReport_core d e _ .ok)
  · exact nodeReport_core d e _ .ok

theorem nodeLinkRecovered_taken {b : Branch} {p : Nat} {s : State} (hb : (s.br b).state.carriesLane = true)
    (h : (s.entry? ⟨b, p⟩).map (·.link) = some .lost) : ∃ t, exec (.nodeLinkRecovered b p) s = .next t ∧
      t.core = (s.modEntry ⟨b, p⟩ (fun e => { e with link := .ok, badRun := 0, goodRun := 0 })).core := by
  obtain ⟨t, ht, hc, -⟩ := finish_refresh (s := s) (recoverNode_core h) (by simp)
  refine ⟨t, ?_, hc⟩
  show execNodeLinkRecovered b p s = _
  unfold execNodeLinkRecovered
  rw [if_pos hb]
  exact ht

/-! ## LINK_WINDOW_END (09 R168, R169) -/

/-- The entry once its window has ended. -/
def NodeEntry.windowEnded (running : Bool) (e : NodeEntry) : NodeEntry :=
  { e with link := e.judged, window := 0, whole := running && e.judged != .lost }

/-- The entry once the windows of the positions `l` have ended. -/
def NodeEntry.endedAt (running : Bool) (l : List Nat) (e : NodeEntry) : NodeEntry :=
  if e.position ∈ l then e.windowEnded running else e

theorem NodeEntry.endedAt_position (running : Bool) (l : List Nat) (e : NodeEntry) :
    (e.endedAt running l).position = e.position := by
  unfold endedAt
  split <;> rfl

theorem NodeEntry.endedAt_cons {running : Bool} {p : Nat} {l : List Nat} (h : p ∉ l) (e : NodeEntry) :
    (e.endedAt running [p]).endedAt running l = e.endedAt running (p :: l) := by
  unfold endedAt
  by_cases hp : e.position = p
  · subst hp
    simp [windowEnded, h]
  · simp [hp]

/-- A branch's table with an update of every entry. -/
def BranchRec.mapTable (k : NodeEntry → NodeEntry) (r : BranchRec) : BranchRec := { r with table := r.table.map k }

theorem mapTable_eq_self {k : NodeEntry → NodeEntry} {r : BranchRec} (h : ∀ e ∈ r.table, k e = e) :
    r.mapTable k = r :=
  congrArg (fun l => { r with table := l }) ((List.map_congr_left h).trans (List.map_id _))

theorem modBr_core_congr {s t : State} (h : t.core = s.core) (b : Branch) (k : BranchRec → BranchRec) :
    (t.modBr b k).core = (s.modBr b k).core := by
  have read (u : State) : (u.modBr b k).core = u.core.modBr b k := by cases b <;> rfl
  rw [read, h, ← read]

theorem modBr_modBr (b : Branch) (j k : BranchRec → BranchRec) (s : State) :
    (s.modBr b j).modBr b k = s.modBr b (fun r => k (j r)) := by
  cases b <;> rfl

theorem br_of_core {s t : State} (h : t.core = s.core) (b : Branch) : t.br b = s.br b :=
  br_of_besideSeats (besideSeats_of_core h) b

section
variable {running : Bool} {b : Branch}

theorem endEntryWindow_core {p : Nat} {s : State} (h : ((s.br b).table.map (·.position)).Nodup) :
    (endEntryWindow running ⟨b, p⟩ s).core = (s.modBr b (BranchRec.mapTable (NodeEntry.endedAt running [p]))).core := by
  unfold endEntryWindow
  split
  · next hnone =>
    have hoff : ∀ e ∈ (s.br b).table, e.position ≠ p := by simpa [State.entry?] using hnone
    have hsame : BranchRec.mapTable (NodeEntry.endedAt running [p]) (s.br b) = s.br b :=
      mapTable_eq_self (fun e he => if_neg (by simpa using hoff e he))
    rw [modBr_eq_self hsame]
  · next e he =>
    have hmem : e ∈ (s.br b).table := List.mem_of_find?_eq_some he
    have hpos : e.position = p := position_of_entry? he
    have hone : ∀ x ∈ (s.br b).table, x.position = p → x = e := fun x hx hxp =>
      List.inj_on_of_nodup_map h hx hmem (hxp.trans hpos.symm)
    have hset : s.modEntry ⟨b, p⟩ (fun x => { x with link := e.judged, window := 0, whole := running && e.judged != .lost }) =
        s.modBr b (BranchRec.mapTable (NodeEntry.endedAt running [p])) := by
      refine modBr_congr ?_
      refine congrArg (fun l => { s.br b with table := l }) (List.map_congr_left (fun x hx => ?_))
      unfold NodeEntry.endedAt
      by_cases hxp : x.position = p
      · obtain rfl := hone x hx hxp
        simp [hxp, NodeEntry.windowEnded]
      · simp [hxp]
    dsimp only
    rw [hset]
    split
    · rfl
    · exact nodeReport_core _ _ _ _

theorem forAll_endEntryWindow_core {l : List Nat} (hl : l.Nodup) {s : State} (h : ((s.br b).table.map
    (·.position)).Nodup) :
    (forAll l (fun p => endEntryWindow running ⟨b, p⟩) s).core =
      (s.modBr b (BranchRec.mapTable (NodeEntry.endedAt running l))).core := by
  induction l generalizing s with
  | nil =>
    have hsame : BranchRec.mapTable (NodeEntry.endedAt running []) (s.br b) = s.br b :=
      mapTable_eq_self (fun e _ => if_neg List.not_mem_nil)
    rw [modBr_eq_self hsame]
    rfl
  | cons p l ih =>
    obtain ⟨hp, hl⟩ := List.nodup_cons.mp hl
    have hstep : (endEntryWindow running ⟨b, p⟩ s).core = _ := endEntryWindow_core (running := running) (p := p) h
    have hnodup : (((endEntryWindow running ⟨b, p⟩ s).br b).table.map (·.position)).Nodup := by
      rw [br_of_core hstep, br_modBr_same]
      simpa [BranchRec.mapTable, Function.comp_def, NodeEntry.endedAt_position] using h
    have htwice : BranchRec.mapTable (NodeEntry.endedAt running l) (BranchRec.mapTable (NodeEntry.endedAt running [p]) (s.br b)) =
        BranchRec.mapTable (NodeEntry.endedAt running (p :: l)) (s.br b) := by
      simp [BranchRec.mapTable, Function.comp_def, NodeEntry.endedAt_cons hp]
    refine (ih hl hnodup).trans ((modBr_core_congr hstep b _).trans ?_)
    rw [modBr_modBr]
    exact congrArg State.core (modBr_congr htwice)

theorem endBranchWindow_core {s : State} (h : ((s.br b).table.map (·.position)).Nodup) : (endBranchWindow b s).core =
    (s.modBr b (BranchRec.mapTable (NodeEntry.windowEnded ((s.br b).state == .running)))).core := by
  refine (forAll_endEntryWindow_core h h).trans (congrArg State.core (modBr_congr ?_))
  refine congrArg (fun l => { s.br b with table := l }) (List.map_congr_left (fun e he => ?_))
  exact if_pos (List.mem_map_of_mem he)

end

/-- Both branches' windows, as the branches stood before. -/
def State.windowsEnded (s : State) : State :=
  { s with
    windowDue := false
    br0 := s.br0.mapTable (NodeEntry.windowEnded (s.br0.state == .running))
    br1 := s.br1.mapTable (NodeEntry.windowEnded (s.br1.state == .running)) }

theorem linkWindowEnd_taken {s : State} (h : NodeTablesInOrder s) :
    ∃ t, exec .linkWindowEnd s = .next t ∧ t.core = s.windowsEnded.core := by
  have nodup (b : Branch) : ((s.br b).table.map (·.position)).Nodup := (h b).1.imp (fun hab => Nat.ne_of_lt hab)
  have h0 := endBranchWindow_core (b := .b0) (s := { s with windowDue := false }) (nodup .b0)
  have hbr : (endBranchWindow .b0 { s with windowDue := false }).br .b1 = s.br .b1 := br_of_core h0 .b1
  have h1 := endBranchWindow_core (b := .b1) (s := endBranchWindow .b0 { s with windowDue := false })
    (by rw [hbr]; exact nodup .b1)
  have hcore : (deliver (endBranchWindow .b1 (endBranchWindow .b0 { s with windowDue := false }))).core =
      s.windowsEnded.core := by
    rw [deliver_core, h1, modBr_core_congr h0, hbr]
    rfl
  exact ⟨_, finish_of_pending _ _ ((pending_of_core hcore).trans rfl), hcore⟩

/-- Settles O42: a slot is judged good or bad once and its steps are told from the link and the branch; a loss is the
seat's release and the counter's step beside an entry that is LOST; the windows end position by position. -/
theorem upSlotsAndLinksAreJudged : Obligations.UpSlotsAndLinksAreJudged := by
  refine ⟨fun running f e => ?_, fun b p s e hb he hl => nodeLinkLost_taken (d := ⟨b, p⟩) hb he hl,
    fun b p s hb h => nodeLinkRecovered_taken hb h, fun s h => linkWindowEnd_taken h, NodeEntry.judged_eq⟩
  obtain ⟨hpos, hkind, hserial, hlink⟩ := NodeEntry.takeSlot_keeps running f e
  have idle : running = false → (e.takeSlot running f).current = e.current ∧ (e.takeSlot running f).held = e.held ∧
      (e.takeSlot running f).badSamples = e.badSamples := by
    intro hr
    by_cases hg : slotGood running (slotAt f e.position) = true
    · exact (NodeEntry.takeSlot_of_good hg).2.2.2.2 hr
    · exact (NodeEntry.takeSlot_of_bad (by simpa using hg)).2.2.2.2.2.2.2 hr
  refine ⟨hpos, hkind, hserial, hlink, fun hg => ?_, fun hg => ?_, idle⟩
  · obtain ⟨hw, hok, hlost, hy, -⟩ := NodeEntry.takeSlot_of_good hg
    exact ⟨hw, hok, hlost, hy⟩
  · obtain ⟨hw, hgood, hbad, hst, hwait, hfault, hrun, -⟩ := NodeEntry.takeSlot_of_bad hg
    exact ⟨hw, hgood, hbad, hst, hwait, hfault, hrun⟩

end Sys2Proof.Machine

namespace Sys2Proof.Machine

/-! ## Holds of other seats -/

section
variable {n m : Nat} (h : n ≠ m)
include h

theorem startHold_passesBy {f : Floor} {s : State} (e : HoldEntry) (he : e.holder = m) (hoff : n ∉
    (s.floor f).named) :
    PassesBy n s (startHold m e f s) := by
  have hothers : ∀ o ∈ (s.floor f).grantOrder.filter (· != m), n ≠ o := fun o ho hno =>
    hoff (hno ▸ mem_named_of_grantOrder (List.mem_of_mem_filter ho))
  have step1 := PassesBy.modSeat h (fun r => if r.floorState == .speaking then r.accountTurn else r) s
  have step2 := forAll_passesBy (n := n) (op := fun o => State.modSeat o (SeatRec.toState .suspended))
    (l := (s.floor f).grantOrder.filter (· != m)) (fun o ho t => PassesBy.modSeat (hothers o ho) _ t)
    (s.modSeat m (fun r => if r.floorState == .speaking then r.accountTurn else r))
  unfold startHold
  refine (step1.trans step2).trans ((PassesBy.setFloor (fun hn => ?_)).trans ((PassesBy.modSeat h _ _).trans
    ((forAll_passesBy (fun o _ t => .of_core (keyReport_core _ _ _ _ _)) _).trans
      (.of_core (priorityReport_core _ _ _ _ _ _ _)))))
  simp only [FloorRec.mem_named, List.not_mem_nil, List.map_map, List.mem_map, List.map_cons, List.map_nil, List.mem_singleton,
    he, false_or] at hn
  rcases hn with hn | ⟨o, ho, hno⟩ | hn
  · exact (FloorRec.mem_named _ _).mpr (Or.inl hn)
  · exact absurd hno.symm (hothers o ho)
  · exact absurd hn h

theorem coverHold_passesBy {f : Floor} {s : State} (e low : HoldEntry) (he : e.holder = m) (hlow : n ≠ low.holder) :
    PassesBy n s (coverHold m e low f s) := by
  have left : PassesBy n s (if (s.seat m).floorState == .suspended then leaveSuspension m .idle s else s) := by
    split
    · exact leaveSuspension_passesBy h .idle s
    · exact .refl n s
  unfold coverHold
  refine left.trans ((PassesBy.setFloor (fun hn => ?_)).trans ((PassesBy.modSeat hlow _ _).trans ((PassesBy.modSeat h _ _).trans
    ((PassesBy.of_core (keyReport_core _ _ _ _ _)).trans ((PassesBy.of_core (keyReport_core _ _ _ _ _)).trans
      (.of_core (priorityReport_core _ _ _ _ _ _ _)))))))
  simp only [FloorRec.mem_named, List.map_cons, List.map_nil, List.mem_cons, List.not_mem_nil, he, or_false] at hn ⊢
  tauto

theorem joinBeneath_passesBy {f : Floor} {s : State} (top e : HoldEntry) (he : e.holder = m) (htop : n ≠ top.holder) :
    PassesBy n s (joinBeneath m top e f s) := by
  have left : PassesBy n s (if (s.seat m).floorState == .suspended then leaveSuspension m .priorityWait s
      else s.modSeat m (SeatRec.toState .priorityWait)) := by
    split
    · exact leaveSuspension_passesBy h .priorityWait s
    · exact .modSeat h _ s
  unfold joinBeneath
  refine left.trans ((PassesBy.setFloor (fun hn => ?_)).trans ((PassesBy.of_core (keyReport_core _ _ _ _ _)).trans
    (.of_core (priorityReport_core _ _ _ _ _ _ _))))
  simp only [FloorRec.mem_named, List.map_cons, List.map_nil, List.mem_cons, List.not_mem_nil, he, or_false] at hn ⊢
  tauto

end

namespace Severed

variable {n : Nat} {s t : State}

section
variable (h : Severed n s)
include h

/-- A priority press of a severed seat is refused, and one of another seat passes it by. -/
theorem priorityPress (m : Nat) : Severed n (priorityPress m s) := by
  have held {x : HoldEntry} {l : List HoldEntry} (hs : (s.floor (s.seatFloor m)).stack = x :: l) : n ≠ x.holder :=
    h.ne_of_named (mem_named_of_stack (by rw [hs]; exact List.mem_cons_self))
  unfold Machine.priorityPress
  dsimp only
  split
  · split
    · exact h.endEntry m .key _
    · exact h
  · split
    · exact (h.modSeat m (k := fun r => { r with refusal := some 0 }) (by intros; rfl) (by intros; rfl)).of_core
        (priorityReport_core _ _ _ _ _ _ _)
    · next hadm =>
      have hm : n ≠ m := fun e => holdAdmission_of_lost h.link (e ▸ hadm)
      split
      · exact h
      · split
        · exact h.step (startHold_passesBy hm _ rfl (h.off _)) (startHold_still _ _ _ _)
        · next hs _ =>
          exact ite_preserves (Severed n)
            (fun _ => h.step (coverHold_passesBy hm _ _ rfl (held hs)) (coverHold_still _ _ _ _ _)) (fun _ => h)
        · next hs _ =>
          exact ite_preserves (Severed n)
            (fun _ => h.step (joinBeneath_passesBy hm _ _ rfl (held hs)) (joinBeneath_still _ _ _ _ _)) (fun _ => h)
        · exact h

theorem nextPress (m : Nat) : Severed n (nextPress m s) := by
  unfold Machine.nextPress
  dsimp only
  refine ite_preserves (Severed n) (fun _ => h.refuse m .next .closed) (fun _ => ite_preserves (Severed n)
    (fun _ => h.refuse m .next .notChair) (fun _ => ite_preserves (Severed n) (fun _ => h.refuse m .next .mode)
    (fun _ => ite_preserves (Severed n) (fun _ => h.refuse m .next .hold) (fun _ => ?_))))
  split
  · exact h.refuse m .next .empty
  · next q l hq =>
    have hqn : n ≠ q := h.ne_of_named (f := s.seatFloor m) (by
      rw [FloorRec.mem_named, hq]
      exact Or.inl List.mem_cons_self)
    exact ite_preserves (Severed n) (fun _ => h.grant hqn .next) (fun _ => h.refuse m .next .full)

theorem dequeue {m : Nat} (hm : n ≠ m) (c : KeyCause) (sub : Option SubCause) : Severed n (dequeue m c sub s) :=
  h.step (dequeue_passesBy hm c sub s) (dequeue_still m c sub s)

theorem endSuspended {m : Nat} (hm : n ≠ m) (c : KeyCause) (sub : Option SubCause) :
    Severed n (endSuspended m c sub s) :=
  h.step (endSuspended_passesBy hm c sub s) (endSuspended_still m c sub s)

/-- A seat that is released is another, or the severed seat itself, which stays IDLE. -/
theorem forcedRelease (m : Nat) (sub : SubCause) : Severed n (forcedRelease m sub s) := by
  have other (st : FloorState) (hst : (s.seat m).floorState = st) (hne : st ≠ .idle) : n ≠ m :=
    h.ne_of_busy (by rw [hst]; exact hne)
  unfold Machine.forcedRelease
  dsimp only
  split
  · exact h
  · next hst => exact (h.dequeue (other _ hst (by decide)) _ _).grantPass _
  · next hst => exact (h.close (other _ hst (by decide)) _ _).grantPass _
  · next hst => exact (h.endSuspended (other _ hst (by decide)) _ _).grantPass _
  · exact (h.endEntry m _ _).grantPass _
  · exact (h.endEntry m _ _).grantPass _

/-- What the floors' lists, the seat's state and binding and the node tables do not see. -/
theorem carry (hfl : ∀ f, (t.floor f).named = (s.floor f).named) (hst : (t.seat n).floorState = (s.seat n).floorState)
    (hb : (t.seat n).binding = (s.seat n).binding) (hbr : ∀ b, t.br b = s.br b) : Severed n t := by
  refine ⟨fun f => by rw [hfl]; exact h.off f, hst.trans h.idle, ?_⟩
  unfold State.seatLink
  rw [hb, linkOf_of_branches (hbr .b0) (hbr .b1)]
  exact h.link

end

end Severed

end Sys2Proof.Machine

namespace Sys2Proof.Machine

/-! ## A severed seat at the start of a meeting and at READY -/

theorem opened_named (f : Floor) (r : Nat → Role × Option Delegate) (k : Nat) (m : Meeting) (g : Floor) (s : State) :
    ((opened f r k m s).floor g).named = (s.floor g).named := by
  have hseats : ((zeroAccounts f (writeRoles (s.floorSeats f) r s)).floor g) = s.floor g :=
    (zeroAccounts_keeps (·.floor g) (fun n k t => State.floor_modSeat n k g t) f _).trans (writeRoles_floor _ _ g s)
  unfold opened loadProfile State.modMeeting
  dsimp only
  by_cases hg : g = f
  · subst hg
    rw [State.floor_modFloor_same, State.floor_modFloor_same, hseats]
    rfl
  · rw [State.floor_modFloor_ne hg, State.floor_modFloor_ne hg, hseats]

theorem startWalkin_named (f g : Floor) (s : State) : ((startWalkin f s).floor g).named = (s.floor g).named := by
  have hledger := endTestOn_ledger f (restPower s)
  rw [startWalkin_eq, named_of_ledger (refreshDue_ledger _ _)]
  unfold bookingReport
  rw [floor_of_core (report_core _ _ _), opened_named, named_of_ledger hledger]
  rfl

/-- The branches, and the lanes less their outbound messages. -/
def State.trunk (s : State) : BranchRec × BranchRec × Lane × Lane := (s.br0, s.br1, s.lane0.inner, s.lane1.inner)

theorem trunk_of_still {s t : State} (h : t.still = s.still) : t.trunk = s.trunk := (congrArg State.trunk h :)

theorem trunk_of_core {s t : State} (h : t.core = s.core) : t.trunk = s.trunk := (congrArg State.trunk h :)

theorem trunk_modSeat (n : Nat) (k : SeatRec → SeatRec) (s : State) : (s.modSeat n k).trunk = s.trunk := by
  cases n <;> rfl

theorem trunk_modFloor (f : Floor) (k : FloorRec → FloorRec) (s : State) : (s.modFloor f k).trunk = s.trunk := by
  cases f <;> rfl

theorem trunk_modMeeting (f : Floor) (g : Meeting → Meeting) (s : State) : (s.modMeeting f g).trunk = s.trunk :=
  trunk_modFloor f _ s

section
variable {s t : State} (h : t.trunk = s.trunk)
include h

theorem br_of_trunk (b : Branch) : t.br b = s.br b := by
  cases b
  · exact congrArg (·.1) h
  · exact congrArg (·.2.1) h

theorem laneInner_of_trunk (b : Branch) : (t.lane b).inner = (s.lane b).inner := by
  cases b
  · exact congrArg (·.2.2.1) h
  · exact congrArg (·.2.2.2) h

end

theorem trunk_refreshDue (f : Floor) (s : State) : (refreshDue f s).trunk = s.trunk := by
  unfold refreshDue
  dsimp only
  split
  · rfl
  · split
    · exact (trunk_of_core (report_core _ _ _)).trans (trunk_modMeeting _ _ _)
    · exact trunk_modMeeting _ _ _

theorem trunk_endTestOn (f : Floor) (s : State) : (endTestOn f s).trunk = s.trunk := by
  unfold endTestOn
  split
  · split
    · exact (trunk_of_core (endTest_core _ s)).trans rfl
    · rfl
  · rfl

theorem trunk_startWalkin (f : Floor) (s : State) : (startWalkin f s).trunk = s.trunk := by
  rw [startWalkin_eq, trunk_refreshDue]
  unfold bookingReport
  rw [trunk_of_core (report_core _ _ _)]
  unfold opened loadProfile
  dsimp only
  rw [trunk_modMeeting, trunk_modFloor, zeroAccounts_keeps State.trunk (fun n k t => trunk_modSeat n k t),
    writeRoles_keeps State.trunk (fun n k t => trunk_modSeat n k t) (fun k body t => trunk_of_core (report_core k body t)),
    trunk_endTestOn]
  rfl

theorem trunk_micPress (n : Nat) (s : State) : (micPress n s).trunk = s.trunk := by
  unfold micPress
  dsimp only
  split
  · split
    · exact trunk_of_still (request_still n s)
    · split
      · exact (trunk_of_still (request_still n _)).trans (trunk_startWalkin _ s)
      · exact trunk_of_still (refuse_still n .key .closed s)
  · exact trunk_of_still (dequeue_still n .key none s)
  · exact trunk_of_still ((grantPass_still _ _).trans (close_still n .key none s))
  · exact trunk_of_still ((grantPass_still _ _).trans (endSuspended_still n .key none s))
  · rfl
  · rfl

theorem trunk_floorKey (n : Nat) (k : Key) (e : KeyEvent) (s : State) : (floorKey n k e s).trunk = s.trunk := by
  cases k with
  | mic =>
    cases e with
    | press => exact trunk_micPress n s
    | release => rfl
    | long =>
      show (micLong n s).trunk = _
      unfold micLong
      split
      · exact trunk_of_still (dequeue_still n .key none s)
      · rfl
  | priority =>
    cases e with
    | press => exact trunk_of_still (priorityPress_still n s)
    | release => exact trunk_of_still (priorityRelease_still n s)
    | long => rfl
  | next =>
    cases e with
    | press => exact trunk_of_still (nextPress_still n s)
    | release => rfl
    | long => rfl

theorem trunk_becomePresent (n : Nat) (p : Presence) (s : State) : (becomePresent n p s).trunk = s.trunk := by
  have noted (f : Floor) (t : State) : (firstCheckIn f (noteCheckedIn n f t)).trunk = t.trunk := by
    unfold firstCheckIn noteCheckedIn
    split
    · exact (trunk_of_core (report_core _ _ _)).trans ((trunk_modMeeting f _ _).trans (trunk_modMeeting f _ t))
    · exact trunk_modMeeting f _ t
  unfold becomePresent
  dsimp only
  split
  · exact (noted _ _).trans (trunk_modSeat _ _ _)
  · exact trunk_modSeat _ _ _

theorem trunk_cardInSeat (n : Nat) (c : CardId) (s : State) : (cardInSeat n c s).trunk = s.trunk := by
  unfold cardInSeat
  dsimp only
  split
  · exact trunk_of_core (cardReport_core _ _ _ _ _ _ _)
  · split
    · exact (trunk_of_core (cardReport_core _ _ _ _ _ _ _)).trans (trunk_becomePresent _ _ _)
    · split
      · exact trunk_of_core ((cardReport_core _ _ _ _ _ _ _).trans ((owePlate_core _ _).trans (modPlate_core _ _ _)))
      · exact trunk_of_core (cardReport_core _ _ _ _ _ _ _)

theorem trunk_applyPending (e : Option WakeEvent) (s : State) : (applyPending e s).trunk = s.trunk := by
  unfold applyPending
  split
  · rfl
  · split
    · dsimp only
      split
      · exact trunk_floorKey _ _ _ s
      · exact (trunk_floorKey _ _ _ _).trans (trunk_floorKey _ _ _ s)
    · rfl
  · split
    · exact trunk_cardInSeat _ _ s
    · exact trunk_of_core (cardReport_core _ _ _ _ _ _ _)

/-- What the wake writes for itself at READY, before the pending event. -/
theorem woken_core (s : State) : ∃ p, (woken s).core = ({ s with pwr := p } : State).core := by
  have first : ∃ p, (lockFirst s).core = ({ s with pwr := p } : State).core := by
    unfold lockFirst reportLock
    split
    · exact ⟨_, report_core _ _ _⟩
    · exact ⟨s.pwr, rfl⟩
  have set (p : Power) {t : State} (h : ∃ p, t.core = ({ s with pwr := p } : State).core) :
      ({ t with pwr := p } : State).core = ({ s with pwr := p } : State).core := by
    obtain ⟨q, hq⟩ := h
    exact congrArg (fun u : State => { u with pwr := p }) hq
  refine ⟨_, (report_core _ _ _).trans (set _ ⟨_, (report_core _ _ _).trans (set _ first)⟩)⟩

theorem trunk_woken (s : State) : (woken s).trunk = s.trunk := by
  obtain ⟨p, hp⟩ := woken_core s
  exact (trunk_of_core hp).trans rfl

theorem trunk_wakeCheck (s : State) : (wakeCheck s).trunk = s.trunk := by
  unfold wakeCheck
  split
  · rw [ready_eq]
    exact (trunk_applyPending _ _).trans (trunk_woken s)
  · rfl

namespace Severed

variable {n : Nat} {s : State}

section
variable (h : Severed n s)
include h

theorem startWalkin (f : Floor) : Severed n (startWalkin f s) :=
  h.carry (fun g => startWalkin_named f g s) (congrArg SeatRec.floorState (startWalkin_unlisted f n s) :)
    (congrArg SeatRec.binding (startWalkin_unlisted f n s) :) (br_of_trunk (trunk_startWalkin f s))

theorem micPress (m : Nat) : Severed n (micPress m s) := by
  have other (st : FloorState) (hst : (s.seat m).floorState = st) (hne : st ≠ .idle) : n ≠ m :=
    h.ne_of_busy (by rw [hst]; exact hne)
  unfold Machine.micPress
  dsimp only
  split
  · exact ite_preserves (Severed n) (fun _ => h.request m)
      (fun _ => ite_preserves (Severed n) (fun _ => (h.startWalkin _).request m) (fun _ => h.refuse m .key .closed))
  · next hst => exact h.dequeue (other _ hst (by decide)) .key none
  · next hst => exact (h.close (other _ hst (by decide)) .key none).grantPass _
  · next hst => exact (h.endSuspended (other _ hst (by decide)) .key none).grantPass _
  · exact h
  · exact h

theorem floorKey (m : Nat) (k : Key) (e : KeyEvent) : Severed n (floorKey m k e s) := by
  cases k with
  | mic =>
    cases e with
    | press => exact h.micPress m
    | release => exact h
    | long => exact ite_preserves (Severed n) (fun hq => h.dequeue (h.ne_of_busy (by simp_all)) .key none) (fun _ => h)
  | priority =>
    cases e with
    | press => exact h.priorityPress m
    | release => exact h.priorityRelease m
    | long => exact h
  | next =>
    cases e with
    | press => exact h.nextPress m
    | release => exact h
    | long => exact h

theorem modMeeting (f : Floor) (g : Meeting → Meeting) : Severed n (s.modMeeting f g) := by
  refine h.carry (fun e => ?_) ?_ ?_ (br_of_trunk (trunk_modMeeting f g s))
  · by_cases he : e = f
    · subst he
      exact (congrArg FloorRec.named (State.floor_modFloor_same e _ s) :)
    · exact (congrArg FloorRec.named (State.floor_modFloor_ne he _ s) :)
  · exact congrArg SeatRec.floorState (State.seat_modFloor f _ n s)
  · exact congrArg SeatRec.binding (State.seat_modFloor f _ n s)

theorem becomePresent (m : Nat) (p : Presence) : Severed n (becomePresent m p s) := by
  have present : Severed n (s.modSeat m (SeatRec.withPresence p)) :=
    h.modSeat m (fun r => by unfold SeatRec.withPresence; split <;> rfl)
      (fun r => by unfold SeatRec.withPresence; split <;> rfl)
  have noted {t : State} (ht : Severed n t) (f : Floor) : Severed n (firstCheckIn f (noteCheckedIn m f t)) := by
    unfold firstCheckIn noteCheckedIn
    exact ite_preserves (Severed n) (fun _ => ((ht.modMeeting f _).modMeeting f _).of_core (report_core _ _ _))
      (fun _ => ht.modMeeting f _)
  unfold Machine.becomePresent
  exact ite_preserves (Severed n) (fun _ => noted present _) (fun _ => present)

theorem cardInSeat (m : Nat) (c : CardId) : Severed n (cardInSeat m c s) := by
  unfold Machine.cardInSeat
  dsimp only
  refine ite_preserves (Severed n) (fun _ => h.of_core (cardReport_core _ _ _ _ _ _ _)) (fun _ => ite_preserves (Severed n)
    (fun _ => (h.becomePresent m .card).of_core (cardReport_core _ _ _ _ _ _ _)) (fun _ => ?_))
  split
  · exact h.of_core ((cardReport_core _ _ _ _ _ _ _).trans ((owePlate_core _ _).trans (modPlate_core _ _ _)))
  · exact h.of_core (cardReport_core _ _ _ _ _ _ _)

theorem applyPending (e : Option WakeEvent) : Severed n (applyPending e s) := by
  cases e with
  | none => exact h
  | some e =>
    cases e with
    | key m k =>
      unfold Machine.applyPending
      dsimp only
      exact ite_preserves (Severed n) (fun _ => ite_preserves (Severed n) (fun _ => h.floorKey m k .press)
        (fun _ => (h.floorKey m k .press).floorKey m k .release)) (fun _ => h)
    | card m c =>
      unfold Machine.applyPending
      dsimp only
      exact ite_preserves (Severed n) (fun _ => h.cardInSeat m c) (fun _ => h.of_core (cardReport_core _ _ _ _ _ _ _))

theorem wakeCheck : Severed n (wakeCheck s) := by
  unfold Machine.wakeCheck
  refine ite_preserves (Severed n) (fun _ => ?_) (fun _ => h)
  obtain ⟨p, hp⟩ := woken_core s
  rw [ready_eq]
  exact ((h.carry (t := { s with pwr := p }) (fun f => by cases f <;> rfl)
    (congrArg SeatRec.floorState (State.seat_of_seats rfl n))
    (congrArg SeatRec.binding (State.seat_of_seats rfl n)) (fun b => by cases b <;> rfl)).of_core hp).applyPending _

end

end Severed

end Sys2Proof.Machine

namespace Sys2Proof.Machine

/-! ## Losses of seats, and the seats they sever (02 R43, 09 R169) -/

theorem loseSeat_ledger (n : Nat) (s : State) : (loseSeat n s).ledger = (forcedRelease n .linkLost s).ledger := by
  unfold loseSeat
  rw [endTestOf_ledger, modSeat_ledger n (by intros; rfl), clearDets_ledger]

theorem binding_of_settled {r r' : SeatRec} (h : r'.settled = r.settled) : r'.binding = r.binding :=
  (congrArg SeatRec.binding h :)

theorem seatLink_of_settled {s t : State} {n : Nat} (h : (t.seat n).settled = (s.seat n).settled)
    (hbr : ∀ b, t.br b = s.br b) : t.seatLink n = s.seatLink n := by
  unfold State.seatLink
  rw [binding_of_settled h, linkOf_of_branches (hbr .b0) (hbr .b1)]

/-- The hub's lists place seats on their own floors, so a seat that is released stands in none. -/
theorem severed_of_released {n : Nat} {t : State} (hs : Seated true none none t) (hr : t.released n)
    (hl : t.seatLink n = .lost) : Severed n t := by
  obtain ⟨-, hplaced, -⟩ := (seated_iff true t).mp hs
  refine ⟨fun f hn => hr.2 ?_, hr.1, hl⟩
  rw [((hplaced f).1 n hn).2]
  exact hn

theorem loseSeat_severs {n : Nat} {s : State} (hn : n ∈ allSeats) (hs : Seated true none none s)
    (hl : s.seatLink n = .lost) :
    Severed n (loseSeat n s) := by
  obtain ⟨htable, hplaced, hstands⟩ := (seated_iff true s).mp hs
  have hreleased := (loseSeat_releasedFrom hn htable ((hstands rfl).1 n hn) (hplaced _).2.2.2 hl).1
  refine severed_of_released ((seated_trunkFrame true).loseSeat n hs) hreleased ?_
  rw [seatLink_of_settled ((loseSeat_keepsSeats n s).seat n) (br_of_besideSeats (besideSeats_loseSeat n s))]
  exact hl

namespace Severed

variable {n : Nat} {s t : State}

theorem released (h : Severed n s) : s.released n := ⟨h.idle, h.off _⟩

/-- What neither the ledger nor the bindings nor the node tables see. -/
theorem quiet (h : Severed n s) (ht : t.ledger = s.ledger) (hb : (t.seat n).binding = (s.seat n).binding)
    (hbr : ∀ b, t.br b = s.br b) : Severed n t :=
  h.carry (named_of_ledger ht) (floorState_of_ledger ht n) hb hbr

section
variable (h : Severed n s)
include h

theorem loseSeat (m : Nat) : Severed n (loseSeat m s) := by
  have hkeep := loseSeat_keepsSeats m s
  have hforced : KeepsSeats s (Machine.forcedRelease m .linkLost s) := .of_still (forcedRelease_still m .linkLost s)
  refine (h.forcedRelease m .linkLost).quiet (loseSeat_ledger m s) ?_ (fun b => ?_)
  · exact (binding_of_settled (hkeep.seat n)).trans (binding_of_settled (hforced.seat n)).symm
  · rw [br_of_besideSeats (besideSeats_loseSeat m s),
      br_of_besideSeats (besideSeats_of_still (forcedRelease_still m .linkLost s))]

theorem stopChan (c : Nat) : Severed n (stopChan c s) :=
  h.quiet (stopChan_ledger c s) (binding_of_settled ((stopChan_keepsSeats c s).seat n))
    (br_of_besideSeats (besideSeats_stopChan c s))

theorem unbound (m : Nat) : Severed n (s.modSeat m (fun r => { r with binding := none })) := by
  refine ⟨fun f hn => ?_, (seat_modSeat_keeps SeatRec.floorState (by intros; rfl) m n s).trans h.idle, ?_⟩
  · rw [State.floor_modSeat] at hn
    exact h.off f hn
  · by_cases hm : n = m
    · subst hm
      refine seatLink_of_unbound _ n ?_
      rcases State.seat_modSeat_cases (n := n) (s := s) (fun r => { r with binding := none }) with he | ⟨he, -⟩
      · rw [he]
      · rw [he]
        rfl
    · unfold State.seatLink
      rw [State.seat_modSeat_ne hm]
      exact (linkOf_of_branches (State.modSeat_br0 m _ s) (State.modSeat_br1 m _ s) _).trans h.link

end

end Severed

theorem binding_modSeat_none (n : Nat) (s : State) :
    ((s.modSeat n (fun r => { r with binding := none })).seat n).binding = none := by
  rcases State.seat_modSeat_cases (n := n) (s := s) (fun r => { r with binding := none }) with h | ⟨h, -⟩
  · rw [h]
  · rw [h]
    rfl

theorem setSeatBinding_none_eq {n : Nat} {s : State} (h : (s.seat n).binding ≠ none) : setSeatBinding none n s =
    bindingReport n (stopChan n (loseSeat n (s.modSeat n (fun r => { r with binding := none })))) := by
  have hlost := seatLink_of_unbound _ n (binding_modSeat_none n s)
  unfold setSeatBinding
  rw [if_neg h]
  dsimp only
  rw [hlost]
  rfl

theorem binding_setSeatBinding_none (m n : Nat) (s : State) :
    ((setSeatBinding none m s).seat n).binding = if n = m then none else (s.seat n).binding := by
  rw [binding_of_settled ((setSeatBinding_keepsSeats none m s).seat n)]
  split
  · next h =>
    subst h
    exact binding_modSeat_none n s
  · next h => rw [State.seat_modSeat_ne h]

theorem besideSeats_setSeatBinding_none (n : Nat) (s : State) :
    (setSeatBinding none n s).besideSeats = s.besideSeats := by
  by_cases h : (s.seat n).binding = none
  · unfold setSeatBinding
    rw [if_pos h]
  · rw [setSeatBinding_none_eq h]
    exact (besideSeats_of_core (report_core _ _ _)).trans ((besideSeats_stopChan n _).trans
      ((besideSeats_loseSeat n _).trans (besideSeats_modSeat n _ s)))

theorem Severed.setSeatBinding_none {n : Nat} {s : State} (h : Severed n s) (m : Nat) :
    Severed n (setSeatBinding none m s) := by
  by_cases hb : (s.seat m).binding = none
  · unfold setSeatBinding
    rwa [if_pos hb]
  · rw [setSeatBinding_none_eq hb]
    exact (((h.unbound m).loseSeat m).stopChan m).of_core (report_core _ _ _)

/-- A seat that loses its binding is severed. -/
theorem setSeatBinding_none_severs {n : Nat} {s : State} (hn : n ∈ allSeats) (hs : Seated true none none s)
    (hb : (s.seat n).binding ≠ none) : Severed n (setSeatBinding none n s) := by
  have hlost := seatLink_of_unbound _ n (binding_modSeat_none n s)
  have hseated : Seated true none none (s.modSeat n (fun r => { r with binding := none })) :=
    hs.of_ledger (modSeat_ledger n (by intros; rfl) s)
  rw [setSeatBinding_none_eq hb]
  exact ((loseSeat_severs hn hseated hlost).stopChan n).of_core (report_core _ _ _)

theorem forAll_severs {α : Type} {l : List α} {op : α → State → State} {target : α → Nat → Prop} {I : State → Prop}
    (hI : ∀ a ∈ l, ∀ s, I s → I (op a s)) (hsevers : ∀ a ∈ l, ∀ s, I s → ∀ n, target a n → Severed n (op a s))
    (hkeeps : ∀ a s n, Severed n s → Severed n (op a s)) {s : State} (hs : I s) {a : α} (ha : a ∈ l) {n : Nat}
    (hn : target a n) : Severed n (forAll l op s) := by
  have kept (l : List α) {t : State} (ht : Severed n t) : Severed n (forAll l op t) :=
    forAll_preserves (fun a _ t ht => hkeeps a t n ht) ht
  induction l generalizing s with
  | nil => cases ha
  | cons c l ih =>
    rcases List.mem_cons.mp ha with rfl | ha
    · exact kept l (hsevers a List.mem_cons_self s hs n hn)
    · exact ih (fun a ha => hI a (List.mem_cons_of_mem c ha)) (fun a ha => hsevers a (List.mem_cons_of_mem c ha))
        (hI c List.mem_cons_self s hs) ha

end Sys2Proof.Machine

namespace Sys2Proof.Machine

/-! ## BRANCH_DOWN (09 R161, R169) -/

theorem dropInsertion_core (b : Branch) (s : State) : ∃ c, (dropInsertion b s).core =
    ({ s.modBr b (fun r => { r with insertion := none }) with cru := c } : State).core := by
  unfold dropInsertion
  split
  · next h =>
    refine ⟨s.cru, ?_⟩
    have hsame : s.modBr b (fun r => { r with insertion := none }) = s := modBr_eq_self (by rw [← h])
    rw [hsame]
  · exact ⟨_, answer_core _ _ _ _⟩

/-- The branch and its lane once the branch is DOWN, before the losses are passed on. -/
def goneDown (b : Branch) (s : State) : State :=
  branchReport b (dropInsertion b (stopLane b (s.modBr b (fun r =>
    { r with state := .down, table := r.table.map NodeEntry.lose, roll := none, upCount := 0, silence := 0 }))))

theorem takeDown_eq (b : Branch) (s : State) : takeDown b s =
    forAll ((s.br b).table.filter (fun e => e.link != .lost)) (fun e => passLoss ⟨b, e.position⟩ e false) (goneDown b s) := rfl

/-- The branch's record once it is DOWN. -/
def BranchRec.goneDown (r : BranchRec) : BranchRec :=
  { r with
    state := .down, table := r.table.map NodeEntry.lose, roll := none, upCount := 0, silence := 0, insertion := none }

theorem goneDown_core (b : Branch) (s : State) : ∃ c, (goneDown b s).core =
    ({ State.modBr b BranchRec.goneDown (stopLane b s) with cru := c } : State).core := by
  obtain ⟨c, hc⟩ := dropInsertion_core b (stopLane b (s.modBr b (fun r =>
    { r with state := .down, table := r.table.map NodeEntry.lose, roll := none, upCount := 0, silence := 0 })))
  refine ⟨c, (report_core _ _ _).trans (hc.trans ?_)⟩
  cases b <;> rfl

theorem goneDown_ledger (b : Branch) (s : State) : (goneDown b s).ledger = s.ledger := by
  unfold goneDown
  simp

theorem goneDown_seats (b : Branch) (s : State) : (goneDown b s).seats = s.seats := by
  obtain ⟨c, hc⟩ := goneDown_core b s
  refine (congrArg State.seats hc :).trans ?_
  cases b <;> rfl

theorem goneDown_br (b : Branch) (s : State) : (goneDown b s).br b = (s.br b).goneDown := by
  obtain ⟨c, hc⟩ := goneDown_core b s
  rw [br_of_core hc]
  cases b <;> rfl

/-- The lane of a branch that has gone DOWN: no turn, no inbound place taken (10 R188). -/
def Lane.quiet (l : Lane) : Prop := l.turn = .free ∧ l.places = []

theorem Lane.quiet_of_inner {l k : Lane} (h : l.inner = k.inner) (hk : k.quiet) : l.quiet :=
  ⟨(congrArg Lane.turn h :).trans hk.1, (congrArg Lane.places h :).trans hk.2⟩

theorem goneDown_lane (b : Branch) (s : State) : ((goneDown b s).lane b).quiet := by
  obtain ⟨c, hc⟩ := goneDown_core b s
  refine Lane.quiet_of_inner (laneInner_of_trunk (trunk_of_core hc) b) ?_
  cases b <;> exact ⟨rfl, rfl⟩

/-! The losses in turn -/

theorem passLoss_uncounted_br (d : Binding) (e : NodeEntry) (b : Branch) (s : State) :
    (passLoss d e false s).br b = s.br b := by
  have hbeside := besideSeats_lossAt d e s
  rw [passLoss_eq]
  dsimp only
  rw [br_modLane]
  exact br_of_besideSeats hbeside b

theorem losePosition_quiet {p : Nat} {l : Lane} (h : l.quiet) : (l.losePosition p).quiet := by
  have hsame : l.losePosition p = l := by
    unfold Lane.losePosition
    simp only [h.1]
  rw [hsame]
  exact h

theorem passLoss_quiet (d : Binding) (e : NodeEntry) (b : Branch) {s : State} (h : (s.lane b).quiet) :
    ((passLoss d e false s).lane b).quiet := by
  have hbeside := besideSeats_lossAt d e s
  have hat := Lane.quiet_of_inner (laneInner_of_besideSeats hbeside b) h
  rw [passLoss_eq]
  dsimp only
  by_cases hb : b = d.branch
  · rw [hb] at hat ⊢
    rw [lane_modLane_same]
    exact losePosition_quiet hat
  · rw [lane_modLane_ne hb]
    exact hat

theorem Severed.passLoss {n : Nat} {s : State} (h : Severed n s) (d : Binding) (e : NodeEntry) :
    Severed n (passLoss d e false s) := by
  have hat : Severed n (loseAt d (nodeReport d e .lost s)) := by
    have htold := h.of_core (nodeReport_core d e s .lost)
    unfold loseAt
    split
    · exact htold.loseSeat _
    · exact htold
  rw [passLoss_eq]
  exact hat.quiet (modLane_ledger _ _ _) (by rw [State.seat_of_seats (State.modLane_seats _ _ _)]; rfl)
    (fun b => br_modLane b _ _ _)

theorem passLoss_severs {d : Binding} {e : NodeEntry} {n : Nat} {s : State} (hs : Seated true none none s)
    (hn : s.seatAt? d = some n) (hl : s.linkOf (some d) = .lost) : Severed n (passLoss d e false s) := by
  have hcore := nodeReport_core d e s .lost
  obtain ⟨hmem, hbound⟩ := seatAt_spec hn
  have hlink : (nodeReport d e .lost s).seatLink n = .lost := by
    unfold State.seatLink
    rw [seat_of_core hcore, hbound, linkOf_of_core hcore, hl]
  have hat : Severed n (loseAt d (nodeReport d e .lost s)) := by
    unfold loseAt
    rw [seatAt?_of_core hcore, hn]
    exact loseSeat_severs hmem (hs.of_ledger (ledger_of_core hcore)) hlink
  rw [passLoss_eq]
  exact hat.quiet (modLane_ledger _ _ _) (by rw [State.seat_of_seats (State.modLane_seats _ _ _)]; rfl)
    (fun b => br_modLane b _ _ _)

theorem linkOf_of_all_lost {s : State} {b : Branch} (h : ∀ e ∈ (s.br b).table, e.link = .lost) (p : Nat) :
    s.linkOf (some ⟨b, p⟩) = .lost := by
  unfold State.linkOf
  dsimp only
  split
  · next e he => exact h e (List.mem_of_find?_eq_some he)
  · rfl

theorem seatAt?_of_bindings {s t : State} (h : ∀ n, (t.seat n).binding = (s.seat n).binding) (d : Binding) :
    t.seatAt? d = s.seatAt? d := by
  unfold State.seatAt?
  simp only [h]

theorem takeDown_pending (b : Branch) (s : State) : (takeDown b s).pending = s.pending := by
  rw [takeDown_eq, forAll_keeps State.pending _ (fun e t => passLoss_pending _ e t false)]
  have stopped (t : State) : (stopLane b t).pending = t.pending := rfl
  simp [goneDown, branchReport, stopped]

/-- Every entry of a branch that goes DOWN is LOST, and each seat of one that was not is severed. -/
theorem takeDown_facts (b : Branch) (s : State) :
    (takeDown b s).br b = (goneDown b s).br b ∧ ((takeDown b s).lane b).quiet ∧
    (Seated true none none s → ∀ e ∈ (s.br b).table, e.link ≠ .lost → ∀ n, s.seatAt? ⟨b, e.position⟩ = some n →
      Severed n (takeDown b s)) := by
  rw [takeDown_eq]
  refine ⟨?_, ?_, fun hs e he hl n hn => ?_⟩
  · exact forAll_keeps (·.br b) _ (fun e t => passLoss_uncounted_br _ e b t) _ _
  · exact forAll_preserves (P := fun t => (t.lane b).quiet) (fun e _ t ht => passLoss_quiet _ e b ht) (goneDown_lane b s)
  · let I (t : State) : Prop := Seated true none none t ∧ (∀ e ∈ (t.br b).table, e.link = .lost) ∧
      ∀ n, (t.seat n).binding = (s.seat n).binding
    have hstart : I (goneDown b s) := by
      refine ⟨hs.of_ledger (goneDown_ledger b s), fun x hx => ?_, fun m => by rw [State.seat_of_seats (goneDown_seats b s)]⟩
      rw [goneDown_br] at hx
      obtain ⟨y, -, rfl⟩ := List.mem_map.mp hx
      exact y.lose_facts.2.2
    refine forAll_severs (target := fun e n => s.seatAt? ⟨b, e.position⟩ = some n) (I := I)
      (fun x _ t ht => ⟨(seated_trunkFrame true).passLoss _ x false ht.1, ?_, fun m => ?_⟩)
      (fun x _ t ht m hm => passLoss_severs ht.1 ?_ (linkOf_of_all_lost ht.2.1 _))
      (fun x t m hm => hm.passLoss _ x) hstart
      (List.mem_filter.mpr ⟨he, by simpa using hl⟩) hn
    · rw [passLoss_uncounted_br]
      exact ht.2.1
    · exact (binding_of_settled (passLoss_keepsSeat _ x t false m)).trans (ht.2.2 m)
    · rw [seatAt?_of_bindings ht.2.2]
      exact hm

theorem branchDown_taken {b : Branch} {s : State} (h : (s.br b).state ≠ .down) : ∃ t, exec (.branchDown b) s = .next t ∧
    (t.br b).state = .down ∧ (t.br b).roll = none ∧
    (t.br b).table.map (fun e => (e.position, e.kind, e.serial)) =
      (s.br b).table.map (fun e => (e.position, e.kind, e.serial)) ∧
    (∀ e ∈ (t.br b).table, e.link = .lost) ∧ (t.lane b).turn = .free ∧ (t.lane b).places = [] ∧
    (TablesWhole s → ListsPlaced s → SeatsStandOnce s →
      ∀ e ∈ (s.br b).table, e.link ≠ .lost → ∀ n, s.seatAt? ⟨b, e.position⟩ = some n → t.released n) := by
  obtain ⟨hbr, hlane, hsevered⟩ := takeDown_facts b s
  have hpending : (wakeCheck (takeDown b s)).pending = s.pending := by
    rw [wakeCheck_pending, takeDown_pending]
  obtain ⟨t, ht, hc, -⟩ := finish_refresh (s := s) (u := wakeCheck (takeDown b s)) rfl hpending
  have htrunk : t.trunk = (takeDown b s).trunk := (trunk_of_core hc).trans (trunk_wakeCheck _)
  have hquiet := Lane.quiet_of_inner (laneInner_of_trunk htrunk b) hlane
  have hdown := (br_of_trunk htrunk b).trans (hbr.trans (goneDown_br b s))
  refine ⟨t, ?_, by rw [hdown]; rfl, by rw [hdown]; rfl, ?_, fun e he => ?_, hquiet.1, hquiet.2,
    fun hw hp ho e he hl n hn => ?_⟩
  · show execBranchDown b s = _
    unfold execBranchDown
    rw [if_neg (by simpa using h)]
    exact ht
  · rw [hdown]
    unfold BranchRec.goneDown
    dsimp only
    rw [List.map_map]
    refine List.map_congr_left (fun e _ => ?_)
    show (e.lose.position, e.lose.kind, e.lose.serial) = _
    rw [e.lose_position, e.lose_facts.1, e.lose_facts.2.1]
  · rw [hdown] at he
    obtain ⟨y, -, rfl⟩ := List.mem_map.mp he
    exact y.lose_facts.2.2
  · have hs := (seated_iff true s).mpr ⟨hw.1, hp, fun _ => ho⟩
    exact ((hsevered hs e he hl n hn).wakeCheck.of_core hc).released

end Sys2Proof.Machine

namespace Sys2Proof.Machine

/-! ## BRANCH_UP (09 R161, R164) -/

/-- A binding once nothing is bound on branch `b`. -/
def Binding.off (b : Branch) (d : Option Binding) : Option Binding := if onBranch b d then none else d

theorem Binding.off_off (b : Branch) (d : Option Binding) : off b (off b d) = off b d := by
  by_cases h : onBranch b d = true
  · have hoff : off b d = none := if_pos h
    rw [hoff]
    rfl
  · have hon : off b d = d := if_neg h
    rw [hon, hon]

theorem onBranch_iff (b : Branch) (d : Option Binding) : onBranch b d = true ↔ d.map (·.branch) = some b := by
  unfold onBranch
  exact beq_iff_eq

theorem Binding.off_eq (b : Branch) (d : Option Binding) :
    off b d = if d.map (·.branch) = some b then none else d := by
  unfold off
  simp only [onBranch_iff]

/-- A part of the hub that one operation of a list writes, the same way each time. -/
theorem forAll_writes {α β : Type} [DecidableEq α] {p : State → β} {g : β → β} (hg : ∀ x, g (g x) = g x) {k : α}
    {op : α → State → State} (hop : ∀ a s, p (op a s) = if a = k then g (p s) else p s) (l : List α) (s : State) :
    p (forAll l op s) = if k ∈ l then g (p s) else p s := by
  induction l generalizing s with
  | nil => rfl
  | cons a l ih =>
    have hstep : p (forAll (a :: l) op s) = if k ∈ l then g (p (op a s)) else p (op a s) := ih (op a s)
    rw [hstep, hop]
    by_cases ha : a = k
    · subst ha
      simp [hg]
    · have hne : ¬ k = a := fun h => ha h.symm
      simp [ha, hne]

section
variable {s t : State} (h : t.besideSeats = s.besideSeats)
include h

theorem line_of_besideSeats (l : Nat) : t.line l = s.line l := by
  have h1 : t.line1 = s.line1 := (congrArg State.line1 h :)
  have h2 : t.line2 = s.line2 := (congrArg State.line2 h :)
  unfold State.line
  rw [h1, h2]

theorem director_of_besideSeats : t.sd.inner = s.sd.inner := (congrArg State.sd h :)

end

section
variable {s t : State} (h : t.sd.inner = s.sd.inner)
include h

theorem screenBinding_of_director (k : Nat) : (t.screen k).binding = (s.screen k).binding := by
  have hs : t.sd.screens.map ScreenRec.inner = s.sd.screens.map ScreenRec.inner := (congrArg Director.screens h :)
  cases k with
  | zero => rfl
  | succ k =>
    have hk := congrArg (·.getD k Reset.screen.inner) hs
    rw [List.getD_map, List.getD_map] at hk
    exact (congrArg ScreenRec.binding hk :)

theorem cameraBinding_of_director (k : Nat) : (t.camera k).binding = (s.camera k).binding := by
  have hs : t.sd.cameras.map CameraRec.inner = s.sd.cameras.map CameraRec.inner := (congrArg Director.cameras h :)
  cases k with
  | zero => rfl
  | succ k =>
    have hk := congrArg (·.getD k Reset.camera.inner) hs
    rw [List.getD_map, List.getD_map] at hk
    exact (congrArg CameraRec.binding hk :)

end

/-! Screens and cameras -/

theorem binding_modScreen {g : Option Binding → Option Binding} (hg : g none = none) (m k : Nat) (s : State) :
    ((s.modScreen m (fun r => { r with binding := g r.binding })).screen k).binding =
      if m = k then g (s.screen k).binding else (s.screen k).binding := by
  cases m with
  | zero =>
    split
    · next h =>
      subst h
      exact hg.symm
    · rfl
  | succ m =>
    cases k with
    | zero => rfl
    | succ k =>
      simp only [State.modScreen, State.screen, List.getD_eq_getElem?_getD, List.getElem?_modify, Nat.succ.injEq]
      by_cases h : m = k
      · subst h
        cases s.sd.screens[m]? with
        | none => simpa [show Reset.screen.binding = none from rfl] using hg.symm
        | some r => simp
      · simp [h]

theorem binding_modCamera {g : Option Binding → Option Binding} (hg : g none = none) (m k : Nat) (s : State) :
    ((s.modCamera m (fun r => { r with binding := g r.binding })).camera k).binding =
      if m = k then g (s.camera k).binding else (s.camera k).binding := by
  cases m with
  | zero =>
    split
    · next h =>
      subst h
      exact hg.symm
    · rfl
  | succ m =>
    cases k with
    | zero => rfl
    | succ k =>
      simp only [State.modCamera, State.camera, List.getD_eq_getElem?_getD, List.getElem?_modify, Nat.succ.injEq]
      by_cases h : m = k
      · subst h
        cases s.sd.cameras[m]? with
        | none => simpa [show Reset.camera.binding = none from rfl] using hg.symm
        | some r => simp
      · simp [h]

/-! Lines -/

theorem setLineBinding_none_besideSeats (m : Nat) (s : State) : (setLineBinding none m s).besideSeats =
    (s.modLine m (fun r => { r with binding := none })).besideSeats := besideSeats_stopChan _ _

theorem line1_setLineBinding_none (m : Nat) (s : State) : (setLineBinding none m s).line1.binding =
    if m = 1 then none else s.line1.binding := by
  have h : (setLineBinding none m s).line1 = _ := (congrArg State.line1 (setLineBinding_none_besideSeats m s) :)
  rw [h]
  unfold State.besideSeats State.still State.core State.modLine
  by_cases h1 : m = 1
  · simp [h1]
  · by_cases h2 : m = 2 <;> simp [h1, h2]

theorem line2_setLineBinding_none (m : Nat) (s : State) : (setLineBinding none m s).line2.binding =
    if m = 2 then none else s.line2.binding := by
  have h : (setLineBinding none m s).line2 = _ := (congrArg State.line2 (setLineBinding_none_besideSeats m s) :)
  rw [h]
  unfold State.besideSeats State.still State.core State.modLine
  by_cases h1 : m = 1
  · simp [h1]
  · by_cases h2 : m = 2 <;> simp [h2, h1]

theorem modLine_keeps {β : Type} {p : State → β} (h : ∀ (s : State) (x y : LineRec), p { s with line1 := x, line2 := y } = p s)
    (m : Nat) (k : LineRec → LineRec) (s : State) : p (s.modLine m k) = p s := by
  unfold State.modLine
  split
  · exact h s _ s.line2
  · split
    · exact h s s.line1 _
    · rfl

theorem Severed.setLineBinding_none {n : Nat} {s : State} (h : Severed n s) (m : Nat) :
    Severed n (setLineBinding none m s) := by
  have moved : Severed n (s.modLine m (fun r => { r with binding := none })) := by
    refine h.quiet (modLine_keeps (p := State.ledger) (by intros; rfl) m _ s) ?_
      (fun b => modLine_keeps (p := (·.br b)) (by intros; cases b <;> rfl) m _ s)
    exact congrArg SeatRec.binding (State.seat_of_seats (modLine_keeps (p := State.seats) (by intros; rfl) m _ s) n)
  exact moved.stopChan _

end Sys2Proof.Machine

namespace Sys2Proof.Machine

/-! ## Everything bound on a branch becomes UNBOUND (09 R164) -/

/-- From `s` to `t` everything bound on branch `b` has become UNBOUND, no other binding has changed, and the seats that
lost theirs are severed. -/
structure Unbinds (b : Branch) (s t : State) : Prop where
  seat : ∀ n ∈ allSeats, (t.seat n).binding = Binding.off b (s.seat n).binding
  line : ∀ l, (t.line l).binding = Binding.off b (s.line l).binding
  screen : ∀ k ∈ List.range' 1 8, (t.screen k).binding = Binding.off b (s.screen k).binding
  camera : ∀ k ∈ List.range' 1 4, (t.camera k).binding = Binding.off b (s.camera k).binding
  severed : Seated true none none s → ∀ n ∈ allSeats, onBranch b (s.seat n).binding = true → Severed n t

/-! The four parts of the hub in turn -/

def unbindSeats (b : Branch) (s : State) : State :=
  forAll (allSeats.filter (fun n => onBranch b (s.seat n).binding)) (setSeatBinding none) s

def unbindLines (b : Branch) (s : State) : State :=
  forAll ([1, 2].filter (fun l => onBranch b (s.line l).binding)) (setLineBinding none) s

def unbindScreens (b : Branch) (s : State) : State :=
  forAll (List.range' 1 8) (fun k => State.modScreen k (fun r => { r with binding := Binding.off b r.binding })) s

def unbindCameras (b : Branch) (s : State) : State :=
  forAll (List.range' 1 4) (fun k => State.modCamera k (fun r => { r with binding := Binding.off b r.binding })) s

theorem unbindBranch_eq (b : Branch) (s : State) :
    unbindBranch b s = unbindCameras b (unbindScreens b (unbindLines b (unbindSeats b s))) := rfl

section
variable (b : Branch) (s : State)

theorem unbindSeats_besideSeats : (unbindSeats b s).besideSeats = s.besideSeats :=
  forAll_keeps State.besideSeats _ besideSeats_setSeatBinding_none _ s

theorem unbindSeats_binding {n : Nat} (hn : n ∈ allSeats) :
    ((unbindSeats b s).seat n).binding = Binding.off b (s.seat n).binding := by
  have hwrites := forAll_writes (p := fun u => (u.seat n).binding) (g := fun _ => none) (fun _ => rfl) (k := n)
    (op := setSeatBinding none) (fun a u => (binding_setSeatBinding_none a n u).trans (if_congr eq_comm rfl rfl))
    (allSeats.filter (fun n => onBranch b (s.seat n).binding)) s
  refine hwrites.trans ?_
  unfold Binding.off
  simp only [List.mem_filter, hn, true_and]

theorem unbindSeats_severs {s : State} (hs : Seated true none none s) {n : Nat} (hn : n ∈ allSeats)
    (hb : onBranch b (s.seat n).binding = true) : Severed n (unbindSeats b s) := by
  let l := allSeats.filter (fun n => onBranch b (s.seat n).binding)
  let I (t : State) : Prop := Seated true none none t ∧ ∀ m ∈ l, (t.seat m).binding ≠ none ∨ Severed m t
  have bound {t : State} (ht : I t) {a : Nat} (ha : a ∈ l) : Severed a (setSeatBinding none a t) := by
    rcases ht.2 a ha with hbound | hsev
    · exact setSeatBinding_none_severs (List.mem_of_mem_filter ha) ht.1 hbound
    · exact hsev.setSeatBinding_none a
  have hstart : I s := by
    refine ⟨hs, fun m hm => Or.inl (fun hnone => ?_)⟩
    have hon := (List.mem_filter.mp hm).2
    rw [hnone] at hon
    cases hon
  refine forAll_severs (target := fun a n => n = a) (I := I) (fun a ha t ht => ⟨?_, fun m hm => ?_⟩)
    (fun a ha t ht m hm => (by rw [hm]; exact bound ht ha)) (fun a t m hm => hm.setSeatBinding_none a) hstart
    (List.mem_filter.mpr ⟨hn, hb⟩) rfl
  · exact (seated_trunkFrame true).setSeatBinding none a ht.1
  · by_cases hma : m = a
    · subst hma
      exact Or.inr (bound ht ha)
    · rcases ht.2 m hm with hbound | hsev
      · refine Or.inl ?_
        rw [binding_setSeatBinding_none, if_neg hma]
        exact hbound
      · exact Or.inr (hsev.setSeatBinding_none a)

theorem unbindLines_line (l : Nat) : ((unbindLines b s).line l).binding = Binding.off b (s.line l).binding := by
  have first := forAll_writes (p := fun u => u.line1.binding) (g := fun _ => none) (fun _ => rfl) (k := 1)
    (op := setLineBinding none) line1_setLineBinding_none ([1, 2].filter (fun l => onBranch b (s.line l).binding)) s
  have second := forAll_writes (p := fun u => u.line2.binding) (g := fun _ => none) (fun _ => rfl) (k := 2)
    (op := setLineBinding none) line2_setLineBinding_none ([1, 2].filter (fun l => onBranch b (s.line l).binding)) s
  unfold State.line
  split
  · refine second.trans ?_
    unfold Binding.off
    simp [State.line]
  · refine first.trans ?_
    unfold Binding.off
    simp [State.line]

theorem unbindScreens_screen {k : Nat} (hk : k ∈ List.range' 1 8) :
    ((unbindScreens b s).screen k).binding = Binding.off b (s.screen k).binding :=
  (forAll_writes (p := fun u => (u.screen k).binding) (Binding.off_off b) (k := k)
    (fun a u => binding_modScreen (g := Binding.off b) rfl a k u) (List.range' 1 8) s).trans (if_pos hk)

theorem unbindCameras_camera {k : Nat} (hk : k ∈ List.range' 1 4) :
    ((unbindCameras b s).camera k).binding = Binding.off b (s.camera k).binding :=
  (forAll_writes (p := fun u => (u.camera k).binding) (Binding.off_off b) (k := k)
    (fun a u => binding_modCamera (g := Binding.off b) rfl a k u) (List.range' 1 4) s).trans (if_pos hk)

/-- What the screens' and the cameras' records do not touch, their unbinding leaves. -/
theorem unbindScreens_keeps {β : Type} {p : State → β} (h : ∀ k f t, p (State.modScreen k f t) = p t) :
    p (unbindScreens b s) = p s := forAll_keeps p _ (fun k t => h k _ t) _ s

theorem unbindCameras_keeps {β : Type} {p : State → β} (h : ∀ k f t, p (State.modCamera k f t) = p t) :
    p (unbindCameras b s) = p s := forAll_keeps p _ (fun k t => h k _ t) _ s

theorem unbindLines_keeps {β : Type} {p : State → β} (h : ∀ m t, p (setLineBinding none m t) = p t) :
    p (unbindLines b s) = p s := forAll_keeps p _ h _ s

theorem setLineBinding_none_keepsSeats (m : Nat) : KeepsSeats s (setLineBinding none m s) :=
  (KeepsSeats.of_seats (modLine_keeps (p := State.seats) (by intros; rfl) m _ s)
    (modLine_keeps (p := State.tables) (by intros; rfl) m _ s)).trans (stopChan_keepsSeats _ _)

end

end Sys2Proof.Machine

namespace Sys2Proof.Machine

theorem seats_modScreen (k : Nat) (f : ScreenRec → ScreenRec) (s : State) : (s.modScreen k f).seats = s.seats := by
  cases k <;> rfl

theorem seats_modCamera (k : Nat) (f : CameraRec → CameraRec) (s : State) : (s.modCamera k f).seats = s.seats := by
  cases k <;> rfl

theorem br_modScreen (a : Branch) (k : Nat) (f : ScreenRec → ScreenRec) (s : State) :
    (s.modScreen k f).br a = s.br a := by
  cases k <;> rfl

theorem br_modCamera (a : Branch) (k : Nat) (f : CameraRec → CameraRec) (s : State) :
    (s.modCamera k f).br a = s.br a := by
  cases k <;> rfl

theorem line_modScreen (l k : Nat) (f : ScreenRec → ScreenRec) (s : State) : (s.modScreen k f).line l = s.line l := by
  cases k <;> rfl

theorem line_modCamera (l k : Nat) (f : CameraRec → CameraRec) (s : State) : (s.modCamera k f).line l = s.line l := by
  cases k <;> rfl

theorem screen_modCamera (k m : Nat) (f : CameraRec → CameraRec) (s : State) :
    (s.modCamera m f).screen k = s.screen k := by
  cases m <;> rfl

theorem camera_modScreen (k m : Nat) (f : ScreenRec → ScreenRec) (s : State) :
    (s.modScreen m f).camera k = s.camera k := by
  cases m <;> rfl

theorem setLineBinding_none_br (a : Branch) (m : Nat) (s : State) : (setLineBinding none m s).br a = s.br a :=
  (br_of_besideSeats (setLineBinding_none_besideSeats m s) a).trans
    (modLine_keeps (p := (·.br a)) (by intros; cases a <;> rfl) m _ s)

theorem setLineBinding_none_screen (k m : Nat) (s : State) :
    ((setLineBinding none m s).screen k).binding = (s.screen k).binding :=
  (screenBinding_of_director (director_of_besideSeats (setLineBinding_none_besideSeats m s)) k).trans
    (modLine_keeps (p := fun u => (u.screen k).binding) (by intros; cases k <;> rfl) m _ s)

theorem setLineBinding_none_camera (k m : Nat) (s : State) :
    ((setLineBinding none m s).camera k).binding = (s.camera k).binding :=
  (cameraBinding_of_director (director_of_besideSeats (setLineBinding_none_besideSeats m s)) k).trans
    (modLine_keeps (p := fun u => (u.camera k).binding) (by intros; cases k <;> rfl) m _ s)

section
variable (b : Branch) (s : State)

theorem unbindBranch_br (a : Branch) : (unbindBranch b s).br a = s.br a := by
  rw [unbindBranch_eq, unbindCameras_keeps b _ (p := (·.br a)) (br_modCamera a),
    unbindScreens_keeps b _ (p := (·.br a)) (br_modScreen a),
    unbindLines_keeps b _ (p := (·.br a)) (setLineBinding_none_br a), br_of_besideSeats (unbindSeats_besideSeats b s)]

theorem Severed.unbindRest {n : Nat} {s : State} (h : Severed n s) :
    Severed n (unbindCameras b (unbindScreens b (unbindLines b s))) := by
  have lines : Severed n (unbindLines b s) := forAll_preserves (fun m _ t ht => ht.setLineBinding_none m) h
  have screens : Severed n (unbindScreens b (unbindLines b s)) :=
    lines.quiet (unbindScreens_keeps b _ (fun k f t => modScreen_ledger k f t))
      (congrArg SeatRec.binding (State.seat_of_seats (unbindScreens_keeps b _ seats_modScreen) n))
      (fun a => unbindScreens_keeps b _ (p := (·.br a)) (br_modScreen a))
  exact screens.quiet (unbindCameras_keeps b _ (fun k f t => modCamera_ledger k f t))
    (congrArg SeatRec.binding (State.seat_of_seats (unbindCameras_keeps b _ seats_modCamera) n))
    (fun a => unbindCameras_keeps b _ (p := (·.br a)) (br_modCamera a))

theorem unbindBranch_unbinds : Unbinds b s (unbindBranch b s) := by
  have hbeside := unbindSeats_besideSeats b s
  rw [unbindBranch_eq]
  refine ⟨fun n hn => ?_, fun l => ?_, fun k hk => ?_, fun k hk => ?_, fun hs n hn hb => ?_⟩
  · rw [State.seat_of_seats (unbindCameras_keeps b _ seats_modCamera),
      State.seat_of_seats (unbindScreens_keeps b _ seats_modScreen),
      unbindLines_keeps b _ (p := fun u => (u.seat n).binding)
        (fun m t => binding_of_settled ((setLineBinding_none_keepsSeats t m).seat n))]
    exact unbindSeats_binding b s hn
  · rw [unbindCameras_keeps b _ (p := (·.line l)) (line_modCamera l),
      unbindScreens_keeps b _ (p := (·.line l)) (line_modScreen l), unbindLines_line,
      line_of_besideSeats hbeside]
  · rw [unbindCameras_keeps b _ (p := fun u => (u.screen k).binding) (fun m f t => by rw [screen_modCamera]),
      unbindScreens_screen b _ hk, unbindLines_keeps b _ (p := fun u => (u.screen k).binding)
        (setLineBinding_none_screen k), screenBinding_of_director (director_of_besideSeats hbeside)]
  · rw [unbindCameras_camera b _ hk,
      unbindScreens_keeps b _ (p := fun u => (u.camera k).binding) (fun m f t => by rw [camera_modScreen]),
      unbindLines_keeps b _ (p := fun u => (u.camera k).binding) (setLineBinding_none_camera k),
      cameraBinding_of_director (director_of_besideSeats hbeside)]
  · exact (unbindSeats_severs b hs hn hb).unbindRest b

end

namespace Unbinds

variable {b : Branch} {s v w t : State}

/-- The same, told from a state with the same seats, lines, screens and cameras. -/
theorem told_from (h : Unbinds b v w) (hseats : v.seats = s.seats) (h1 : v.line1 = s.line1) (h2 : v.line2 = s.line2)
    (hsd : v.sd.inner = s.sd.inner) (hledger : v.ledger = s.ledger) : Unbinds b s w where
  seat n hn := by
    rw [h.seat n hn, State.seat_of_seats hseats]
  line l := by
    have hl : v.line l = s.line l := by
      unfold State.line
      rw [h1, h2]
    rw [h.line l, hl]
  screen k hk := by
    rw [h.screen k hk, screenBinding_of_director hsd]
  camera k hk := by
    rw [h.camera k hk, cameraBinding_of_director hsd]
  severed hs n hn hb := by
    refine h.severed (hs.of_ledger hledger) n hn ?_
    rw [State.seat_of_seats hseats]
    exact hb

theorem of_core (h : Unbinds b s w) (ht : t.core = w.core) : Unbinds b s t where
  seat n hn := by
    rw [seat_of_core ht]
    exact h.seat n hn
  line l := by
    rw [line_of_besideSeats (besideSeats_of_core ht)]
    exact h.line l
  screen k hk := by
    rw [screenBinding_of_director (director_of_besideSeats (besideSeats_of_core ht))]
    exact h.screen k hk
  camera k hk := by
    rw [cameraBinding_of_director (director_of_besideSeats (besideSeats_of_core ht))]
    exact h.camera k hk
  severed hs n hn hb := (h.severed hs n hn hb).of_core ht

theorem chooseWall (h : Unbinds b s w) : Unbinds b s (chooseWall w) where
  seat n hn := h.seat n hn
  line := h.line
  screen := h.screen
  camera := h.camera
  severed hs n hn hb := (h.severed hs n hn hb).quiet (chooseWall_ledger w) rfl (fun _ => rfl)

end Unbinds

/-! ## The start of an enumeration, and of a BEACON branch -/

theorem chooseAddress_core (s : State) : ∃ c, (chooseAddress s).core = ({ s with cru := c } : State).core := by
  unfold chooseAddress hello
  split
  · exact ⟨s.cru, rfl⟩
  · split
    · exact ⟨_, report_core _ _ _⟩
    · exact ⟨_, rfl⟩

theorem chooseWall_br (a : Branch) (s : State) : (chooseWall s).br a = s.br a := by
  cases a <;> rfl

theorem branchReport_core (b : Branch) (s : State) : (branchReport b s).core = s.core := report_core _ _ _

/-- The branch's record when its table has been emptied, its insertion aside. -/
def BranchRec.cleared (dest : BranchState) (roll : Option Roll) (r : BranchRec) : BranchRec :=
  { r with state := dest, table := [], roll := roll, upCount := 0, silence := 0, enumEnded := false }

/-- The branch's record when its table has been emptied. -/
def BranchRec.emptied (dest : BranchState) (roll : Option Roll) (r : BranchRec) : BranchRec :=
  { r.cleared dest roll with insertion := none }

/-- The hub with the branch's table emptied, before anything becomes UNBOUND. -/
def emptied (b : Branch) (dest : BranchState) (roll : Option Roll) (s : State) : State :=
  chooseAddress (branchReport b ((dropInsertion b s).modBr b (BranchRec.cleared dest roll)))

section
variable (b : Branch) (dest : BranchState) (roll : Option Roll) (s : State)

theorem emptyTable_eq : emptyTable b dest roll s = chooseWall (unbindBranch b (emptied b dest roll s)) := rfl

theorem emptied_core : ∃ c, (emptied b dest roll s).core =
    ({ State.modBr b (BranchRec.emptied dest roll) s with cru := c } : State).core := by
  obtain ⟨c, hc⟩ := dropInsertion_core b s
  obtain ⟨c', hc'⟩ := chooseAddress_core (branchReport b ((dropInsertion b s).modBr b (BranchRec.cleared dest roll)))
  have hcleared := (branchReport_core b ((dropInsertion b s).modBr b (BranchRec.cleared dest roll))).trans
    (modBr_core_congr hc b (BranchRec.cleared dest roll))
  refine ⟨c', hc'.trans ((congrArg (fun u : State => { u with cru := c'.inner }) hcleared).trans ?_)⟩
  cases b <;> rfl

theorem emptied_ledger : (emptied b dest roll s).ledger = s.ledger := by
  unfold emptied
  simp

theorem emptyTable_unbinds : Unbinds b s (emptyTable b dest roll s) := by
  obtain ⟨c, hc⟩ := emptied_core b dest roll s
  have hseats : (emptied b dest roll s).seats = s.seats := (congrArg State.seats hc :).trans (State.modBr_seats b _ s)
  have h1 : (emptied b dest roll s).line1 = s.line1 := (congrArg State.line1 hc :).trans (State.modBr_line1 b _ s)
  have h2 : (emptied b dest roll s).line2 = s.line2 := (congrArg State.line2 hc :).trans (State.modBr_line2 b _ s)
  have hsd : (emptied b dest roll s).sd.inner = s.sd.inner :=
    (congrArg State.sd hc :).trans (congrArg Director.inner (State.modBr_sd b _ s))
  have hunbinds := (unbindBranch_unbinds b _).told_from hseats h1 h2 hsd (emptied_ledger b dest roll s)
  rw [emptyTable_eq]
  exact hunbinds.chooseWall

theorem emptyTable_br : (emptyTable b dest roll s).br b = (s.br b).emptied dest roll := by
  obtain ⟨c, hc⟩ := emptied_core b dest roll s
  rw [emptyTable_eq, chooseWall_br, unbindBranch_br, br_of_core hc]
  exact br_modBr_same b _ s

end

/-- The state and the roll of a branch that comes up. -/
theorem bringUp_facts (b : Branch) (s : State) : Unbinds b s (bringUp b s) ∧
    ((bringUp b s).br b).state = (if s.pwr.state = .sleep then .beacon else .enumerating) ∧
    ((bringUp b s).br b).table = [] ∧
    ((bringUp b s).br b).roll = (if s.pwr.state = .sleep then none else some ⟨1, true, 0, 0, []⟩) := by
  unfold bringUp
  by_cases hsleep : s.pwr.state = .sleep
  · rw [if_pos (by simpa using hsleep), if_pos hsleep, if_pos hsleep, emptyTable_br]
    exact ⟨emptyTable_unbinds b _ _ s, rfl, rfl, rfl⟩
  · rw [if_neg (by simpa using hsleep), if_neg hsleep, if_neg hsleep]
    unfold startEnumeration
    rw [emptyTable_br]
    exact ⟨(emptyTable_unbinds b _ _ _).told_from rfl rfl rfl rfl (stopLane_ledger b s), rfl, rfl, rfl⟩

theorem bringUp_pending (b : Branch) (s : State) : (bringUp b s).pending = s.pending := by
  unfold bringUp
  split
  · exact emptyTable_pending _ _ _ s
  · exact startEnumeration_pending b s

/-- Settles O45: a branch that comes up unbinds seat by seat, line by line, screen by screen and camera by camera; one
that goes DOWN passes each loss on. A seat that has lost its binding or its link is severed, and what follows in the same
step, the pending event of a wake with it, grants it nothing. -/
theorem branchesComeUpAndGoDown : Obligations.BranchesComeUpAndGoDown := by
  refine fun b s => ⟨fun h => ?_, fun h => ?_, fun h => ?_, fun h => branchDown_taken h⟩
  · obtain ⟨hunbinds, hstate, htable, hroll⟩ := bringUp_facts b s
    obtain ⟨t, ht, hc, -⟩ := finish_refresh (s := s) (u := bringUp b s) rfl (bringUp_pending b s)
    have hbr : t.br b = (bringUp b s).br b := br_of_core hc b
    have hexec : exec (.branchUp b) s = .next t := by
      show execBranchUp b s = _
      unfold execBranchUp
      rw [if_pos (by simpa using h)]
      exact ht
    obtain ⟨hseat, hline, hscreen, hcamera, hsevered⟩ := hunbinds.of_core hc
    simp only [Binding.off_eq] at hseat hline hscreen hcamera
    refine ⟨t, hexec, by rw [hbr, hstate], by rw [hbr, htable], by rw [hbr, hroll], hseat, hline, hscreen, hcamera,
      fun hw hp ho n hn hb => ?_⟩
    exact (hsevered ((seated_iff true s).mpr ⟨hw.1, hp, fun _ => ho⟩) n hn ((onBranch_iff b _).mpr hb)).released
  · show execBranchUp b s = _
    unfold execBranchUp
    rw [if_neg (by simpa using h)]
    exact finish_of_pending s s rfl
  · show execBranchDown b s = _
    unfold execBranchDown
    rw [if_pos (by simpa using h)]
    exact finish_of_pending s s rfl

end Sys2Proof.Machine
